-- ==== Sys2Proof/Word.lean ====
section
/-! DEFINITION. The word type of the part (spec/00_scope.md, Conventions: a word is 32 bits). -/

namespace Sys2Proof

/-- A word: 32 bits. Registers, frame words and memory data are words. -/
abbrev Word := BitVec 32

end Sys2Proof
end

