-- ==== Sys2Proof/Config.lean ====
section
/-! DEFINITION. What is fixed for the part, and what the manual leaves free.
The two parts of the family, the figures of the part-wide table of spec/00_scope.md, and the values that R16 and R18 leave
open. -/

namespace Sys2Proof

/-- The two parts of the family (spec/00_scope.md, The Belsoro family). They differ only in memory size. -/
inductive Part where
  | bso2404
  | bso2408
deriving DecidableEq, Repr, Inhabited

/-- The memory size in 32-bit words (R16). -/
def Part.memWords : Part → Nat
  | .bso2404 => 131072
  | .bso2408 => 262144

/-- The number of memory tiers (R181). -/
def Part.tiers : Part → Nat
  | .bso2404 => 2
  | .bso2408 => 4

/-- The three outcomes of one word read (R18). -/
inductive ReadOutcome where
  | clean
  | corrected
  | uncorrectable
deriving DecidableEq, Repr, Inhabited

/-- FREE VALUE (assumption 1). R18: a fault of more than two bits may read as any of the three outcomes. The outcome
depends on the word last written and on which of the 39 stored bits have been disturbed since, so that it is the same at
every later read until the word is rewritten. -/
opaque Config.manyBitOutcome : Word → BitVec 39 → ReadOutcome

/-- FREE VALUE (assumption 1). R18: where a fault of more than two bits reads as corrected, the stored bit that the part
puts right. -/
opaque Config.manyBitFix : Word → BitVec 39 → Fin 39

/-- FREE VALUE (assumption 2). The 7-bit check code of a word (R16). No register, port or command shows it, and the
manual does not give the code. -/
opaque Config.checkCode : Word → BitVec 7

/-- FIFO entries per lane (R81). -/
def Config.fifoDepth : Nat := 32
/-- Words of one grant at most (R33). -/
def Config.burstWords : Nat := 8
/-- Event Log entries (R152). -/
def Config.logEntries : Nat := 32
/-- Command Queue entries, the executing command included (R135). -/
def Config.commandEntries : Nat := 4
/-- Host Window write buffer entries (R120). -/
def Config.bufferEntries : Nat := 4
/-- Submit queue entries per egress lane (R53). -/
def Config.submitEntries : Nat := 8
/-- Slots one lane may own (R64, check 6). -/
def Config.ownedSlots : Nat := 16
/-- Completed transactions that close the supervisor's window (R169). -/
def Config.windowSize : Nat := 16
/-- Largest count of COPY and FILL (R142, R145). -/
def Config.maxCount : Nat := 262144
/-- Device clocks in one unit of the stall limit (R4). -/
def Config.stallUnit : Nat := 16

end Sys2Proof
end

