-- ==== Sys2Proof/Syntax.lean ====
section
/-! DEFINITION. The commands of the part: one constructor for each row of spec/opcode_table.json.

The part takes three kinds of occurrence. The host's register accesses, the stream partners' transfers, the pins and the
ticks come from outside. Grant ends come from the Memory Arbiter. The operations of the Slot Manager, and the other
occurrences that R57, R165 and R174 cause, fall due inside the part and are rows too (spec/95_what_each_step_holds.md). -/

namespace Sys2Proof

/-- A lane, L0 to L3. -/
abbrev LaneId := Fin 4

/-- A slot index, 0 to 63 (R47). -/
abbrev SlotId := Fin 64

/-- One of the two Host Window pointers (R120). -/
inductive Ptr where
  | a
  | b
deriving DecidableEq, Repr

/-- A disturbance of one stored word (R18): the set bits name the stored bits that flipped, data bits 31 to 0 below the
seven check bits. Disturbances happen outside the part, which learns of them at a read; a read grant's row carries those
that came about before the read. -/
structure Flip where
  addr : Nat
  bits : BitVec 39
deriving DecidableEq, Repr

/-- The rows of spec/opcode_table.json. A register row carries the written word; a row of one lane carries the lane. The
fifteen command rows carry no operand: a command uses only the code, tag and parameters of its queue entry (R133, R63). -/
inductive Instr where
  /-- REGISTER_WRITE (R11): a write of a register by its address. -/
  | registerWrite (addr : BitVec 8) (data : Word)
  /-- TIMEOUT (R5): the stall count reaches the stall limit. -/
  | timeout
  /-- ABORT (R6): H_ABT is sampled at `level`; a change from deasserted to asserted is the abort. -/
  | abort (level : Bool)
  /-- HOST_ERR_WRITE (R9). -/
  | hostErrWrite (data : Word)
  /-- CFG_LOCK_WRITE (R13). -/
  | cfgLockWrite (data : Word)
  /-- RESET_ARM (R14): a write of RESET_ARM. -/
  | resetArm (data : Word)
  /-- RESET_GO (R14): a write of RESET_GO. -/
  | resetGo (data : Word)
  /-- WIN_DATA_READ (R126). -/
  | winDataRead (p : Ptr)
  /-- WIN_DATA_WRITE (R124). -/
  | winDataWrite (p : Ptr) (data : Word)
  /-- SLOT_SEL_WRITE (R71). -/
  | slotSelWrite (data : Word)
  /-- SNAPSHOT (R71): the Slot Manager serves the requested snapshot. -/
  | snapshot
  /-- SLOT_DATA_READ (R72). -/
  | slotDataRead
  /-- EVT_DATA_READ (R157). -/
  | evtDataRead
  /-- EVT_LOST_READ (R154). -/
  | evtLostRead
  /-- ECC_CORR_COUNT_READ (R23). -/
  | eccCorrCountRead
  /-- ECC_UNCORR_COUNT_READ (R22). -/
  | eccUncorrCountRead
  /-- LN_CNT_DATA_READ (R80). -/
  | lnCntDataRead (n : LaneId)
  /-- ACKNOWLEDGE (R162): a read of IRQ_VECTOR. -/
  | acknowledge
  /-- EOI (R163): a write of IRQ_EOI. -/
  | eoi (data : Word)
  /-- IRQ_PENDING_WRITE (R159). -/
  | irqPendingWrite (data : Word)
  /-- ENGINE_ABORT (R148): a write of ENGINE_ABORT. -/
  | engineAbort (data : Word)
  /-- SUP_ARM (R169): a write of SUP_ARM. -/
  | supArm (data : Word)
  /-- SUP_KICK (R169): a write of SUP_KICK. -/
  | supKick (data : Word)
  /-- WINDOW_CLOSED (R169): the window whose count has reached 16 closes. -/
  | windowClosed
  /-- SCRUB_CFG_WRITE (R27). -/
  | scrubCfgWrite (data : Word)
  /-- TB_PRESCALE_WRITE (R166). -/
  | tbPrescaleWrite (data : Word)
  /-- LN_CFG_WRITE (R76). -/
  | lnCfgWrite (n : LaneId) (data : Word)
  /-- RUN (R172): a POWER_CTRL write that requests RUN. -/
  | run (data : Word)
  /-- DOZE (R172): a POWER_CTRL write that requests DOZE. -/
  | doze (data : Word)
  /-- RETAIN (R172): a POWER_CTRL write that requests RETAIN. -/
  | retain (data : Word)
  /-- SLOT_ASSIGN (R64): the head command, code 0x01, is dispatched and executed. -/
  | slotAssign
  /-- SLOT_UNASSIGN (R65), code 0x02. -/
  | slotUnassign
  /-- CLAIM (R66), code 0x03. -/
  | claim
  /-- ALLOC (R67), code 0x04. -/
  | alloc
  /-- RELEASE (R68), code 0x05. -/
  | release
  /-- SUBMIT (R69), code 0x06. -/
  | submit
  /-- LANE_START (R77), code 0x10. -/
  | laneStart
  /-- LANE_STOP (R78), code 0x11. -/
  | laneStop
  /-- LANE_HALT (R79), code 0x12. -/
  | laneHalt
  /-- HALT_AT_GRANT_END (R79): the operation of a LANE_HALT that waited for its lane's grant. -/
  | haltAtGrantEnd
  /-- LANE_FLUSH (R94), code 0x13. -/
  | laneFlush
  /-- BIND (R102), code 0x14. -/
  | bind
  /-- COPY (R142), code 0x20. -/
  | copy
  /-- FILL (R145), code 0x21. -/
  | fill
  /-- MEASURE (R146), code 0x22. -/
  | measure
  /-- SYNC (R147), code 0x23. -/
  | sync
  /-- UNKNOWN_COMMAND (R135): the head command's code names no command. -/
  | unknownCommand
  /-- COMMAND_DISPATCH (R136): the head command, whatever its code, is dispatched and executed. -/
  | commandDispatch
  /-- INGRESS_GRANT_END (R88). -/
  | ingressGrantEnd
  /-- EGRESS_GRANT_END (R110). -/
  | egressGrantEnd (flips : List Flip)
  /-- WINDOW_WRITE_GRANT_END (R125). -/
  | windowWriteGrantEnd
  /-- WINDOW_READ_GRANT_END (R127). -/
  | windowReadGrantEnd (flips : List Flip)
  /-- COPY_READ_GRANT_END (R144). -/
  | copyReadGrantEnd (flips : List Flip)
  /-- COPY_WRITE_GRANT_END (R143). -/
  | copyWriteGrantEnd
  /-- FILL_GRANT_END (R145). -/
  | fillGrantEnd
  /-- MEASURE_GRANT_END (R146). -/
  | measureGrantEnd (flips : List Flip)
  /-- SCRUB_GRANT_END (R29). -/
  | scrubGrantEnd (flips : List Flip)
  /-- SCRUB_REQUEST (R28): the interval count has reached N at a tick. -/
  | scrubRequest
  /-- WORD_ARRIVAL (R82): the partner of lane `n` offers a word at a DCLK edge. -/
  | wordArrival (n : LaneId) (data : Word) (sof eof : Bool)
  /-- PUBLISH (R58). -/
  | publish (n : LaneId)
  /-- ALLOCATE (R61). -/
  | allocate (n : LaneId)
  /-- TAKE (R60). -/
  | take (n : LaneId)
  /-- WORD_SENT (R100): the partner of lane `n` is ready at a DCLK edge. -/
  | wordSent (n : LaneId)
  /-- RETURN (R59). -/
  | ret (n : LaneId)
  /-- TRIGGER_EDGE (R105): Ln_TRIG of lane `n` is sampled at `level`; true after false is the edge. -/
  | triggerEdge (n : LaneId) (level : Bool)
  /-- TIMEBASE_TICK (R165): the prescale count reaches TB_PRESCALE. -/
  | timebaseTick
  /-- SUP_WARNING (R168): a tick has taken the supervisor counter to WARN. -/
  | supWarning
  /-- SUP_EXPIRED (R170): a tick has taken the supervisor counter to SUP_TIMEOUT. -/
  | supExpired
  /-- INIT_DONE (R25): the init sweep writes its last word. -/
  | initDone
  /-- POWER_ON_RESET (R174), with the level of SUPEN as the reset completes. -/
  | powerOnReset (supen : Bool)
  /-- PIN_RESET (R174): RSTN is driven low. `cut` is how many words of the grant in progress, if any, had been accessed
  when it is cut (R45). -/
  | pinReset (cut : Nat)
  /-- RSTN_RELEASE (R174), with the level of SUPEN as the reset completes. -/
  | rstnRelease (supen : Bool)
  /-- SUPERVISOR_RESET (R176): a due supervisor reset takes effect. -/
  | supervisorReset
  /-- SOFT_RESET (R175): a due soft reset takes effect. -/
  | softReset
  /-- CMD_ISSUE (R134): a write of CMD_ISSUE. -/
  | cmdIssue (data : Word)
  /-- REGISTER_READ (R3): a read of a register by its address. -/
  | registerRead (addr : BitVec 8)
deriving DecidableEq, Repr

end Sys2Proof
end

