-- ==== Sys2Proof/Decode.lean ====
section
/-! DEFINITION. The command that a word spells. spec/opcode_table.json gives no row any bits: the part has no encoded
instruction stream, its commands are accesses, transfers, pins and internal occurrences. No word spells a command. -/

namespace Sys2Proof

/-- The command that `nbits` bits `w` spell by the table's bits. No row of the table has bits, so there is none. -/
def decodeTableWord (_nbits _w : Nat) : Option Instr := none

end Sys2Proof
end

