-- ==== Sys2Proof/Machine/State.lean ====
section
/-! DEFINITION. Everything the manual says the part holds, as plain data, and the state right after power-on reset.
Each group of fields cites the rule that names it; INVENTORY.md lists them one by one with widths and reset values. -/

namespace Sys2Proof.Machine

/-! ## Stacked memory (R16 to R31) -/

/-- One stored word: the word last written, and which of the 39 stored bits (32 data bits below 7 check bits, R16) have
been disturbed since. The stored data bits and the stored check code are computed from the two (Machine/Memory.lean). -/
structure Cell where
  word  : Word
  flips : BitVec 39
deriving DecidableEq, Repr

/-- What a word address that memory does not list holds: 0, undisturbed, as the init sweep leaves it (R25). -/
def Cell.unlisted : Cell := ⟨0, 0⟩

/-- The stacked memory: word addresses with their cells, in the canonical form of `Memory.wf`. -/
abbrev Memory := List (Nat × Cell)

/-- The init sweep's state (R26). -/
structure Sweep where
  running     : Bool
  next        : Nat
  initialized : Bool
deriving DecidableEq, Repr

/-- The readers that ECC_LAST_ADDR records (R22). -/
inductive Reader where
  | lane (n : LaneId)
  | window
  | engine
  | scrubber
deriving DecidableEq, Repr

/-- ECC_LAST_ADDR (R22). -/
structure LastAddr where
  valid  : Bool
  addr   : Nat
  reader : Reader
deriving DecidableEq, Repr

/-- The memory block's error reporting (R22, R23). -/
structure Ecc where
  corrCount   : BitVec 16
  uncorrCount : BitVec 16
  last        : LastAddr
  reportArmed : Bool
deriving DecidableEq, Repr

/-- The Scrubber (R27). -/
structure Scrubber where
  enabled     : Bool
  n           : BitVec 16
  passEvent   : Bool
  pos         : Nat
  interval    : BitVec 16
  request     : Bool
  corrTally   : BitVec 16
  uncorrTally : BitVec 16
deriving DecidableEq, Repr

/-! ## Memory Arbiter (R32 to R45) -/

/-- Who holds a grant, and for which of its purposes (R32). -/
inductive Client where
  | ingress (n : LaneId)
  | egress (n : LaneId)
  | winWrite
  | winRead
  | copyRead
  | copyWrite
  | fill
  | measure
  | scrub
deriving DecidableEq, Repr

/-- A grant in progress (R33): `count` words from `addr` upward, fixed at its decision (R34). -/
structure Grant where
  who   : Client
  addr  : Nat
  count : Nat
deriving DecidableEq, Repr

/-- The Arbiter's state and ARB_CFG (R38, R42, R43), with the grant in progress (R36). -/
structure Arbiter where
  grant     : Option Grant
  pointer   : LaneId
  lossCount : BitVec 8
  escalate  : BitVec 8
  hostFirst : Bool
deriving DecidableEq, Repr

/-! ## Slots, pools and queues (R47 to R74) -/

/-- The eight slot states (R50), in the order of their codes (R73). -/
inductive SlotSt where
  | unassigned
  | free
  | filling
  | ready
  | draining
  | linger
  | claimed
  | quarantined
deriving DecidableEq, Repr

/-- The owner of a slot (R47). -/
inductive Owner where
  | none
  | lane (n : LaneId)
  | host
deriving DecidableEq, Repr

/-- The flags of a slot record (R49), but for STATS_VALID, which is set exactly while the record holds statistics (R47). -/
structure SlotFlags where
  truncated   : Bool
  cut         : Bool
  wordsLost   : Bool
  eccFixed    : Bool
  eccBad      : Bool
  repeated    : Bool
  hostBuilt   : Bool
  crcMismatch : Bool
deriving DecidableEq, Repr

/-- The empty set of flags. -/
def SlotFlags.clear : SlotFlags := ⟨false, false, false, false, false, false, false, false⟩

/-- Frame statistics (R47, R97). -/
structure Stats where
  crc       : Word
  ones      : Nat
  leadZeros : Nat
  allZero   : Bool
deriving DecidableEq, Repr

/-- The Frame Inspector's running statistics over the words taken in so far (R96, R97): the CRC register before its final
inversion, the ones, the leading zeros, and whether a 1 bit has been met. -/
structure RunningStats where
  crcReg    : Word
  ones      : Nat
  leadZeros : Nat
  sawOne    : Bool
deriving DecidableEq, Repr

/-- A slot record (R47). -/
structure Slot where
  st       : SlotSt
  owner    : Owner
  base     : Nat
  capacity : Nat
  length   : Nat
  seq      : BitVec 16
  repeats  : BitVec 16
  stamp    : Word
  flags    : SlotFlags
  stats    : Option Stats
deriving DecidableEq, Repr

/-- The record of an UNASSIGNED slot: every field cleared (R48). -/
def Slot.unassigned : Slot := ⟨.unassigned, .none, 0, 0, 0, 0, 0, 0, SlotFlags.clear, none⟩

/-- The slot record read port (R71, R72). -/
structure SlotPort where
  sel     : SlotId
  wordSel : Fin 9
  shadow  : Vector Word 9
deriving DecidableEq, Repr

/-! ## Lanes (R75 to R119) -/

inductive Dir where
  | none
  | ingress
  | egress
deriving DecidableEq, Repr

/-- The lane states (R75). -/
inductive LaneSt where
  | off
  | stopped
  | running
  | stopping
deriving DecidableEq, Repr

/-- The substates of the frame logic: IDLE, then the ingress ones (R83), then the egress ones (R101). -/
inductive Substate where
  | idle
  | receiving
  | discarding
  | stalled
  | taking
  | sending
  | sendingFill
  | closing
deriving DecidableEq, Repr

inductive IngressPolicy where
  | dropNew
  | overwriteOldest
  | stall
deriving DecidableEq, Repr

inductive EgressPolicy where
  | idle
  | repeatLast
  | emitFill
deriving DecidableEq, Repr

/-- The fields of LN_CFG (R76). -/
structure LaneCfg where
  dir          : Dir
  backpressure : Bool
  inPolicy     : IngressPolicy
  egPolicy     : EgressPolicy
  triggered    : Bool
  inspect      : Bool
  crcCheck     : Bool
  frameEvents  : Bool
deriving DecidableEq, Repr

/-- One FIFO entry. An ingress entry holds the word, its markers, its LOSS marker and the TB_COUNT value of an SOF word
(R81), and `acted`, set once its SOF marker has been acted on (R83). An egress entry holds the word and `err` (R110). -/
structure FifoEntry where
  data  : Word
  sof   : Bool
  eof   : Bool
  loss  : Bool
  acted : Bool
  err   : Bool
  stamp : Word
deriving DecidableEq, Repr

/-- The thirteen counters of a lane (R80). -/
structure Counters where
  published      : BitVec 16
  dropped        : BitVec 16
  overwritten    : BitVec 16
  truncated      : BitVec 16
  cut            : BitVec 16
  wordsLost      : BitVec 16
  strayWords     : BitVec 16
  sent           : BitVec 16
  repeated       : BitVec 16
  fills          : BitVec 16
  triggersMissed : BitVec 16
  crcMismatch    : BitVec 16
  eccWords       : BitVec 16
deriving DecidableEq, Repr

/-- Every counter at 0. -/
def Counters.zero : Counters := ⟨0, 0, 0, 0, 0, 0, 0, 0, 0, 0, 0, 0, 0⟩

/-- One lane: its configuration and state, FIFO, lists and places, frame logic and counters. The lists are the lane's free
list, ready queue and submit queue (R52, R53); `cur` and `linger` its current and linger places (R50). `frameSeq` and
`frameStamp` belong to the frame an ingress lane has begun (R84), `inspecting` to the statistics it builds (R98).
`fetched`, `sent`, `frameLen` and `checking` belong to the frame an egress lane sends (R110, R112), `fillSent` to its fill
frame (R109). `trig` is the last sample of Ln_TRIG (R105). -/
structure Lane where
  cfg         : LaneCfg
  st          : LaneSt
  markLo      : Nat
  markHi      : Nat
  fillLen     : BitVec 16
  fillWord    : Word
  fifo        : List FifoEntry
  nextSeq     : BitVec 16
  sub         : Substate
  cur         : Option SlotId
  linger      : Option SlotId
  freeList    : List SlotId
  readyQ      : List SlotId
  submitQ     : List SlotId
  binding     : Option LaneId
  counters    : Counters
  cntSel      : BitVec 4
  lossPending : Bool
  strayArmed  : Bool
  frameSeq    : BitVec 16
  frameStamp  : Word
  inspecting  : Option RunningStats
  fetched     : Nat
  sent        : Nat
  frameLen    : Nat
  checking    : Option Word
  fillSent    : Nat
  trig        : Bool
deriving DecidableEq, Repr

/-- LN_CFG after every reset (R76). -/
def LaneCfg.reset : LaneCfg :=
  ⟨.none, false, .dropNew, .idle, false, false, false, false⟩

/-- A lane after every reset (R99, R119), with the level of Ln_TRIG last sampled. -/
def Lane.reset (trig : Bool) : Lane where
  cfg := LaneCfg.reset
  st := .off
  markLo := 8
  markHi := 24
  fillLen := 0
  fillWord := 0
  fifo := []
  nextSeq := 0
  sub := .idle
  cur := none
  linger := none
  freeList := []
  readyQ := []
  submitQ := []
  binding := none
  counters := Counters.zero
  cntSel := 0
  lossPending := false
  strayArmed := false
  frameSeq := 0
  frameStamp := 0
  inspecting := none
  fetched := 0
  sent := 0
  frameLen := 0
  checking := none
  fillSent := 0
  trig := trig

/-! ## Host Window (R120) -/

/-- The read stage, with the pointer of the waiting read (R120). -/
inductive ReadStage where
  | none
  | awaitDrain (p : Ptr)
  | issued (p : Ptr)
  | granted (p : Ptr)
deriving DecidableEq, Repr

structure Window where
  ptrA    : Nat
  ptrB    : Nat
  strideA : BitVec 8
  strideB : BitVec 8
  buffer  : List (Nat × Word)
  stage   : ReadStage
deriving DecidableEq, Repr

/-! ## Command Processor and Copy Engine (R133 to R149) -/

/-- A Command Queue entry (R133). -/
structure CmdEntry where
  code : BitVec 8
  tag  : BitVec 8
  arg0 : Word
  arg1 : Word
  arg2 : Word
  arg3 : Word
deriving DecidableEq, Repr

/-- The Command Processor (R133, R135): the parameter registers, the queue with its oldest command first, and whether the
head is a LANE_HALT that was dispatched and waits for its lane's grant to end (R137). -/
structure CommandProc where
  arg0         : Word
  arg1         : Word
  arg2         : Word
  arg3         : Word
  queue        : List CmdEntry
  haltDeferred : Bool
deriving DecidableEq, Repr

/-- An executing long command with its parameters (R141). -/
inductive LongCmd where
  | copy (src dst count : Nat)
  | fill (dst count : Nat) (pattern step : Word)
  | measure (i : SlotId)
deriving DecidableEq, Repr

/-- The burst phases (R141). -/
inductive Phase where
  | idle
  | readWait
  | holding
  | writeWait
deriving DecidableEq, Repr

/-- The Copy Engine (R141). -/
structure Engine where
  cmd          : Option LongCmd
  descending   : Bool
  wordsDone    : Nat
  phase        : Phase
  held         : List Word
  stats        : Option RunningStats
  abortPending : Bool
deriving DecidableEq, Repr

/-- The engine after every reset (R141). -/
def Engine.reset : Engine := ⟨none, false, 0, .idle, [], none, false⟩

/-! ## Event Log and interrupts (R150 to R164) -/

/-- The event kinds (R151). The code NONE stands for an empty log and is no event. -/
inductive Kind where
  | framePublished
  | frameSent
  | frameDropped
  | frameOverwritten
  | frameTruncated
  | frameCut
  | wordsLost
  | strayWords
  | slotStarved
  | triggerMissed
  | frameRepeated
  | fillSent
  | crcMismatch
  | laneStopped
  | laneHalted
  | commandDone
  | eccCorrected
  | eccUncorrectable
  | initDone
  | scrubPass
  | hostError
  | supWarning
  | supExpired
  | supSequenceError
  | logOverflow
  | resetRecord
deriving DecidableEq, Repr

/-- The interrupt groups G0 to G7 (R151): 0 to 3 the lanes, 4 COMMAND, 5 MEMORY, 6 HOST, 7 SUPERVISOR. -/
abbrev Group := Fin 8

/-- An event (R150). `source` is the source code of R151; for COMMAND_DONE it is the tag, and `detail` holds the result
value, result and code. -/
structure Event where
  kind   : Kind
  group  : Option Group
  source : BitVec 8
  slot   : Option SlotId
  stamp  : Word
  detail : Word
deriving DecidableEq, Repr

/-- A record: an event with its event sequence number (R150). -/
structure Record where
  seq : BitVec 8
  ev  : Event
deriving DecidableEq, Repr

/-- The Event Log (R150 to R158), oldest record first. `heldBack` is the model's own: events raised at the response that
takes the supervisor's window count to 16, which R156 orders behind the SUP_SEQUENCE_ERROR of that same point. -/
structure EventLog where
  records   : List Record
  nextSeq   : BitVec 8
  enable    : BitVec 8
  lost      : BitVec 16
  overflow  : BitVec 16
  wordSel   : Fin 3
  heldBack  : List Event
deriving DecidableEq, Repr

/-- One entry of the in-service stack (R163). -/
structure InService where
  group : Group
  prio  : Fin 4
deriving DecidableEq, Repr

/-- The Interrupt Controller (R159 to R163); `stack` bottom first. -/
structure Irq where
  flags  : BitVec 8
  enable : BitVec 8
  prio   : BitVec 16
  stack  : List InService
deriving DecidableEq, Repr

/-! ## Timebase, supervisor, power, reset (R165 to R178) -/

/-- The timebase (R165). -/
structure Timebase where
  count         : Word
  prescaleCount : Nat
  prescale      : Nat
deriving DecidableEq, Repr

/-- The supervisor's states (R167). -/
inductive SupSt where
  | off
  | running
  | armed
deriving DecidableEq, Repr

inductive SupAction where
  | eventOnly
  | safeEgress
  | resetDevice
deriving DecidableEq, Repr

/-- The supervisor (R167) with SUP_CFG and SUP_TIMEOUT (R171). `safeFill` is SAFE_POLICY: EMIT_FILL or IDLE. -/
structure Supervisor where
  st          : SupSt
  counter     : BitVec 16
  windowCount : Nat
  safeMode    : Bool
  warn        : BitVec 16
  action      : SupAction
  safeFill    : Bool
  timeout     : BitVec 16
deriving DecidableEq, Repr

/-- The power states (R172). -/
inductive Power where
  | run
  | doze
  | retain
deriving DecidableEq, Repr

/-- The reset kinds (R174). -/
inductive ResetKind where
  | por
  | pin
  | sup
  | soft
deriving DecidableEq, Repr

/-- Reset state (R174 to R177): RESET_CAUSE, whether RSTN is held low, and which resets are due. -/
structure ResetState where
  cause    : ResetKind
  supCount : BitVec 8
  pinHeld  : Bool
  supDue   : Bool
  softDue  : Bool
deriving DecidableEq, Repr

/-! ## Host Port (R1 to R15) -/

/-- The reasons of an ERR response, in the order of their codes (R183). -/
inductive Reason where
  | badAddress
  | readOnly
  | locked
  | state
  | denied
  | ecc
  | timeout
  | refused
  | init
  | power
  | reset
deriving DecidableEq, Repr

/-- What H_RESP shows (pin summary): no response yet, or the last response. -/
inductive Resp where
  | none
  | ok
  | err
  | aborted
deriving DecidableEq, Repr

/-- A register access: address, direction and write data as they are when the request is accepted (R1). -/
structure Access where
  addr  : BitVec 8
  write : Bool
  data  : Word
deriving DecidableEq, Repr

/-- HOST_ERR (R9). -/
structure HostErr where
  reason  : Option Reason
  addr    : BitVec 8
  write   : Bool
  overrun : Bool
  count   : BitVec 8
deriving DecidableEq, Repr

/-- The four kinds of waiting transaction (R2). -/
inductive Wait where
  | winRead (p : Ptr)
  | winWrite (p : Ptr) (data : Word)
  | slotData
  | retain
deriving DecidableEq, Repr

/-- The Host Port. `askedFor` is a request asserted while the port accepts none, which R8 keeps; `resp` and `rdata` are what
H_RESP and H_RDATA show (a write's response carries no data); `abt` is the last sample of H_ABT (R6, R8). -/
structure HostPort where
  waiting    : Option Wait
  stallCount : Nat
  stallLimit : BitVec 8
  resetArm   : Bool
  err        : HostErr
  lock       : Bool
  askedFor   : Option Access
  resp       : Resp
  rdata      : Option Word
  abt        : Bool
deriving DecidableEq, Repr

/-- HOST_ERR cleared (R9). -/
def HostErr.clear : HostErr := ⟨none, 0, false, false, 0⟩

/-! ## What has fallen due at the present moment (R57, R166) -/

/-- A request to the Slot Manager (R56), or an occurrence that a tick causes (R166), not yet served. -/
inductive Req where
  | publish (n : LaneId)
  | ret (n : LaneId)
  | take (n : LaneId)
  | allocate (n : LaneId)
  | command
  | snapshot
  | supWarning
  | supExpired
  | scrubRequest
deriving DecidableEq, Repr

/-- Where an occurrence of the present moment came from: the end of lane `n`'s ingress grant, lane `n`'s stream port, its
trigger pin, a write of the host that makes a request (R57), or the end of any other grant. One source brings at most one
occurrence to a moment, and one grant at most ends at it (R24): `noGrant` marks a moment that began with no grant in progress, at
which none can end. -/
inductive Source where
  | noGrant
  | written (n : LaneId)
  | stream (n : LaneId)
  | trigger (n : LaneId)
  | host
  | memory
deriving DecidableEq, Repr

/-- The present moment (R57): the requests that its occurrences made, kept in the fixed order; the requests that the
operations served since have caused, in the order they were made; the sources of its occurrences, while it is open to further
ones, and none once it is closed; and whether one of those occurrences has itself logged an event or moved a counter. -/
structure Moment where
  asked   : List Req
  caused  : List Req
  sources : List Source
  told    : Bool
deriving DecidableEq, Repr

/-- No request outstanding. -/
def Moment.empty : Moment := ⟨[], [], [], false⟩

/-! ## The whole state -/

/-- The state of the part. `pending` is the queue of commands waiting, first in, first out. -/
structure State where
  part     : Part
  pending  : List Instr
  port     : HostPort
  mem      : Memory
  sweep    : Sweep
  ecc      : Ecc
  scrub    : Scrubber
  arb      : Arbiter
  slots    : Vector Slot 64
  hostFree : List SlotId
  slotPort : SlotPort
  lanes    : Vector Lane 4
  win      : Window
  cmd      : CommandProc
  eng      : Engine
  log      : EventLog
  irq      : Irq
  tb       : Timebase
  sup      : Supervisor
  power    : Power
  rst      : ResetState
  moment   : Moment
deriving DecidableEq, Repr

/-- Why a step stops with a fault. -/
inductive Fault where
  /-- A grant would reach a word address at or beyond the memory size. Raised by the grant end rows and by PIN_RESET
  cutting a grant. R16: no requester can form such an address, and no rule says what the access would do; no state that a run
  reaches from reset raises it. Safe: the machine stops where the manual says nothing. -/
  | addressBeyondMemory
deriving DecidableEq, Repr

/-- Why a step refuses a command. -/
inductive Refusal where
  /-- A command that has no meaning yet, by its row's mnemonic. No arm of exec raises it. Safe. -/
  | notModelled (mnemonic : String)
deriving DecidableEq, Repr

/-- The timestamp, group and detail of RESET_RECORD (R158, R177): the cause below the supervisor reset count. -/
def resetRecord (causeCode : Nat) (supCount : BitVec 8) (tbCount : Word) : Record :=
  ⟨0, ⟨.resetRecord, none, 12, none, tbCount, BitVec.ofNat 32 (causeCode + 256 * supCount.toNat)⟩⟩

/-- Every field as a reset of any kind leaves it where R176 gives the kinds one value, with an empty log; the fields that
the kinds treat differently are at their power-on values. -/
def State.blank (part : Part) : State where
  part := part
  pending := []
  port := ⟨none, 0, 64, false, HostErr.clear, false, none, .none, none, false⟩
  mem := []
  sweep := ⟨true, 0, false⟩
  ecc := ⟨0, 0, ⟨false, 0, .lane 0⟩, true⟩
  scrub := ⟨false, 16, false, 0, 0, false, 0, 0⟩
  arb := ⟨none, 3, 0, 32, false⟩
  slots := Vector.replicate 64 Slot.unassigned
  hostFree := []
  slotPort := ⟨0, 0, Vector.replicate 9 0⟩
  lanes := Vector.replicate 4 (Lane.reset false)
  win := ⟨0, 0, 0, 0, [], .none⟩
  cmd := ⟨0, 0, 0, 0, [], false⟩
  eng := Engine.reset
  log := ⟨[], 0, 0, 0, 0, 0, []⟩
  irq := ⟨0, 0, 0, []⟩
  tb := ⟨0, 0, 1⟩
  sup := ⟨.off, 0, 0, false, 0, .eventOnly, false, 1000⟩
  power := .run
  rst := ⟨.por, 0, false, false, false⟩
  moment := Moment.empty

/-- The part right after power-on reset (R174, R176): out of reset, the init sweep about to write its first word, the log
holding RESET_RECORD alone, the port accepting. DESIGN CHOICE (assumption 3): the part is the BSO2404 and SUPEN is low. -/
def State.reset : State :=
  { State.blank .bso2404 with
    log := ⟨[resetRecord 1 0 0], 1, 0, 0, 0, 0, []⟩ }

end Sys2Proof.Machine
end

