-- ==== Sys2Proof/Machine/Operands.lean ====
section
/-! DEFINITION. What the words of accesses and records mean: the register map (chapter 11), field packing and clamping
(R11, R180), event and source codes (R151), and saturating counters (spec/00_scope.md, Counters). -/

namespace Sys2Proof.Machine

/-! ## Fields -/

/-- The field of `w` that starts at bit `lo` and is `width` bits wide, as a number. -/
def field (w : Word) (lo width : Nat) : Nat := (w.toNat >>> lo) % 2 ^ width

/-- The bit of `w` at `i`. -/
def bitAt (w : Word) (i : Nat) : Bool := w.getLsbD i

/-- A word with the number `v` placed at bit `lo`. -/
def placed (v lo : Nat) : Word := BitVec.ofNat 32 (v <<< lo)

/-- A word with one flag at bit `i`. -/
def flagAt (b : Bool) (i : Nat) : Word := placed b.toNat i

/-- Clamps a number into the range `lo` to `hi` (R11). -/
def clamp (lo hi v : Nat) : Nat := max lo (min hi v)

/-- Adds to a saturating counter (spec/00_scope.md, Counters). -/
def satAdd {w : Nat} (c : BitVec w) (k : Nat) : BitVec w := BitVec.ofNat w (min (2 ^ w - 1) (c.toNat + k))

/-- Adds 1 to a saturating counter. -/
def satInc {w : Nat} (c : BitVec w) : BitVec w := satAdd c 1

/-! ## The register map (R179) -/

/-- The mapped registers: 52 part-wide ones, and nine for each lane. -/
inductive Reg where
  | devId
  | devCaps
  | hostErr
  | cfgLock
  | resetCause
  | resetArm
  | resetGo
  | hostStallLimit
  | arbCfg
  | winPtr (p : Ptr)
  | winStride (p : Ptr)
  | winData (p : Ptr)
  | winStatus
  | cmdArg (k : Fin 4)
  | cmdIssue
  | cmdStatus
  | engineAbort
  | evtStatus
  | evtData
  | evtWordSel
  | evtLost
  | irqPending
  | irqEnable
  | irqPrio
  | irqVector
  | irqEoi
  | irqInService
  | evtLogEnable
  | tbCount
  | tbPrescale
  | supCfg
  | supTimeout
  | supArm
  | supKick
  | supStatus
  | powerCtrl
  | powerStatus
  | memStatus
  | eccCorrCount
  | eccUncorrCount
  | eccLastAddr
  | scrubCfg
  | scrubPos
  | slotSel
  | slotData
  | slotWordSel
  | lnCfg (n : LaneId)
  | lnMarks (n : LaneId)
  | lnFillLen (n : LaneId)
  | lnFillWord (n : LaneId)
  | lnStatus (n : LaneId)
  | lnQueues (n : LaneId)
  | lnBind (n : LaneId)
  | lnCntSel (n : LaneId)
  | lnCntData (n : LaneId)
deriving DecidableEq, Repr

/-- The registers of lane `n` by their offset in its block (§11.9). -/
def laneReg (n : LaneId) : Nat → Option Reg
  | 0x0 => some (.lnCfg n)
  | 0x1 => some (.lnMarks n)
  | 0x2 => some (.lnFillLen n)
  | 0x3 => some (.lnFillWord n)
  | 0x4 => some (.lnStatus n)
  | 0x5 => some (.lnQueues n)
  | 0x6 => some (.lnBind n)
  | 0x7 => some (.lnCntSel n)
  | 0x8 => some (.lnCntData n)
  | _ => none

/-- The part-wide registers by their address (§11.2 to §11.8). -/
def partReg : Nat → Option Reg
  | 0x00 => some .devId
  | 0x01 => some .devCaps
  | 0x02 => some .hostErr
  | 0x03 => some .cfgLock
  | 0x04 => some .resetCause
  | 0x05 => some .resetArm
  | 0x06 => some .resetGo
  | 0x07 => some .hostStallLimit
  | 0x08 => some .arbCfg
  | 0x10 => some (.winPtr .a)
  | 0x11 => some (.winStride .a)
  | 0x12 => some (.winData .a)
  | 0x13 => some (.winPtr .b)
  | 0x14 => some (.winStride .b)
  | 0x15 => some (.winData .b)
  | 0x16 => some .winStatus
  | 0x20 => some (.cmdArg 0)
  | 0x21 => some (.cmdArg 1)
  | 0x22 => some (.cmdArg 2)
  | 0x23 => some (.cmdArg 3)
  | 0x24 => some .cmdIssue
  | 0x25 => some .cmdStatus
  | 0x26 => some .engineAbort
  | 0x30 => some .evtStatus
  | 0x31 => some .evtData
  | 0x32 => some .evtWordSel
  | 0x33 => some .evtLost
  | 0x34 => some .irqPending
  | 0x35 => some .irqEnable
  | 0x36 => some .irqPrio
  | 0x37 => some .irqVector
  | 0x38 => some .irqEoi
  | 0x39 => some .irqInService
  | 0x3A => some .evtLogEnable
  | 0x40 => some .tbCount
  | 0x41 => some .tbPrescale
  | 0x42 => some .supCfg
  | 0x43 => some .supTimeout
  | 0x44 => some .supArm
  | 0x45 => some .supKick
  | 0x46 => some .supStatus
  | 0x47 => some .powerCtrl
  | 0x48 => some .powerStatus
  | 0x50 => some .memStatus
  | 0x51 => some .eccCorrCount
  | 0x52 => some .eccUncorrCount
  | 0x53 => some .eccLastAddr
  | 0x54 => some .scrubCfg
  | 0x55 => some .scrubPos
  | 0x60 => some .slotSel
  | 0x61 => some .slotData
  | 0x62 => some .slotWordSel
  | _ => none

/-- The register that H_ADDR names (R179): the lane blocks from 0x80, the part-wide registers below. -/
def decodeReg (addr : BitVec 8) : Option Reg :=
  if addr.toNat < 0x80 then partReg addr.toNat
  else if h : (addr.toNat - 0x80) / 0x10 < 4 then laneReg ⟨(addr.toNat - 0x80) / 0x10, h⟩ (addr.toNat % 0x10)
  else none

/-- The address of a register of lane `n` at an offset of its block (§11.9). -/
def laneAddr (n : LaneId) (offset : Nat) : BitVec 8 := BitVec.ofNat 8 (0x80 + 0x10 * n.val + offset)

/-- The address of WIN_DATA_A or WIN_DATA_B (§11.3). -/
def winDataAddr : Ptr → BitVec 8
  | .a => 0x12
  | .b => 0x15

/-! ## Access types (chapter 11) -/

/-- The registers whose write ends ERR READ_ONLY (R11). -/
def Reg.readOnly : Reg → Bool
  | .devId | .devCaps | .resetCause | .winStatus | .cmdStatus | .evtStatus | .evtData | .evtLost | .irqVector
  | .irqInService | .tbCount | .supStatus | .powerStatus | .memStatus | .eccCorrCount | .eccUncorrCount
  | .eccLastAddr | .scrubPos | .slotData | .lnStatus _ | .lnQueues _ | .lnBind _ | .lnCntData _ => true
  | _ => false

/-- The lock-protected registers (R13). -/
def Reg.lockProtected : Reg → Bool
  | .lnCfg _ | .lnMarks _ | .lnFillLen _ | .lnFillWord _ | .arbCfg | .scrubCfg | .supCfg | .supTimeout | .tbPrescale
  | .hostStallLimit => true
  | _ => false

/-- The registers that stay accessible in RETAIN (R3, check 2). -/
def Reg.inRetain : Reg → Bool
  | .devId | .devCaps | .resetCause | .hostErr | .powerCtrl | .powerStatus => true
  | _ => false

/-- The accesses that the init sweep refuses (R3, check 3). -/
def Reg.initRefused (r : Reg) (write : Bool) : Bool :=
  match r with
  | .winData _ => true
  | .cmdIssue => write
  | _ => false

/-! ## Codes -/

/-- The reason codes (R183). -/
def Reason.code : Reason → Nat
  | .badAddress => 1
  | .readOnly => 2
  | .locked => 3
  | .state => 4
  | .denied => 5
  | .ecc => 6
  | .timeout => 7
  | .refused => 8
  | .init => 9
  | .power => 10
  | .reset => 11

/-- The event kind codes (R151). -/
def Kind.code : Kind → Nat
  | .framePublished => 1
  | .frameSent => 2
  | .frameDropped => 3
  | .frameOverwritten => 4
  | .frameTruncated => 5
  | .frameCut => 6
  | .wordsLost => 7
  | .strayWords => 8
  | .slotStarved => 9
  | .triggerMissed => 10
  | .frameRepeated => 11
  | .fillSent => 12
  | .crcMismatch => 13
  | .laneStopped => 14
  | .laneHalted => 15
  | .commandDone => 16
  | .eccCorrected => 17
  | .eccUncorrectable => 18
  | .initDone => 19
  | .scrubPass => 20
  | .hostError => 21
  | .supWarning => 22
  | .supExpired => 23
  | .supSequenceError => 24
  | .logOverflow => 25
  | .resetRecord => 26

/-- The source codes (R151): 0 to 3 the lanes, 4 Host Port, 5 Host Window, 6 Command Processor, 7 Copy Engine, 8 memory,
9 Scrubber, 10 Supervisor, 11 Event Log, 12 reset. Here the sources of ECC events, which carry their reader. -/
def Reader.source : Reader → BitVec 8
  | .lane n => BitVec.ofNat 8 n.val
  | .window => 5
  | .engine => 7
  | .scrubber => 9

/-- The reader codes of ECC_LAST_ADDR (§11.7). -/
def Reader.code : Reader → Nat
  | .lane n => n.val
  | .window => 4
  | .engine => 5
  | .scrubber => 6

/-- The lane groups G0 to G3 (R151). -/
def laneGroup (n : LaneId) : Group := ⟨n.val, by omega⟩
def commandGroup : Group := 4
def memoryGroup : Group := 5
def hostGroup : Group := 6
def supervisorGroup : Group := 7

/-- The slot states' codes (R73). -/
def SlotSt.code : SlotSt → Nat
  | .unassigned => 0
  | .free => 1
  | .filling => 2
  | .ready => 3
  | .draining => 4
  | .linger => 5
  | .claimed => 6
  | .quarantined => 7

/-- The owners' codes (R73). -/
def Owner.code : Owner → Nat
  | .none => 0
  | .lane n => n.val + 1
  | .host => 5

/-- The owner that an owner code of SLOT_ASSIGN names (R63). -/
def Owner.ofCode : Nat → Option Owner
  | 1 => some (.lane 0)
  | 2 => some (.lane 1)
  | 3 => some (.lane 2)
  | 4 => some (.lane 3)
  | 5 => some .host
  | _ => Option.none

def Dir.code : Dir → Nat
  | .none => 0
  | .ingress => 1
  | .egress => 2

/-- Direction code 3 is stored as EGRESS (R180). -/
def Dir.ofCode : Nat → Dir
  | 0 => .none
  | 1 => .ingress
  | _ => .egress

def IngressPolicy.code : IngressPolicy → Nat
  | .dropNew => 0
  | .overwriteOldest => 1
  | .stall => 2

/-- Ingress policy code 3 is stored as STALL (R180). -/
def IngressPolicy.ofCode : Nat → IngressPolicy
  | 0 => .dropNew
  | 1 => .overwriteOldest
  | _ => .stall

def EgressPolicy.code : EgressPolicy → Nat
  | .idle => 0
  | .repeatLast => 1
  | .emitFill => 2

/-- Egress policy code 3 is stored as EMIT_FILL (R180). -/
def EgressPolicy.ofCode : Nat → EgressPolicy
  | 0 => .idle
  | 1 => .repeatLast
  | _ => .emitFill

def SupAction.code : SupAction → Nat
  | .eventOnly => 0
  | .safeEgress => 1
  | .resetDevice => 2

/-- Action code 3 is stored as RESET_DEVICE (R180). -/
def SupAction.ofCode : Nat → SupAction
  | 0 => .eventOnly
  | 1 => .safeEgress
  | _ => .resetDevice

def SupSt.code : SupSt → Nat
  | .off => 0
  | .running => 1
  | .armed => 2

def Power.code : Power → Nat
  | .run => 0
  | .doze => 1
  | .retain => 2

/-- POWER_CTRL code 3 is taken as a request for RETAIN (R180). -/
def Power.ofCode : Nat → Power
  | 0 => .run
  | 1 => .doze
  | _ => .retain

def LaneSt.code : LaneSt → Nat
  | .off => 0
  | .stopped => 1
  | .running => 2
  | .stopping => 3

/-- The SUBSTATE codes of LN_STATUS (§11.9). -/
def Substate.code : Substate → Nat
  | .idle => 0
  | .receiving => 1
  | .discarding => 2
  | .stalled => 3
  | .taking => 1
  | .sending => 2
  | .sendingFill => 3
  | .closing => 4

def ResetKind.code : ResetKind → Nat
  | .por => 1
  | .pin => 2
  | .sup => 3
  | .soft => 4

/-- The results of commands (R139). -/
inductive Result where
  | ok
  | empty
  | full
  | badParam
  | badState
  | badConfig
  | overlap
  | locked
  | denied
  | notConsumer
  | eccFault
  | aborted
deriving DecidableEq, Repr

/-- The result codes of a COMMAND_DONE record (R151). -/
def Result.code : Result → Nat
  | .ok => 0
  | .empty => 1
  | .full => 2
  | .badParam => 3
  | .badState => 4
  | .badConfig => 5
  | .overlap => 6
  | .locked => 7
  | .denied => 8
  | .notConsumer => 9
  | .eccFault => 10
  | .aborted => 11

/-! ## Packed registers and records -/

/-- LN_CFG as it reads (§11.9). -/
def LaneCfg.word (c : LaneCfg) : Word :=
  placed c.dir.code 0 ||| flagAt c.backpressure 4 ||| placed c.inPolicy.code 8 ||| placed c.egPolicy.code 12 |||
    flagAt c.triggered 16 ||| flagAt c.inspect 17 ||| flagAt c.crcCheck 18 ||| flagAt c.frameEvents 19

/-- LN_CFG as it is stored from a written word (§11.9, R180). -/
def LaneCfg.ofWord (w : Word) : LaneCfg where
  dir := Dir.ofCode (field w 0 2)
  backpressure := bitAt w 4
  inPolicy := IngressPolicy.ofCode (field w 8 2)
  egPolicy := EgressPolicy.ofCode (field w 12 2)
  triggered := bitAt w 16
  inspect := bitAt w 17
  crcCheck := bitAt w 18
  frameEvents := bitAt w 19

/-- HOST_ERR as it reads (§11.2, R183). -/
def HostErr.word (e : HostErr) : Word :=
  placed (match e.reason with | none => 0 | some r => r.code) 0 ||| placed e.addr.toNat 4 ||| flagAt e.write 12 |||
    flagAt e.overrun 13 ||| placed e.count.toNat 16

/-- The slot flags from bit 12 of a slot record's first word upward (R73). -/
def SlotFlags.word (f : SlotFlags) (statsValid : Bool) : Word :=
  flagAt f.truncated 12 ||| flagAt f.cut 13 ||| flagAt f.wordsLost 14 ||| flagAt f.eccFixed 15 ||| flagAt f.eccBad 16 |||
    flagAt f.repeated 17 ||| flagAt f.hostBuilt 18 ||| flagAt statsValid 19 ||| flagAt f.crcMismatch 20

/-- A record's three words (R151). -/
def Record.word (r : Record) : Fin 3 → Word
  | 0 =>
    placed r.seq.toNat 0 ||| placed r.ev.kind.code 8 |||
      placed (match r.ev.group with | none => 15 | some g => g.val) 13 |||
      placed (match r.ev.slot with | none => 127 | some i => i.val) 17 ||| placed r.ev.source.toNat 24
  | 1 => r.ev.stamp
  | 2 => r.ev.detail

/-- The third word of a COMMAND_DONE record (R151). -/
def commandDetail (value : Nat) (res : Result) (code : BitVec 8) : Word :=
  placed (value % 2 ^ 19) 0 ||| placed res.code 19 ||| placed code.toNat 23

/-- Two halves of a detail: `lo` in the lower half, `hi` in the upper half. -/
def halves (lo hi : Nat) : Word := placed (lo % 2 ^ 16) 0 ||| placed (hi % 2 ^ 16) 16

/-! ## Lane counters (R80) -/

/-- The counter that an index of LN_CNT_SEL names; an index that names none reads 0. -/
def Counters.get (c : Counters) (k : BitVec 4) : BitVec 16 :=
  match k.toNat with
  | 0 => c.published
  | 1 => c.dropped
  | 2 => c.overwritten
  | 3 => c.truncated
  | 4 => c.cut
  | 5 => c.wordsLost
  | 6 => c.strayWords
  | 8 => c.sent
  | 9 => c.repeated
  | 10 => c.fills
  | 11 => c.triggersMissed
  | 12 => c.crcMismatch
  | 13 => c.eccWords
  | _ => 0

/-- Clears the counter that an index names. -/
def Counters.cleared (c : Counters) (k : BitVec 4) : Counters :=
  match k.toNat with
  | 0 => { c with published := 0 }
  | 1 => { c with dropped := 0 }
  | 2 => { c with overwritten := 0 }
  | 3 => { c with truncated := 0 }
  | 4 => { c with cut := 0 }
  | 5 => { c with wordsLost := 0 }
  | 6 => { c with strayWords := 0 }
  | 8 => { c with sent := 0 }
  | 9 => { c with repeated := 0 }
  | 10 => { c with fills := 0 }
  | 11 => { c with triggersMissed := 0 }
  | 12 => { c with crcMismatch := 0 }
  | 13 => { c with eccWords := 0 }
  | _ => c

end Sys2Proof.Machine
end

