-- ==== Sys2Proof/Machine/Flags.lean ====
section
/-! DEFINITION. Pending flags, qualification and the IRQ line (R159 to R163). -/

namespace Sys2Proof.Machine

/-- The bit of a group in the eight-bit flag and enable registers (§11.5: bit g for group g). -/
def groupBit (g : Group) : BitVec 8 := 1#8 <<< g.val

/-- The pending flag of a group (R159). -/
def Irq.flag (q : Irq) (g : Group) : Bool := q.flags.getLsbD g.val

/-- The interrupt enable of a group (R160). -/
def Irq.enabled (q : Irq) (g : Group) : Bool := q.enable.getLsbD g.val

/-- The present priority of a group: bits 2g+1 and 2g of IRQ_PRIO (R160, §11.5). -/
def Irq.priority (q : Irq) (g : Group) : Fin 4 := ⟨(q.prio.toNat >>> (2 * g.val)) % 4, Nat.mod_lt _ (by decide)⟩

/-- Sets a group's pending flag. -/
def Irq.setFlag (q : Irq) (g : Group) : Irq := { q with flags := q.flags ||| groupBit g }

/-- Clears the pending flags in a mask (R159). -/
def Irq.clearFlags (q : Irq) (mask : BitVec 8) : Irq := { q with flags := q.flags &&& ~~~mask }

/-- A group qualifies (R161): flag and enable set, and a present priority above the one stored in the top entry of the
in-service stack, if there is one. -/
def Irq.qualifies (q : Irq) (g : Group) : Bool :=
  q.flag g && q.enabled g &&
    match q.stack.getLast? with
    | none => true
    | some top => decide (top.prio < q.priority g)

/-- The group order of R156 and R162: SUPERVISOR, MEMORY, COMMAND, L0 to L3, HOST. -/
def groupOrder : List Group := [7, 5, 4, 0, 1, 2, 3, 6]

/-- The group an acknowledge picks (R162): the highest present priority among those that qualify, and the first in the
group order among equals. -/
def Irq.winner (q : Irq) : Option Group :=
  (groupOrder.filter q.qualifies).foldl
    (fun best g =>
      match best with
      | none => some g
      | some b => if q.priority b < q.priority g then some g else some b)
    none

/-- The IRQ line (R161): asserted while at least one group qualifies. -/
def Irq.line (q : Irq) : Bool := groupOrder.any q.qualifies

/-- IRQ_INSERVICE (R183): the depth, and five bits for each entry, bottom first. -/
def Irq.inServiceWord (q : Irq) : Word :=
  q.stack.zipIdx.foldl (fun w e => w ||| placed (e.1.group.val + 8 * e.1.prio.val) (8 + 5 * e.2)) (placed q.stack.length 0)

end Sys2Proof.Machine
end

