-- ==== Sys2Proof/Machine/Inspector.lean ====
section
/-! DEFINITION. The Frame Inspector: the CRC, the count of one bits and the count of leading zero bits (R96, R97). -/

namespace Sys2Proof.Machine

/-- One bit of the CRC (R96): compare the register's most significant bit with the input bit, shift left, and combine with
the generator where the two differed. -/
def crcBit (reg : Word) (b : Bool) : Word :=
  if reg.msb != b then (reg <<< 1) ^^^ 0x04C11DB7#32 else reg <<< 1

/-- The bits of a word in the order R96 and R97 take them, bit 31 first: bytes most significant first, and in each byte
the most significant bit first. -/
def wordBits (w : Word) : List Bool := (List.range 32).map fun i => w.getMsbD i

/-- The CRC register after one word (R96). -/
def crcWord (reg w : Word) : Word := (wordBits w).foldl crcBit reg

/-- The CRC register before the first bit (R96). -/
def crcStart : Word := 0xFFFFFFFF#32

/-- The crc of a sequence of words (R96). -/
def crcOf (ws : List Word) : Word := ~~~ (ws.foldl crcWord crcStart)

/-- The number of bits equal to 1 in a word (R97). -/
def onesOf (w : Word) : Nat := (wordBits w).countP id

/-- The number of bits equal to 0 before the first bit equal to 1 (R97). -/
def leadZerosOf (w : Word) : Nat := ((wordBits w).takeWhile not).length

/-- The statistics of the empty sequence, still running (R97, R98). -/
def RunningStats.start : RunningStats := ⟨crcStart, 0, 0, false⟩

/-- Takes one word in (R98). -/
def RunningStats.add (r : RunningStats) (w : Word) : RunningStats where
  crcReg := crcWord r.crcReg w
  ones := r.ones + onesOf w
  leadZeros := if r.sawOne then r.leadZeros else r.leadZeros + leadZerosOf w
  sawOne := r.sawOne || w != 0

/-- Takes words in, in order. -/
def RunningStats.addAll (r : RunningStats) (ws : List Word) : RunningStats := ws.foldl RunningStats.add r

/-- The finished statistics (R96, R97). -/
def RunningStats.finish (r : RunningStats) : Stats := ⟨~~~ r.crcReg, r.ones, r.leadZeros, !r.sawOne⟩

/-- The statistics of a sequence of words (R96, R97). -/
def statsOf (ws : List Word) : Stats := (RunningStats.start.addAll ws).finish

end Sys2Proof.Machine
end

