-- ==== Sys2Proof/Machine/Memory.lean ====
section
/-! DEFINITION. Stacked memory: reads with their outcomes, writes, disturbances (R16 to R18, R25). -/

namespace Sys2Proof.Machine

/-- How many of the 39 stored bits are disturbed. -/
def Cell.flipCount (c : Cell) : Nat := (List.range 39).countP fun i => c.flips.getLsbD i

/-- The 32 stored data bits (R16). -/
def Cell.storedData (c : Cell) : Word := c.word ^^^ c.flips.setWidth 32

/-- The 7 stored check bits (R16): the code of the word last written (R17), as disturbed since. -/
def Cell.storedCheck (c : Cell) : BitVec 7 := Config.checkCode c.word ^^^ (c.flips >>> 32).setWidth 7

/-- The outcome of reading the word (R18): clean undisturbed, corrected after a one-bit fault, uncorrectable after a
two-bit fault, and a free value after a fault of more bits. -/
def Cell.outcome (c : Cell) : ReadOutcome :=
  match c.flipCount with
  | 0 => .clean
  | 1 => .corrected
  | 2 => .uncorrectable
  | _ => Config.manyBitOutcome c.word c.flips

/-- The data delivered to the reader (R18): the stored data, with the explaining bit put right where the outcome is
corrected. -/
def Cell.delivered (c : Cell) : Word :=
  match c.outcome with
  | .corrected =>
    if c.flipCount = 1 then c.word
    else c.storedData ^^^ ((1#39 <<< (Config.manyBitFix c.word c.flips).val).setWidth 32)
  | .clean => c.storedData
  | .uncorrectable => c.storedData

/-- A freshly written word, which is sound (R17). -/
def Cell.fresh (w : Word) : Cell := ⟨w, 0⟩

/-- The listed cell at an address. -/
def Memory.find : Memory → Nat → Option Cell
  | [], _ => none
  | (b, c) :: m, a => if b = a then some c else Memory.find m a

/-- The cell at an address; an address that memory does not list holds 0, undisturbed. -/
def Memory.read (m : Memory) (a : Nat) : Cell := (Memory.find m a).getD Cell.unlisted

/-- Sets the cell at an address, keeping the canonical form. -/
def Memory.set : Memory → Nat → Cell → Memory
  | [], a, c => if c = Cell.unlisted then [] else [(a, c)]
  | (b, d) :: m, a, c =>
    if a < b then (if c = Cell.unlisted then (b, d) :: m else (a, c) :: (b, d) :: m)
    else if a = b then (if c = Cell.unlisted then m else (a, c) :: m)
    else (b, d) :: Memory.set m a c

/-- The canonical form: addresses strictly rising, and no entry equal to what an unlisted address holds. -/
def Memory.wf : Memory → Bool
  | [] => true
  | (a, c) :: m => decide (c ≠ Cell.unlisted) && m.all (fun e => decide (a < e.1)) && Memory.wf m

/-- Writes a word with a fresh check code (R17). -/
def Memory.write (m : Memory) (a : Nat) (w : Word) : Memory := m.set a (Cell.fresh w)

/-- Writes words to consecutive addresses, upward (R33). -/
def Memory.writeWords : Memory → Nat → List Word → Memory
  | m, _, [] => m
  | m, a, w :: ws => Memory.writeWords (m.write a w) (a + 1) ws

/-- Writes the value 0 to every word from `lo` up to but not including `hi` (R25). -/
def Memory.zeroFrom (m : Memory) (lo hi : Nat) : Memory :=
  m.filter fun e => !(decide (lo ≤ e.1) && decide (e.1 < hi))

/-- Applies disturbances to words that exist. -/
def Memory.disturb (size : Nat) : List Flip → Memory → Memory
  | [], m => m
  | f :: fs, m =>
    let m' :=
      if f.addr < size then
        let c := Memory.read m f.addr
        Memory.set m f.addr { c with flips := c.flips ^^^ f.bits }
      else m
    Memory.disturb size fs m'

/-- One word of a read grant: its address, its outcome and the data delivered (R18). -/
structure WordRead where
  addr    : Nat
  outcome : ReadOutcome
  data    : Word
deriving DecidableEq, Repr

/-- Reads `count` words from `a` upward (R33). -/
def Memory.readWords (m : Memory) (a count : Nat) : List WordRead :=
  (List.range count).map fun k =>
    let c := Memory.read m (a + k)
    ⟨a + k, c.outcome, c.delivered⟩

/-- The words of a read grant that read as corrected. -/
def correctedOf (rs : List WordRead) : List WordRead := rs.filter fun r => r.outcome == .corrected

/-- The words of a read grant that read as uncorrectable. -/
def uncorrectableOf (rs : List WordRead) : List WordRead := rs.filter fun r => r.outcome == .uncorrectable

/-- The Scrubber's write-back of the words that read as corrected (R29). -/
def Memory.writeBack (m : Memory) (rs : List WordRead) : Memory :=
  (correctedOf rs).foldl (fun m r => m.write r.addr r.data) m

end Sys2Proof.Machine
end

