-- ==== Sys2Proof/Machine/Ops.lean ====
section
/-! DEFINITION. The shared operations: lookups and updates, the present moment's requests, raising events, the responses of
the Host Port, returning slots, and stopping lanes. -/

namespace Sys2Proof.Machine

/-! ## Lookups and updates -/

/-- The memory size in words (R16). -/
def State.memWords (s : State) : Nat := s.part.memWords

def State.lane (s : State) (n : LaneId) : Lane := s.lanes.get n

def State.setLane (s : State) (n : LaneId) (l : Lane) : State := { s with lanes := s.lanes.set n.val l n.isLt }

/-- Updates one lane. -/
def State.updLane (s : State) (n : LaneId) (f : Lane → Lane) : State := s.setLane n (f (s.lane n))

def State.slot (s : State) (i : SlotId) : Slot := s.slots.get i

def State.setSlot (s : State) (i : SlotId) (r : Slot) : State := { s with slots := s.slots.set i.val r i.isLt }

/-- Updates one slot record. -/
def State.updSlot (s : State) (i : SlotId) (f : Slot → Slot) : State := s.setSlot i (f (s.slot i))

/-- Updates a lane's counters. -/
def State.count (s : State) (n : LaneId) (f : Counters → Counters) : State :=
  s.updLane n fun l => { l with counters := f l.counters }

/-- The four lanes in their order (R57). -/
def laneList : List LaneId := [0, 1, 2, 3]

/-- The 64 slot indices. -/
def slotList : List SlotId := List.finRange 64

/-- The lane is configured for the direction and moves frames (R75: RUNNING or STOPPING). -/
def Lane.moving (l : Lane) : Bool := l.st == .running || l.st == .stopping

/-- The slot whose index a command parameter gives, if it is at most 63 (R63). -/
def slotArg (w : Word) : Option SlotId := if h : w.toNat < 64 then some ⟨w.toNat, h⟩ else none

/-- The lane whose number a command parameter gives, if it is at most 3. -/
def laneArg (w : Word) : Option LaneId := if h : w.toNat < 4 then some ⟨w.toNat, h⟩ else none

/-! ## The present moment (R57) -/

/-- The place of a request in the fixed order of R57. The occurrences of a tick are never asked for, only caused. -/
def Req.rank : Req → Nat
  | .publish n => n.val
  | .ret n => 4 + n.val
  | .take n => 8 + n.val
  | .allocate n => 12 + n.val
  | .command => 16
  | .snapshot => 17
  | .supWarning => 18
  | .supExpired => 19
  | .scrubRequest => 20

/-- Puts a request into its place in the fixed order. -/
def insertReq (r : Req) : List Req → List Req
  | [] => [r]
  | q :: qs => if r.rank < q.rank then r :: q :: qs else q :: insertReq r qs

/-- The request has been made and is not yet served. -/
def State.outstanding (s : State) (r : Req) : Bool := s.moment.asked.contains r || s.moment.caused.contains r

/-- An occurrence of the moment makes a request, unless it is already outstanding. -/
def State.ask (s : State) (r : Req) : State :=
  if s.outstanding r then s else { s with moment := { s.moment with asked := insertReq r s.moment.asked } }

/-- An operation causes a request: it is served after every request made before it (R57). -/
def State.cause (s : State) (r : Req) : State :=
  if s.outstanding r then s else { s with moment := { s.moment with caused := s.moment.caused ++ [r] } }

/-- Withdraws a request that has not been served. -/
def State.withdraw (s : State) (r : Req) : State :=
  { s with moment := { s.moment with
      asked := s.moment.asked.filter (· != r), caused := s.moment.caused.filter (· != r) } }

/-- A new moment, open to the occurrences that may follow these sources; with none it is closed. -/
def State.openMoment (s : State) (sources : List Source) : State :=
  { s with moment := ⟨s.moment.asked, s.moment.caused, sources, false⟩ }

/-- The sources of a moment that an occurrence opens. -/
def State.opening (s : State) (src : Source) : List Source := if s.arb.grant.isNone then [src, .noGrant] else [src]

/-! ## Raising events (R150 to R156) -/

/-- The window count has reached 16 and the window has not yet closed (R169). -/
def State.closingDue (s : State) : Bool := s.sup.st == .armed && decide (Config.windowSize ≤ s.sup.windowCount)

/-- The entries of the log reserved for commands (R152): one for each command in the queue (R135), and one for each
completion record that is held back at its own point. -/
def State.reserved (s : State) : Nat :=
  s.cmd.queue.length + s.log.heldBack.countP (fun e => e.kind == .commandDone)

/-- Occupied and reserved entries together (R152). -/
def State.logUse (s : State) : Nat := s.log.records.length + s.reserved

/-- Appends a record with the sequence counter's value (R150). -/
def State.append (s : State) (e : Event) : State :=
  { s with log := { s.log with records := s.log.records ++ [⟨s.log.nextSeq, e⟩], nextSeq := s.log.nextSeq + 1 } }

/-- Loses an event: it takes a number, and the two counts grow (R154). -/
def State.lose (s : State) : State :=
  { s with log := { s.log with
      nextSeq := s.log.nextSeq + 1, lost := satInc s.log.lost, overflow := satInc s.log.overflow } }

/-- Offers an event to the log (R152 to R154): a completion record always has its entry; any other is appended if its
group's log enable is on and an entry is free, and lost if the enable is on and none is free. -/
def State.offer (s : State) (e : Event) : State :=
  if e.kind = .commandDone then s.append e
  else
    match e.group with
    | none => s
    | some g =>
      if s.log.enable.getLsbD g.val then
        if s.logUse < Config.logEntries then s.append e else s.lose
      else s

/-- Sets the pending flag of an event's group, if it has one (R150, R159). -/
def State.flag (s : State) (e : Event) : State :=
  match e.group with
  | none => s
  | some g => { s with irq := s.irq.setFlag g }

/-- Raises an event (R150): its group's flag is set, and it is offered to the log. Where the supervisor's window closes at
this point, its SUP_SEQUENCE_ERROR goes first (R156), so the event is held back until that has been raised. -/
def State.raise (s : State) (e : Event) : State :=
  let s := s.flag e
  if s.closingDue then { s with log := { s.log with heldBack := s.log.heldBack ++ [e] } } else s.offer e

/-- An event with the present timestamp (R150). -/
def State.event (s : State) (kind : Kind) (group : Group) (source : BitVec 8) (slot : Option SlotId) (detail : Word) :
    Event :=
  ⟨kind, some group, source, slot, s.tb.count, detail⟩

/-- Raises an event of a lane (R95, R118): its own group, the lane's number as source. -/
def State.raiseLane (s : State) (n : LaneId) (kind : Kind) (slot : Option SlotId) (detail : Word) : State :=
  s.raise (s.event kind (laneGroup n) (BitVec.ofNat 8 n.val) slot detail)

/-- Offers one held-back event; its own place in the held-back list, and with it its reservation, is given up. -/
def State.offerHeld (s : State) (e : Event) : State :=
  { s with log := { s.log with heldBack := s.log.heldBack.tail } }.offer e

/-- The window closes (R169): the supervisor returns to RUNNING, SUP_SEQUENCE_ERROR with reason 2 is raised, and the events
of the same point that R156 places behind it follow. A write of EVT_LOG_ENABLE that is the response to close the window already
governs that event. DESIGN CHOICE (assumption 42). -/
def State.closeWindow (s : State) : State :=
  let held := s.log.heldBack
  let s := { s with sup := { s.sup with st := .running, windowCount := 0 } }
  let s := s.raise (s.event .supSequenceError supervisorGroup 10 none 2)
  held.foldl State.offerHeld s

/-! ## Responses (R1, R9, R10, R15) -/

/-- A completed transaction counts toward an open window (R15, R169). -/
def State.countTransaction (s : State) : State :=
  if s.sup.st = .armed then
    { s with sup := { s.sup with windowCount := min Config.windowSize (s.sup.windowCount + 1) } }
  else s

/-- The response itself ends the transaction (R1). -/
def State.endTransaction (s : State) (resp : Resp) (rdata : Option Word) : State :=
  { s with port := { s.port with waiting := none, stallCount := 0, resp := resp, rdata := rdata } }

/-- Response OK, with the data of a read. -/
def State.respondOk (s : State) (rdata : Option Word) : State := (s.endTransaction .ok rdata).countTransaction

/-- HOST_ERR after an ERR response (R9). -/
def HostErr.latch (e : HostErr) (r : Reason) (a : Access) : HostErr :=
  ⟨some r, a.addr, a.write, e.overrun || e.reason.isSome, satInc e.count⟩

/-- The detail of a HOST_ERROR event (R183). -/
def hostErrorDetail (r : Reason) (a : Access) : Word :=
  placed r.code 0 ||| placed a.addr.toNat 4 ||| flagAt a.write 12

/-- Response ERR with a reason: a read returns 0 (R1), HOST_ERR is latched (R9) and HOST_ERROR is raised (R10). -/
def State.respondErr (s : State) (r : Reason) (a : Access) : State :=
  let s := (s.endTransaction .err (if a.write then none else some 0)).countTransaction
  let s := { s with port := { s.port with err := s.port.err.latch r a } }
  s.raise (s.event .hostError hostGroup 4 none (hostErrorDetail r a))

/-- Response ABORTED: no error is latched and no event is raised (R6). -/
def State.respondAborted (s : State) (a : Access) : State :=
  (s.endTransaction .aborted (if a.write then none else some 0)).countTransaction

/-- The access of a waiting transaction (R2). -/
def Wait.access : Wait → Access
  | .winRead p => ⟨winDataAddr p, false, 0⟩
  | .winWrite p d => ⟨winDataAddr p, true, d⟩
  | .slotData => ⟨0x61, false, 0⟩
  | .retain => ⟨0x47, true, 2⟩

/-! ## Lanes entering STOPPED (R75) -/

/-- A lane entering STOPPED: its FIFO is emptied, its frame logic is IDLE, and loss-pending is cleared (R75, R82). -/
def Lane.stoppedLane (l : Lane) : Lane :=
  { l with
    st := .stopped, fifo := [], sub := .idle, lossPending := false, inspecting := none,
    fetched := 0, sent := 0, frameLen := 0, checking := none, fillSent := 0 }

/-- The lane enters STOPPED: a take or allocate not yet served is withdrawn (R75). -/
def State.enterStopped (s : State) (n : LaneId) : State :=
  ((s.updLane n Lane.stoppedLane).withdraw (.take n)).withdraw (.allocate n)

/-- The lane stops at a frame boundary: it enters STOPPED and raises LANE_STOPPED (R78). -/
def State.stopAtBoundary (s : State) (n : LaneId) : State :=
  (s.enterStopped n).raiseLane n .laneStopped none 0

/-! ## Slots (R52, R54) -/

/-- The slot is assigned (R21). -/
def Slot.assigned (r : Slot) : Bool := r.st != .unassigned

/-- The word address lies in the slot's region (R47). -/
def Slot.covers (r : Slot) (a : Nat) : Bool := decide (r.base ≤ a) && decide (a < r.base + r.capacity)

/-- The words of the slot are not host-accessible (R54): it is FILLING, READY, DRAINING or LINGER, or a lane-owned FREE
slot. -/
def Slot.closed (r : Slot) : Bool :=
  match r.st with
  | .filling | .ready | .draining | .linger => true
  | .free => (match r.owner with | .lane _ => true | _ => false)
  | .unassigned | .claimed | .quarantined => false

/-- A memory word is host-accessible (R54). -/
def State.hostAccessible (s : State) (a : Nat) : Bool :=
  slotList.all fun i => !((s.slot i).closed && (s.slot i).covers a)

/-- Every word from `a` to `a + count - 1` is host-accessible (R142, R145): no closed slot's region meets the range. -/
def State.rangeAccessible (s : State) (a count : Nat) : Bool :=
  slotList.all fun i =>
    let r := s.slot i
    !(r.closed && decide (0 < count) && decide (0 < r.capacity) && decide (r.base < a + count) &&
      decide (a < r.base + r.capacity))

/-- The first assigned slot whose region holds the word address. -/
def State.slotAt (s : State) (a : Nat) : Option SlotId :=
  slotList.find? fun i => (s.slot i).assigned && (s.slot i).covers a

/-- How many slots a lane owns, in any state (R70). -/
def State.owned (s : State) (n : LaneId) : Nat :=
  slotList.countP fun i => (s.slot i).assigned && ((s.slot i).owner == .lane n)

/-- Some egress lane is bound to the lane (R103). -/
def State.boundTo (s : State) (n : LaneId) : Option LaneId :=
  laneList.find? fun m => (s.lane m).cfg.dir == .egress && ((s.lane m).binding == some n)

/-- The slot becomes FREE at the tail of its owner's free list (R52). -/
def State.joinFree (s : State) (i : SlotId) : State :=
  let s := s.updSlot i fun r => { r with st := .free }
  match (s.slot i).owner with
  | .none => s
  | .host => { s with hostFree := s.hostFree ++ [i] }
  | .lane n => s.updLane n fun l => { l with freeList := l.freeList ++ [i] }

/-- Returns a slot (R52): QUARANTINED if ECC_BAD is set, and otherwise FREE in its owner's pool. -/
def State.returnSlot (s : State) (i : SlotId) : State :=
  if (s.slot i).flags.eccBad then s.updSlot i fun r => { r with st := .quarantined } else s.joinFree i

/-- Returns slots in order (R70). -/
def State.returnAll (s : State) (is : List SlotId) : State := is.foldl State.returnSlot s

/-- A lane that a free list entry wakes: an ingress lane in STALLED asks for its allocate again (R52, R86). -/
def State.wake (s : State) (n : LaneId) : State :=
  if (s.lane n).cfg.dir = .ingress ∧ (s.lane n).moving = true ∧ (s.lane n).sub = .stalled then s.cause (.allocate n) else s

/-- Tells the owner lanes of the slots that have just joined a lane's free list (R52), in lane order. -/
def State.tellOwners (s : State) (is : List SlotId) : State :=
  laneList.foldl
    (fun s n =>
      if is.any fun i => ((s.slot i).st == .free) && ((s.slot i).owner == .lane n) then s.wake n else s)
    s

/-- Clears every field of a slot record but owner, base and capacity (R48: on entering FILLING, and by ALLOC). -/
def Slot.cleared (r : Slot) : Slot :=
  { r with length := 0, seq := 0, repeats := 0, stamp := 0, flags := SlotFlags.clear, stats := none }

/-! ## Takes (R104) -/

/-- The egress lane requests a take that an operation or occurrence causes; its substate is then TAKING. -/
def State.causeTake (s : State) (n : LaneId) : State :=
  (s.updLane n fun l => { l with sub := .taking }).cause (.take n)

/-- A free-running egress lane that is RUNNING and IDLE requests a take (R104). -/
def State.nudge (s : State) (n : LaneId) : State :=
  let l := s.lane n
  if l.cfg.dir = .egress ∧ l.cfg.triggered = false ∧ l.st = .running ∧ l.sub = .idle then s.causeTake n else s

/-- Every free-running egress lane that is RUNNING and IDLE requests a take (R117). -/
def State.nudgeAll (s : State) : State := laneList.foldl State.nudge s

end Sys2Proof.Machine
end

