-- ==== Sys2Proof/Machine/Arbiter.lean ====
section
/-! DEFINITION. The Memory Arbiter (chapter 3): requests, decisions and grants. -/

namespace Sys2Proof.Machine

/-! ## Requests (R32, R34, R35, R39, R40) -/

/-- The run of words at the FIFO head that an ingress lane will write (R34): it ends after the first EOF word and before the
first SOF word whose marker has not been acted on, and holds at most the given number of words. -/
def runLength : Nat → List FifoEntry → Nat
  | 0, _ => 0
  | _, [] => 0
  | k + 1, e :: es => if e.sof && !e.acted then 0 else if e.eof then 1 else 1 + runLength k es

/-- The head command is a dispatched LANE_HALT of this lane that waits for the end of the lane's grant (R79). The lane's
next request is not raised ahead of that operation. -/
def State.haltAwaits (s : State) (n : LaneId) : Bool :=
  s.cmd.haltDeferred &&
    match s.cmd.queue with
    | [] => false
    | e :: _ => laneArg e.arg0 == some n

/-- A lane's request: whether it is high, and the grant it asks for. -/
structure LaneRequest where
  high  : Bool
  grant : Grant
deriving DecidableEq, Repr

/-- The request of an ingress lane (R39), with the grant's size and addresses as R34 gives. -/
def State.ingressRequest (s : State) (n : LaneId) : Option LaneRequest :=
  let l := s.lane n
  match l.cur with
  | none => none
  | some i =>
    let r := s.slot i
    let run := runLength (min Config.burstWords (r.capacity - r.length)) l.fifo
    if l.cfg.dir = .ingress ∧ l.moving = true ∧ l.sub = .receiving ∧ s.outstanding (.publish n) = false ∧
        s.haltAwaits n = false ∧ 0 < run then
      let g : Grant := ⟨.ingress n, r.base + r.length, run⟩
      if l.markHi ≤ l.fifo.length then some ⟨true, g⟩
      else if l.markLo ≤ l.fifo.length || l.fifo.any (fun e => e.eof || (e.sof && !e.acted)) then some ⟨false, g⟩
      else none
    else none

/-- The request of an egress lane (R40), with the grant's size and addresses as R34 gives. -/
def State.egressRequest (s : State) (n : LaneId) : Option LaneRequest :=
  let l := s.lane n
  match l.cur with
  | none => none
  | some i =>
    let size := min Config.burstWords (min (Config.fifoDepth - l.fifo.length) (l.frameLen - l.fetched))
    if l.cfg.dir = .egress ∧ l.moving = true ∧ l.sub = .sending ∧ s.haltAwaits n = false ∧ 0 < size then
      let g : Grant := ⟨.egress n, (s.slot i).base + l.fetched, size⟩
      if l.fifo.length ≤ l.markHi then some ⟨true, g⟩
      else if l.fifo.length ≤ l.markLo then some ⟨false, g⟩
      else none
    else none

/-- A lane's request; a lane of direction NONE never requests (R32). -/
def State.laneRequest (s : State) (n : LaneId) : Option LaneRequest :=
  match (s.lane n).cfg.dir with
  | .none => none
  | .ingress => s.ingressRequest n
  | .egress => s.egressRequest n

/-- How many entries of the write buffer one grant writes (R35): the oldest, then each whose address is one more than the
one before it. -/
def bufferRun : List (Nat × Word) → Nat
  | [] => 0
  | [_] => 1
  | (a, _) :: (b, w) :: es => if b = a + 1 then 1 + bufferRun ((b, w) :: es) else 1

/-- The pointer's value. -/
def Window.ptr (w : Window) : Ptr → Nat
  | .a => w.ptrA
  | .b => w.ptrB

/-- The Host Window's request (R35, R124, R126): its read once issued, and otherwise its write while the buffer holds an
entry. -/
def State.windowRequest (s : State) : Option Grant :=
  match s.win.stage with
  | .issued p => some ⟨.winRead, s.win.ptr p, 1⟩
  | .granted _ => none
  | .none | .awaitDrain _ =>
    match s.win.buffer with
    | [] => none
    | (a, w) :: es => some ⟨.winWrite, a, bufferRun ((a, w) :: es)⟩

/-- The first index and the size of the present burst of `count` words of which `done` are done (R143): ascending the next
eight, descending the highest burst not yet processed. -/
def burst (descending : Bool) (count done : Nat) : Nat × Nat :=
  let left := count - done
  if descending then
    let start := Config.burstWords * ((left + 7) / 8 - 1)
    (start, left - start)
  else (done, min Config.burstWords left)

/-- The Copy Engine's request (R141, R143, R145, R146). -/
def State.engineRequest (s : State) : Option Grant :=
  match s.eng.cmd, s.eng.phase with
  | some (.copy src _ count), .readWait =>
    let b := burst s.eng.descending count s.eng.wordsDone
    if 0 < b.2 then some ⟨.copyRead, src + b.1, b.2⟩ else none
  | some (.copy _ dst count), .writeWait =>
    let b := burst s.eng.descending count s.eng.wordsDone
    if 0 < b.2 then some ⟨.copyWrite, dst + b.1, b.2⟩ else none
  | some (.fill dst count _ _), .writeWait =>
    let b := burst false count s.eng.wordsDone
    if 0 < b.2 then some ⟨.fill, dst + b.1, b.2⟩ else none
  | some (.measure i), .readWait =>
    let b := burst false (s.slot i).length s.eng.wordsDone
    if 0 < b.2 then some ⟨.measure, (s.slot i).base + b.1, b.2⟩ else none
  | _, _ => none

/-- The Scrubber's request (R28, R29). -/
def State.scrubGrant (s : State) : Option Grant :=
  if s.scrub.request then some ⟨.scrub, s.scrub.pos, Config.burstWords⟩ else none

/-- The Scrubber's request is escalated (R42). -/
def State.escalated (s : State) : Bool :=
  s.scrub.request && s.arb.escalate != 0 && decide (s.arb.escalate ≤ s.arb.lossCount)

/-! ## Decisions (R36 to R38, R42, R44) -/

/-- The order in which a decision examines the lanes: from the one after the rotation pointer (R38). -/
def rotation (p : LaneId) : List LaneId := [p + 1, p + 2, p + 3, p]

/-- The lane that the rotation picks among those with a high, or a low, request (R38). -/
def State.laneWinner (s : State) (high : Bool) : Option Grant :=
  (rotation s.arb.pointer).findSome? fun n =>
    match s.laneRequest n with
    | some q => if q.high = high then some q.grant else none
    | none => none

/-- The winner of a decision (R37): URGENT, HOST, LANE_LOW, ENGINE, SCRUB, with HOST in front under HOST_FIRST. -/
def State.decision (s : State) : Option Grant :=
  let urgent := (if s.escalated then s.scrubGrant else none).orElse fun _ => s.laneWinner true
  let host := s.windowRequest
  let rest := (s.laneWinner false).orElse fun _ => s.engineRequest.orElse fun _ => s.scrubGrant
  if s.arb.hostFirst then host.orElse fun _ => urgent.orElse fun _ => rest
  else urgent.orElse fun _ => host.orElse fun _ => rest

/-- A supervisor reset is due, or a soft reset whose write buffer has drained: the grant in progress is the last (R45,
R175). -/
def State.resetHolds (s : State) : Bool := s.rst.supDue || (s.rst.softDue && s.win.buffer.isEmpty)

/-- Grants are allowed (R44): in RUN and DOZE, not during the init sweep, not while RSTN is low or a reset is due. -/
def State.grantsAllowed (s : State) : Bool :=
  s.power != .retain && !s.sweep.running && !s.rst.pinHeld && !s.resetHolds

/-- Makes a grant: the rotation pointer follows a lane (R38), the loss count follows the Scrubber (R42), and a window read
becomes GRANTED (R126). -/
def State.makeGrant (s : State) (g : Grant) : State :=
  let arb := { s.arb with grant := some g }
  match g.who with
  | .scrub => { s with arb := { arb with lossCount := 0 }, scrub := { s.scrub with request := false } }
  | who =>
    let arb := { arb with lossCount := if s.scrub.request then satInc arb.lossCount else arb.lossCount }
    match who with
    | .ingress n | .egress n => { s with arb := { arb with pointer := n } }
    | .winRead =>
      { s with arb := arb, win := { s.win with
          stage := match s.win.stage with
            | .issued p => .granted p
            | stage => stage } }
    | _ => { s with arb := arb }

/-- The Arbiter at the end of a step (R36): if the memory is free, grants are allowed and a request is present, it makes a
decision and the winner's grant. -/
def State.arbitrate (s : State) : State :=
  if s.arb.grant.isNone ∧ s.grantsAllowed = true then
    match s.decision with
    | none => s
    | some g => s.makeGrant g
  else s

end Sys2Proof.Machine
end

