-- ==== Sys2Proof/Machine/MemoryBlock.lean ====
section
/-! DEFINITION. The memory block's reporting of read outcomes, the mark, the init sweep and the Scrubber (R19 to R31, R62). -/

namespace Sys2Proof.Machine

/-! ## The mark (R21, R62) -/

/-- The assigned slots whose regions hold one of the word addresses (R21). -/
def State.slotsMeeting (s : State) (addrs : List Nat) : List SlotId :=
  slotList.filter fun i => (s.slot i).assigned && addrs.any fun a => (s.slot i).covers a

/-- Takes a slot out of every lane's linger place. -/
def State.unlinger (s : State) (i : SlotId) : State :=
  laneList.foldl (fun s n => if (s.lane n).linger = some i then s.updLane n fun l => { l with linger := none } else s) s

/-- Takes a slot out of its owner's free list, wherever it stands there (R52). -/
def State.unlistFree (s : State) (i : SlotId) : State :=
  match (s.slot i).owner with
  | .none => s
  | .host => { s with hostFree := s.hostFree.filter (· != i) }
  | .lane n => s.updLane n fun l => { l with freeList := l.freeList.filter (· != i) }

/-- What a mark does to a slot that now has ECC_BAD, by its state (R62). -/
def State.quarantineMarked (s : State) (i : SlotId) : State :=
  match (s.slot i).st with
  | .free => (s.unlistFree i).updSlot i fun r => { r with st := .quarantined }
  | .linger => (s.unlinger i).updSlot i fun r => { r with st := .quarantined }
  | _ => s

/-- The mark (R62): ECC_FIXED on the slots that hold a corrected word, ECC_BAD on the slots that hold an uncorrectable
word, and the quarantine of the FREE and LINGER slots among the latter. -/
def State.mark (s : State) (fixedAt badAt : List Nat) : State :=
  let bad := s.slotsMeeting badAt
  let s := (s.slotsMeeting fixedAt).foldl
    (fun s i => s.updSlot i fun r => { r with flags := { r.flags with eccFixed := true } }) s
  let s := bad.foldl (fun s i => s.updSlot i fun r => { r with flags := { r.flags with eccBad := true } }) s
  bad.foldl State.quarantineMarked s

/-! ## Reporting (R19, R20, R22 to R24) -/

/-- The counters and ECC_LAST_ADDR after a grant's reads (R19, R20, R22): the latch ends holding the last uncorrectable
word. -/
def Ecc.counted (e : Ecc) (reader : Reader) (rs : List WordRead) : Ecc :=
  { e with
    corrCount := satAdd e.corrCount (correctedOf rs).length
    uncorrCount := satAdd e.uncorrCount (uncorrectableOf rs).length
    last := match (uncorrectableOf rs).getLast? with
      | none => e.last
      | some r => ⟨true, r.addr, reader⟩ }

/-- Raises ECC_CORRECTED for a grant that read a corrected word, while the correction report is armed, and disarms it
(R23). -/
def State.reportCorrected (s : State) (reader : Reader) (rs : List WordRead) : State :=
  match correctedOf rs with
  | [] => s
  | r :: _ =>
    if s.ecc.reportArmed then
      let s := { s with ecc := { s.ecc with reportArmed := false } }
      s.raise (s.event .eccCorrected memoryGroup reader.source (s.slotAt r.addr) (placed r.addr 0))
    else s

/-- Raises ECC_UNCORRECTABLE for a grant that read an uncorrectable word: the first one's address and how many (R20). -/
def State.reportUncorrectable (s : State) (reader : Reader) (rs : List WordRead) : State :=
  match uncorrectableOf rs with
  | [] => s
  | r :: more =>
    s.raise (s.event .eccUncorrectable memoryGroup reader.source (s.slotAt r.addr)
      (placed r.addr 0 ||| placed (more.length + 1) 20))

/-- Step 2 of a read grant's end sequence (R33): the counters and the latch, the mark, and then the events in the order of
R24. -/
def State.eccReport (s : State) (reader : Reader) (rs : List WordRead) : State :=
  let s := { s with ecc := s.ecc.counted reader rs }
  let s := s.mark ((correctedOf rs).map WordRead.addr) ((uncorrectableOf rs).map WordRead.addr)
  (s.reportCorrected reader rs).reportUncorrectable reader rs

/-! ## The Scrubber (R27 to R30) -/

/-- The conditions under which the interval is counted and a request may be raised (R28): enabled, none raised, no burst of
its own in progress, the sweep done, the part in RUN or DOZE. -/
def State.scrubCounting (s : State) : Bool :=
  s.scrub.enabled && !s.scrub.request && !s.sweep.running && s.power != .retain &&
    match s.arb.grant with
    | some g => g.who != .scrub
    | none => true

/-- The Scrubber raises its request once its interval count has reached N (R28). -/
def State.scrubRaise (s : State) : State :=
  if s.scrubCounting = true ∧ s.scrub.n ≤ s.scrub.interval then { s with scrub := { s.scrub with request := true } } else s

/-- SCRUB_CFG stored from a written word (R27, §11.7): a Scrubber that is enabled anew starts its interval, one that is
disabled withdraws its request, and the Arbiter's loss count follows a withdrawal (R42). -/
def State.writeScrubCfg (s : State) (w : Word) : State :=
  let on := bitAt w 16
  let old := s.scrub
  let scrub := { old with
    n := w.setWidth 16
    passEvent := bitAt w 17
    enabled := on
    interval := if on && !old.enabled then 0 else old.interval
    request := on && old.request }
  let arb := if old.request && !on then { s.arb with lossCount := 0 } else s.arb
  { s with scrub := scrub, arb := arb }.scrubRaise

/-- The Scrubber's pass tallies after a burst (R29). -/
def Scrubber.tallied (c : Scrubber) (rs : List WordRead) : Scrubber :=
  { c with
    corrTally := satAdd c.corrTally (correctedOf rs).length
    uncorrTally := satAdd c.uncorrTally (uncorrectableOf rs).length }

/-- A burst ends (R30): the position advances, and a wrap completes a pass, raises SCRUB_PASS if enabled, and clears the
tallies. The interval count returns to 0 (R28). -/
def State.scrubAdvance (s : State) : State :=
  let pos := (s.scrub.pos + Config.burstWords) % s.memWords
  let corr := s.scrub.corrTally
  let uncorr := s.scrub.uncorrTally
  let s := { s with scrub := { s.scrub with pos := pos, interval := 0 } }
  if pos = 0 then
    let s := { s with scrub := { s.scrub with corrTally := 0, uncorrTally := 0 } }
    if s.scrub.passEvent then s.raise (s.event .scrubPass memoryGroup 9 none (halves corr.toNat uncorr.toNat)) else s
  else s

/-! ## The init sweep (R25) -/

/-- The sweep has written its last word (R25): INIT_DONE is raised, and an enabled Scrubber starts (R28). -/
def State.finishSweep (s : State) : State :=
  let s := { s with
    mem := s.mem.zeroFrom s.sweep.next s.memWords
    sweep := ⟨false, 0, true⟩ }
  (s.raise (s.event .initDone memoryGroup 8 none (placed s.memWords 0))).scrubRaise

/-- The sweep writes its next word, and ends with the last one (R25). -/
def State.sweepWord (s : State) : State :=
  if s.sweep.next + 1 < s.memWords then
    { s with mem := s.mem.write s.sweep.next 0, sweep := { s.sweep with next := s.sweep.next + 1 } }
  else s.finishSweep

end Sys2Proof.Machine
end

