-- ==== Sys2Proof/Machine/Ingress.lean ====
section
/-! DEFINITION. Ingress lanes: the stream port, the frame logic, publish and allocate (R58, R61, R81 to R93). -/

namespace Sys2Proof.Machine

/-! ## The frame logic at the FIFO head (R83 to R92) -/

/-- Removes the head entry of a lane's FIFO. -/
def State.dropHead (s : State) (n : LaneId) : State := s.updLane n fun l => { l with fifo := l.fifo.drop 1 }

/-- Changes the head entry of a lane's FIFO. -/
def State.updHead (s : State) (n : LaneId) (f : FifoEntry → FifoEntry) : State :=
  s.updLane n fun l => { l with fifo := match l.fifo with
    | [] => []
    | e :: es => f e :: es }

/-- WORDS_LOST is set on the slot, and raised when the flag goes from clear to set (R91). -/
def State.loseWordsOf (s : State) (n : LaneId) (i : SlotId) : State :=
  let r := s.slot i
  if r.flags.wordsLost then s
  else
    (s.setSlot i { r with flags := { r.flags with wordsLost := true } }).raiseLane n .wordsLost (some i)
      (placed r.seq.toNat 0)

/-- Acts on the LOSS marker of the head entry, once, before anything else is done with the entry (R91): it marks the frame
in progress, if the lane holds its slot. -/
def State.actLoss (s : State) (n : LaneId) : State :=
  match (s.lane n).fifo with
  | [] => s
  | e :: _ =>
    if e.loss then
      let s := s.updHead n fun e => { e with loss := false }
      match (s.lane n).cur with
      | some i => s.loseWordsOf n i
      | none => s
    else s

/-- How the lane's frame logic makes its Slot Manager requests: as an occurrence of the moment does, or as an operation
causes them (R57). -/
inductive Voice where
  | asking
  | causing
deriving DecidableEq, Repr

def State.request (s : State) (v : Voice) (r : Req) : State :=
  match v with
  | .asking => s.ask r
  | .causing => s.cause r

/-- An SOF entry in IDLE begins a frame (R84): it takes the next sequence number, arms the stray report and requests an
allocate. -/
def State.beginFrame (s : State) (v : Voice) (n : LaneId) (e : FifoEntry) : State :=
  (s.updLane n fun l =>
    { l with
      frameSeq := l.nextSeq, frameStamp := e.stamp, nextSeq := l.nextSeq + 1, strayArmed := true }).request v (.allocate n)

/-- A stray word: removed and counted, and reported while the stray report is armed (R87). -/
def State.stray (s : State) (n : LaneId) (e : FifoEntry) : State :=
  let armed := (s.lane n).strayArmed
  let s := (s.dropHead n).count n fun c => { c with strayWords := satInc c.strayWords }
  if armed then (s.updLane n fun l => { l with strayArmed := false }).raiseLane n .strayWords none e.data else s

/-- An SOF entry cuts the current frame (R90): CUT is set and a publish is requested, with the SOF entry still at the
head. -/
def State.cutFrame (s : State) (v : Voice) (n : LaneId) (i : SlotId) : State :=
  (s.updSlot i fun r => { r with flags := { r.flags with cut := true } }).request v (.publish n)

/-- One entry handled at the head (R83), or `none` where the frame logic has nothing to handle: the FIFO is empty, a Slot
Manager request of the lane is outstanding, the entry is one that a grant writes, or the lane is STALLED. -/
def State.handleHead (s : State) (v : Voice) (n : LaneId) : Option State :=
  let l := s.lane n
  if l.cfg.dir ≠ .ingress ∨ l.moving = false ∨ s.outstanding (.publish n) = true ∨ s.outstanding (.allocate n) = true then
    none
  else
    match l.fifo with
    | [] => none
    | e :: _ =>
      match l.sub, l.cur with
      | .idle, _ =>
        if l.st = .stopping then some (s.stopAtBoundary n)
        else
          let s := s.actLoss n
          if e.sof then some (s.beginFrame v n e) else some (s.stray n e)
      | .receiving, some i =>
        if e.sof && !e.acted then some ((s.actLoss n).cutFrame v n i)
        else if (s.slot i).length < (s.slot i).capacity then none
        else
          let s := ((s.actLoss n).dropHead n).updSlot i fun r => { r with flags := { r.flags with truncated := true } }
          if e.eof then some (s.request v (.publish n))
          else some (s.updLane n fun l => { l with sub := .discarding })
      | .discarding, some i =>
        if e.sof then some ((s.actLoss n).cutFrame v n i)
        else
          let s := (s.actLoss n).dropHead n
          if e.eof then some (s.request v (.publish n)) else some s
      | .discarding, none =>
        if e.sof then some (s.updLane n fun l => { l with sub := .idle })
        else if e.eof then
          let s := (s.dropHead n).updLane n fun l => { l with sub := .idle }
          if l.st = .stopping then some (s.stopAtBoundary n) else some s
        else some (s.dropHead n)
      | _, _ => none

/-- The frame logic handles entries as soon as they reach the head, until none is left to handle (R83). -/
def State.frameLogicFor : Nat → Voice → LaneId → State → State
  | 0, _, _, s => s
  | k + 1, v, n, s =>
    match s.handleHead v n with
    | none => s
    | some s' => State.frameLogicFor k v n s'

/-- The frame logic of a lane. Each entry is handled at most twice (a DISCARDING run that an SOF ends), and one more round
stops a STOPPING lane. -/
def State.frameLogic (s : State) (v : Voice) (n : LaneId) : State :=
  State.frameLogicFor (2 * (s.lane n).fifo.length + 2) v n s

/-! ## Words arriving (R81, R82) -/

/-- Ln_READY as an ingress lane drives it (R81, R82). -/
def State.readyOut (s : State) (n : LaneId) : Bool :=
  let l := s.lane n
  l.cfg.dir == .ingress && l.st != .off && !s.rst.pinHeld &&
    (if l.cfg.backpressure then l.moving && decide (l.fifo.length < Config.fifoDepth) else true)

/-- A word enters the FIFO (R81, R82). -/
def Lane.accept (l : Lane) (data : Word) (sof eof : Bool) (now : Word) : Lane :=
  { l with
    fifo := l.fifo ++ [⟨data, sof, eof, l.lossPending, false, false, if sof then now else 0⟩]
    lossPending := false }

/-- A word is offered at a DCLK edge (R82): with Ln_READY false there is no transfer; a STOPPED must-accept lane discards
it; a full FIFO loses it; otherwise it enters the FIFO and the frame logic goes on. -/
def State.arrive (s : State) (n : LaneId) (data : Word) (sof eof : Bool) : State :=
  let l := s.lane n
  if s.readyOut n = false ∨ l.moving = false then s
  else if l.fifo.length < Config.fifoDepth then
    (s.updLane n fun l => l.accept data sof eof s.tb.count).frameLogic .asking n
  else
    (s.count n fun c => { c with wordsLost := satInc c.wordsLost }).updLane n fun l => { l with lossPending := true }

/-! ## Publish (R58, R93) -/

/-- The slot as a publish leaves it (R58): READY, with the finished statistics if the lane computed any. -/
def Slot.published (r : Slot) (stats : Option RunningStats) : Slot :=
  { r with st := .ready, stats := match stats with
    | some rs => some rs.finish
    | none => r.stats }

/-- The events of a published frame, in the order of R93. -/
def State.raisePublished (s : State) (n : LaneId) (i : SlotId) : State :=
  let r := s.slot i
  let seq := placed r.seq.toNat 0
  let s := if r.flags.truncated then s.raiseLane n .frameTruncated (some i) seq else s
  let s := if r.flags.cut then s.raiseLane n .frameCut (some i) seq else s
  if (s.lane n).cfg.frameEvents then s.raiseLane n .framePublished (some i) (halves r.seq.toNat (r.length - 1)) else s

/-- The publish of ingress lane `n` (R58, R93): the slot becomes READY at the tail of the ready queue; the frame is counted
and its events raised; the bound egress lane is offered it (R104); a STOPPING lane stops, and otherwise the frame logic goes
on. The bound lane's take is caused before the lane's own allocate. DESIGN CHOICE (assumption 9). -/
def State.servePublish (s : State) (n : LaneId) : State :=
  match (s.lane n).cur with
  | none => s
  | some i =>
    let l := s.lane n
    let s := s.updSlot i fun r => r.published (if l.cfg.inspect then l.inspecting else none)
    let r := s.slot i
    let s := s.updLane n fun l =>
      { l with cur := none, sub := .idle, inspecting := none, readyQ := l.readyQ ++ [i] }
    let s := s.count n fun c =>
      { c with
        published := satInc c.published
        truncated := if r.flags.truncated then satInc c.truncated else c.truncated
        cut := if r.flags.cut then satInc c.cut else c.cut }
    let s := s.raisePublished n i
    let stopping := l.st == .stopping
    let s := if stopping then s.stopAtBoundary n else s
    let s := match s.boundTo n with
      | some m => s.nudge m
      | none => s
    if stopping then s else s.frameLogic .causing n

/-! ## Allocate (R61, R85, R86) -/

/-- What an allocate finds (R61): a slot of the free list, the reusable head of the ready queue, or nothing. -/
inductive Allocation where
  | fromFree (i : SlotId) (rest : List SlotId)
  | reused (i : SlotId) (rest : List SlotId)
  | none
deriving DecidableEq, Repr

def State.allocation (s : State) (n : LaneId) : Allocation :=
  let l := s.lane n
  match l.freeList with
  | i :: rest => .fromFree i rest
  | [] =>
    if l.cfg.inPolicy = .overwriteOldest then
      match l.readyQ with
      | i :: rest => if (s.slot i).flags.eccBad then .none else .reused i rest
      | [] => .none
    else .none

/-- The slot enters FILLING in the lane's current place (R48, R61), and the frame logic enters RECEIVING: the SOF marker of
the opening entry has been acted on (R83), and the statistics start afresh (R98). -/
def State.startReceiving (s : State) (n : LaneId) (i : SlotId) : State :=
  let l := s.lane n
  let s := s.updSlot i fun r => { r.cleared with st := .filling, seq := l.frameSeq, stamp := l.frameStamp }
  let s := s.updLane n fun l =>
    { l with
      cur := some i, sub := .receiving
      inspecting := if l.cfg.inspect then some RunningStats.start else none }
  s.updHead n fun e => { e with acted := true }

/-- A frame is counted as dropped, and FRAME_DROPPED is raised with its reason: 1 NO_SLOT, 2 HALTED, 3 STOPPED (R95). -/
def State.dropFrame (s : State) (n : LaneId) (slot : Option SlotId) (reason : Nat) : State :=
  let seq := (s.lane n).frameSeq
  (s.count n fun c => { c with dropped := satInc c.dropped }).raiseLane n .frameDropped slot (halves seq.toNat reason)

/-- The allocate of ingress lane `n` and what the lane does with its outcome (R61, R85, R86). FRAME_DROPPED is raised before the
frame logic goes on to the words behind the dropped entry. DESIGN CHOICE (assumption 39). -/
def State.serveAllocate (s : State) (n : LaneId) : State :=
  let l := s.lane n
  match s.allocation n with
  | .fromFree i rest =>
    ((s.updLane n fun l => { l with freeList := rest }).startReceiving n i).frameLogic .causing n
  | .reused i rest =>
    let old := (s.slot i).seq
    let s := (s.updLane n fun l => { l with readyQ := rest }).startReceiving n i
    let s := s.count n fun c => { c with overwritten := satInc c.overwritten }
    (s.raiseLane n .frameOverwritten (some i) (halves old.toNat l.frameSeq.toNat)).frameLogic .causing n
  | .none =>
    if l.cfg.inPolicy = .stall then
      let first := l.sub != .stalled
      let s := s.updLane n fun l => { l with sub := .stalled }
      let s := if l.st = .stopping then s.dropFrame n none 3 else s
      let s := if first then s.raiseLane n .slotStarved none (placed l.frameSeq.toNat 0) else s
      if l.st = .stopping then s.stopAtBoundary n else s
    else
      let s := (s.dropHead n).updLane n fun l => { l with sub := .discarding }
      (s.dropFrame n none 1).frameLogic .causing n

/-! ## Grant end (R88) -/

/-- The words a grant has written leave the FIFO and join the slot and its statistics (R88, R98), and their LOSS markers are
acted on (R91). -/
def State.takeWritten (s : State) (n : LaneId) (i : SlotId) (count : Nat) : State :=
  let written := (s.lane n).fifo.take count
  let s := s.updLane n fun l =>
    { l with
      fifo := l.fifo.drop count
      inspecting := l.inspecting.map fun r => r.addAll (written.map FifoEntry.data) }
  let s := s.updSlot i fun r => { r with length := r.length + written.length }
  if written.any FifoEntry.loss then s.loseWordsOf n i else s

end Sys2Proof.Machine
end

