-- ==== Sys2Proof/Machine/Egress.lean ====
section
/-! DEFINITION. Egress lanes: take, sending, return, triggers (R59, R60, R100 to R113, R117). -/

namespace Sys2Proof.Machine

/-! ## Take (R60, R107, R117) -/

/-- What a take finds (R60). -/
inductive TakeSource where
  | submitted (i : SlotId) (rest : List SlotId)
  | ready (m : LaneId) (i : SlotId) (rest : List SlotId)
  | lingering (i : SlotId)
  | none
deriving DecidableEq, Repr

/-- The sources after the submit queue: the ready queue of the bound lane, then the linger place under REPEAT_LAST. -/
def State.lingerSource (s : State) (n : LaneId) : TakeSource :=
  let l := s.lane n
  if l.cfg.egPolicy = .repeatLast then
    match l.linger with
    | some i => .lingering i
    | none => .none
  else .none

/-- The sources of a take in their order (R60); safe mode examines none. -/
def State.takeSource (s : State) (n : LaneId) : TakeSource :=
  if s.sup.safeMode then .none
  else
    let l := s.lane n
    match l.submitQ with
    | i :: rest => .submitted i rest
    | [] =>
      match l.binding with
      | none => s.lingerSource n
      | some m =>
        match (s.lane m).readyQ with
        | i :: rest => .ready m i rest
        | [] => s.lingerSource n

/-- The slot is DRAINING in the lane's current place, and the lane enters SENDING with nothing fetched or sent (R107, R110);
the CRC check is decided here (R112). -/
def State.startSending (s : State) (n : LaneId) (i : SlotId) : State :=
  let s := s.updSlot i fun r => { r with st := .draining }
  let r := s.slot i
  s.updLane n fun l =>
    { l with
      cur := some i, sub := .sending, fifo := [], fetched := 0, sent := 0, frameLen := r.length
      checking := if l.cfg.crcCheck && r.stats.isSome then some crcStart else none }

/-- The policy that decides a take that yields NONE (R107): the lane's own, or the safe policy under safe mode (R117). -/
def State.emptyPolicy (s : State) (n : LaneId) : EgressPolicy :=
  if s.sup.safeMode then (if s.sup.safeFill then .emitFill else .idle) else (s.lane n).cfg.egPolicy

/-- The take of egress lane `n` and what the lane does with its outcome (R60, R107). -/
def State.serveTake (s : State) (n : LaneId) : State :=
  match s.takeSource n with
  | .submitted i rest => (s.updLane n fun l => { l with submitQ := rest }).startSending n i
  | .ready m i rest => (s.updLane m fun l => { l with readyQ := rest }).startSending n i
  | .lingering i =>
    let s := s.updSlot i fun r =>
      { r with repeats := satInc r.repeats, flags := { r.flags with repeated := true } }
    let s := (s.updLane n fun l => { l with linger := none }).startSending n i
    let s := s.count n fun c => { c with repeated := satInc c.repeated }
    let r := s.slot i
    if (s.lane n).cfg.frameEvents then s.raiseLane n .frameRepeated (some i) (halves r.seq.toNat r.repeats.toNat) else s
  | .none =>
    match s.emptyPolicy n with
    | .emitFill => s.updLane n fun l => { l with sub := .sendingFill, fillSent := 0, fifo := [] }
    | .idle | .repeatLast => s.updLane n fun l => { l with sub := .idle }

/-! ## Sending (R100, R109 to R112) -/

/-- The length of a fill frame (R109). -/
def Lane.fillLength (l : Lane) : Nat := l.fillLen.toNat + 1

/-- A word on the stream port of an egress lane: data and markers (R100). -/
structure Offer where
  data : Word
  sof  : Bool
  eof  : Bool
  err  : Bool
deriving DecidableEq, Repr

/-- The word an egress lane offers with Ln_VALID true (R100), or `none` while Ln_VALID is false. -/
def State.offered (s : State) (n : LaneId) : Option Offer :=
  let l := s.lane n
  if l.cfg.dir = .egress ∧ l.moving = true then
    match l.sub with
    | .sending =>
      match l.fifo with
      | [] => none
      | e :: _ => some ⟨e.data, l.sent == 0, l.sent + 1 == l.frameLen, e.err⟩
    | .sendingFill => some ⟨l.fillWord, l.fillSent == 0, l.fillSent + 1 == l.fillLength, false⟩
    | _ => none
  else none

/-- The lane ends a frame (R109, R113): a STOPPING lane stops, and any other is IDLE and, if free-running, takes again. -/
def State.endEgressFrame (s : State) (n : LaneId) : State :=
  if (s.lane n).st = .stopping then s.stopAtBoundary n
  else (s.updLane n fun l => { l with sub := .idle }).nudge n

/-- The last fill word has been sent (R109). -/
def State.endFill (s : State) (n : LaneId) : State :=
  let s := s.count n fun c => { c with fills := satInc c.fills }
  let l := s.lane n
  let s := if l.cfg.frameEvents then s.raiseLane n .fillSent none (placed l.fillLength 0) else s
  s.endEgressFrame n

/-- The lane after one word of its slot frame is sent (R110, R112). -/
def Lane.sentWord (l : Lane) (o : Offer) : Lane :=
  { l with fifo := l.fifo.drop 1, sent := l.sent + 1, checking := l.checking.map fun c => crcWord c o.data }

/-- A transfer sends the word offered (R100); with none offered Ln_READY is ignored. The last word of a slot frame requests
the return (R110), the last word of a fill frame ends it. -/
def State.send (s : State) (n : LaneId) : State :=
  match s.offered n with
  | none => s
  | some o =>
    if (s.lane n).sub = .sendingFill then
      let s := s.updLane n fun l => { l with fillSent := l.fillSent + 1 }
      if o.eof then s.endFill n else s
    else
      let s := s.updLane n fun l => l.sentWord o
      let s := if o.err then s.count n fun c => { c with eccWords := satInc c.eccWords } else s
      if o.eof then (s.updLane n fun l => { l with sub := .closing }).ask (.ret n) else s

/-! ## Return (R59, R112, R113) -/

/-- The crc of the words sent, where the check was made and failed (R112). -/
def State.crcFailure (s : State) (n : LaneId) (i : SlotId) : Option Word :=
  match (s.lane n).checking, (s.slot i).stats with
  | some reg, some st => if ~~~reg = st.crc then none else some (~~~reg)
  | _, _ => none

/-- The disposal of a finished slot by the lane's policy and the slot's flags (R59), with the slots that it returned. -/
def State.dispose (s : State) (n : LaneId) (i : SlotId) : State × List SlotId :=
  let l := s.lane n
  let s := s.updLane n fun l => { l with cur := none }
  if l.cfg.egPolicy = .repeatLast ∧ (s.slot i).flags.eccBad = false then
    let old := l.linger.toList
    let s := (s.returnAll old).updSlot i fun r => { r with st := .linger }
    (s.updLane n fun l => { l with linger := some i }, old)
  else (s.returnSlot i, [i])

/-- The return of egress lane `n` and the end of its frame (R59, R113). The lane's next take is caused before the allocate of
a lane that the returned slot wakes. DESIGN CHOICE (assumption 9). -/
def State.serveReturn (s : State) (n : LaneId) : State :=
  match (s.lane n).cur with
  | none => s
  | some i =>
    let failed := s.crcFailure n i
    let s := match failed with
      | none => s
      | some _ => s.updSlot i fun r => { r with flags := { r.flags with crcMismatch := true } }
    let r := s.slot i
    let (s, gone) := s.dispose n i
    let s := match failed with
      | none => s
      | some crc =>
        (s.count n fun c => { c with crcMismatch := satInc c.crcMismatch }).raiseLane n .crcMismatch (some i) crc
    let s := s.count n fun c => { c with sent := satInc c.sent }
    let s :=
      if (s.lane n).cfg.frameEvents then s.raiseLane n .frameSent (some i) (halves r.seq.toNat (r.length - 1)) else s
    (s.endEgressFrame n).tellOwners gone

/-! ## Triggers (R105, R106) -/

/-- The words of the frame in progress that a lane has sent so far (R106, R115). -/
def Lane.wordsSent (l : Lane) : Nat :=
  match l.sub with
  | .sending | .closing => l.sent
  | .sendingFill => l.fillSent
  | _ => 0

/-- A missed edge is counted and reported (R106). -/
def State.missTrigger (s : State) (n : LaneId) : State :=
  let l := s.lane n
  (s.count n fun c => { c with triggersMissed := satInc c.triggersMissed }).raiseLane n .triggerMissed l.cur
    (placed l.wordsSent 0)

/-- Ln_TRIG is sampled (R105): an edge on a triggered lane that is RUNNING and IDLE requests a take; during a frame or while
STOPPING it is missed; on an OFF or STOPPED lane it is ignored. -/
def State.sampleTrigger (s : State) (n : LaneId) (level : Bool) : State :=
  let l := s.lane n
  let edge := level && !l.trig
  let s := s.updLane n fun l => { l with trig := level }
  if edge = true ∧ l.cfg.dir = .egress ∧ l.cfg.triggered = true ∧ l.moving = true then
    if l.st = .running ∧ l.sub = .idle then (s.updLane n fun l => { l with sub := .taking }).ask (.take n)
    else s.missTrigger n
  else s

end Sys2Proof.Machine
end

