-- ==== Sys2Proof/Machine/Commands.lean ====
section
/-! DEFINITION. The Command Processor, the slot commands, the lane commands and BIND (R63 to R70, R77 to R79, R94, R102,
R114 to R116, R133 to R138). -/

namespace Sys2Proof.Machine

/-! ## Completion and dispatch (R136 to R138) -/

/-- The head command completes (R138): it leaves the queue, its reservation becomes its COMMAND_DONE record, and the COMMAND
flag is set. The engine's commands and the short ones share it. -/
def State.recordDone (s : State) (e : CmdEntry) (res : Result) (value : Nat) (slot : Option SlotId) : State :=
  let s := { s with cmd := { s.cmd with queue := s.cmd.queue.tail } }
  s.raise ⟨.commandDone, some commandGroup, e.tag, slot, s.tb.count, commandDetail value res e.code⟩

/-- The head command can be dispatched (R136). -/
def State.dispatchable (s : State) : Bool :=
  !s.cmd.queue.isEmpty && s.eng.cmd.isNone && !s.cmd.haltDeferred && s.win.buffer.isEmpty && s.power != .retain

/-- The first point at which the head command can be dispatched, reached by an occurrence of the moment (R136). -/
def State.askDispatch (s : State) : State := if s.dispatchable then s.ask .command else s

/-- The next command's dispatch, caused by a completion (R137). -/
def State.causeDispatch (s : State) : State := if s.dispatchable then s.cause .command else s

/-! ## Slot commands (R63 to R69) -/

/-- Two regions overlap (R64, check 7). -/
def Slot.overlaps (r : Slot) (base capacity : Nat) : Bool :=
  decide (r.base < base + capacity) && decide (base < r.base + r.capacity)

/-- The check of SLOT_ASSIGN that fails first (R64). -/
def State.slotAssignFails (s : State) (i : Option SlotId) (o : Option Owner) (base cap : Nat) : Option Result :=
  if s.port.lock then some .locked
  else
    match i, o with
    | some i, some o =>
      if base % 64 ≠ 0 ∨ cap % 64 ≠ 0 ∨ cap < 64 ∨ 65536 < cap ∨ s.memWords < base + cap then some .badParam
      else if (s.slot i).st ≠ .unassigned then some .badState
      else
        match o with
        | .lane n =>
          if (s.lane n).cfg.dir ≠ .ingress then some .badState
          else if Config.ownedSlots ≤ s.owned n then some .full
          else if slotList.any fun j => (s.slot j).assigned && (s.slot j).overlaps base cap then some .overlap
          else none
        | _ => if slotList.any fun j => (s.slot j).assigned && (s.slot j).overlaps base cap then some .overlap else none
    | _, _ => some .badParam

/-- SLOT_ASSIGN (R64). -/
def State.slotAssign (s : State) (e : CmdEntry) : State :=
  let i := slotArg e.arg0
  let o := Owner.ofCode e.arg1.toNat
  let base := e.arg2.toNat
  let cap := e.arg3.toNat
  match s.slotAssignFails i o base cap with
  | some res => s.recordDone e res 0 i
  | none =>
    let s := s.recordDone e .ok 0 i
    match i, o with
    | some i, some o =>
      let s := s.setSlot i { Slot.unassigned with owner := o, base := base, capacity := cap }
      (s.joinFree i).tellOwners [i]
    | _, _ => s

/-- The check of SLOT_UNASSIGN that fails first (R65). -/
def State.slotUnassignFails (s : State) (i : Option SlotId) : Option Result :=
  if s.port.lock then some .locked
  else
    match i with
    | none => some .badParam
    | some i => if (s.slot i).st = .free ∨ (s.slot i).st = .quarantined then none else some .badState

/-- SLOT_UNASSIGN (R65). -/
def State.slotUnassign (s : State) (e : CmdEntry) : State :=
  let i := slotArg e.arg0
  match s.slotUnassignFails i with
  | some res => s.recordDone e res 0 i
  | none =>
    let s := s.recordDone e .ok 0 i
    match i with
    | some i => (if (s.slot i).st = .free then s.unlistFree i else s).setSlot i Slot.unassigned
    | none => s

/-- CLAIM (R66): its checks in order, and the head of the ready queue to CLAIMED. -/
def State.claim (s : State) (e : CmdEntry) : State :=
  match laneArg e.arg0 with
  | none => s.recordDone e .badParam 0 none
  | some n =>
    if (s.lane n).cfg.dir ≠ .ingress then s.recordDone e .badParam 0 none
    else if (s.boundTo n).isSome then s.recordDone e .notConsumer 0 none
    else
      match (s.lane n).readyQ with
      | [] => s.recordDone e .empty 0 none
      | i :: rest =>
        let s := s.recordDone e .ok i.val (some i)
        (s.updLane n fun l => { l with readyQ := rest }).updSlot i fun r => { r with st := .claimed }

/-- ALLOC (R67). -/
def State.alloc (s : State) (e : CmdEntry) : State :=
  match s.hostFree with
  | [] => s.recordDone e .empty 0 none
  | i :: rest =>
    let s := s.recordDone e .ok i.val (some i)
    { s with hostFree := rest }.updSlot i fun r => { r.cleared with st := .claimed }

/-- RELEASE (R68). -/
def State.release (s : State) (e : CmdEntry) : State :=
  match slotArg e.arg0 with
  | none => s.recordDone e .badParam 0 none
  | some i =>
    match (s.slot i).st with
    | .claimed => ((s.recordDone e .ok 0 (some i)).returnSlot i).tellOwners [i]
    | .quarantined =>
      let s := (s.recordDone e .ok 0 (some i)).updSlot i fun r => { r with flags := SlotFlags.clear, stats := none }
      (s.joinFree i).tellOwners [i]
    | _ => s.recordDone e .badState 0 (some i)

/-- The check of SUBMIT that fails first, once its slot index is known (R69). -/
def State.submitFails (s : State) (i : SlotId) (n : Option LaneId) (len : Nat) : Option Result :=
  if (s.slot i).st ≠ .claimed then some .badState
  else
    match n with
    | none => some .badParam
    | some n =>
      if (s.lane n).cfg.dir ≠ .egress then some .badParam
      else if len = 0 ∨ (s.slot i).capacity < len then some .badParam
      else if Config.submitEntries ≤ (s.lane n).submitQ.length then some .full
      else none

/-- A slot as SUBMIT leaves it (R69). -/
def Slot.submitted (r : Slot) (len : Nat) (now : Word) : Slot :=
  let r := { r with st := .ready, length := len, stats := if len = r.length then r.stats else none }
  if r.owner = .host then { r with stamp := now, flags := { r.flags with hostBuilt := true } } else r

/-- SUBMIT (R69); a free-running lane that is RUNNING and IDLE notices the entry (R104). -/
def State.submit (s : State) (e : CmdEntry) : State :=
  match slotArg e.arg0 with
  | none => s.recordDone e .badParam 0 none
  | some i =>
    let n := laneArg e.arg1
    let len := e.arg2.toNat
    match s.submitFails i n len with
    | some res => s.recordDone e res 0 (some i)
    | none =>
      let s := s.recordDone e .ok 0 (some i)
      match n with
      | none => s
      | some n =>
        let s := s.updSlot i fun r => r.submitted len s.tb.count
        (s.updLane n fun l => { l with submitQ := l.submitQ ++ [i] }).nudge n

/-! ## Lane commands (R77 to R79, R94, R114 to R116) -/

/-- The marks satisfy R41 for the lane's direction. -/
def Lane.marksValid (l : Lane) : Bool :=
  match l.cfg.dir with
  | .ingress => decide (1 ≤ l.markLo) && decide (l.markLo ≤ l.markHi) && decide (l.markHi ≤ 32)
  | .egress => decide (l.markHi ≤ l.markLo) && decide (l.markLo ≤ 24)
  | .none => false

/-- The check of LANE_START that fails first (R77). -/
def State.laneStartFails (s : State) (n : LaneId) : Option Result :=
  let l := s.lane n
  if l.st ≠ .stopped then some .badState
  else if s.power ≠ .run then some .badState
  else if l.marksValid = false then some .badConfig
  else if l.cfg.dir = .ingress ∧ l.cfg.inPolicy = .stall ∧ l.cfg.backpressure = false then some .badConfig
  else none

/-- A lane as LANE_START leaves it (R77, R87): RUNNING, its frame logic IDLE; an ingress lane's stray report armed. -/
def Lane.started (l : Lane) : Lane :=
  { l with
    st := .running, sub := .idle, fifo := []
    strayArmed := if l.cfg.dir = .ingress then true else l.strayArmed }

/-- LANE_START (R77); a free-running egress lane takes its first frame (R104). -/
def State.laneStart (s : State) (e : CmdEntry) : State :=
  match laneArg e.arg0 with
  | none => s.recordDone e .badParam 0 none
  | some n =>
    match s.laneStartFails n with
    | some res => s.recordDone e res 0 none
    | none => ((s.recordDone e .ok 0 none).updLane n Lane.started).nudge n

/-- A frame that a lane has begun and that has no slot yet (R78, R79): in IDLE with its allocate outstanding, or held in
STALLED. -/
def State.beganWithoutSlot (s : State) (n : LaneId) : Bool :=
  let l := s.lane n
  l.cfg.dir == .ingress && ((l.sub == .idle && s.outstanding (.allocate n)) || l.sub == .stalled)

/-- A command finds the lane at a frame boundary (R78, R101). -/
def Lane.atBoundary (l : Lane) : Bool :=
  match l.cfg.dir with
  | .ingress => l.sub == .idle || l.sub == .stalled
  | _ => l.sub == .idle || l.sub == .taking

/-- LANE_STOP on a RUNNING lane (R78, R114). -/
def State.stopLane (s : State) (n : LaneId) : State :=
  if (s.lane n).atBoundary then
    (if s.beganWithoutSlot n then s.dropFrame n none 3 else s).stopAtBoundary n
  else s.updLane n fun l => { l with st := .stopping }

/-- LANE_STOP (R78, R114). -/
def State.laneStop (s : State) (e : CmdEntry) : State :=
  match laneArg e.arg0 with
  | none => s.recordDone e .badParam 0 none
  | some n =>
    match (s.lane n).st with
    | .off => s.recordDone e .badState 0 none
    | .stopped => s.recordDone e .ok 0 none
    | .stopping => s.recordDone e .ok 0 none
    | .running => (s.recordDone e .ok 0 none).stopLane n

/-- LANE_HALT on a RUNNING or STOPPING lane (R79, R115): the slot in the current place is returned, never lingered; an
ingress frame is counted as dropped; the lane enters STOPPED and raises LANE_HALTED. -/
def State.haltLane (s : State) (n : LaneId) : State :=
  let l := s.lane n
  match l.cur with
  | some i =>
    let ingress := l.cfg.dir == .ingress
    let words := if ingress then (s.slot i).length else l.wordsSent
    let s := (s.returnSlot i).updLane n fun l => { l with cur := none }
    let s := if ingress then s.dropFrame n (some i) 2 else s
    let s := (s.enterStopped n).raiseLane n .laneHalted (some i) (placed words 0)
    s.tellOwners [i]
  | none =>
    let s := if s.beganWithoutSlot n then s.dropFrame n none 2 else s
    (s.enterStopped n).raiseLane n .laneHalted none (placed (if l.cfg.dir = .egress then l.wordsSent else 0) 0)

/-- LANE_HALT (R79, R115). -/
def State.laneHalt (s : State) (e : CmdEntry) : State :=
  match laneArg e.arg0 with
  | none => s.recordDone e .badParam 0 none
  | some n =>
    match (s.lane n).st with
    | .off => s.recordDone e .badState 0 none
    | .stopped => s.recordDone e .ok 0 none
    | .running => (s.recordDone e .ok 0 none).haltLane n
    | .stopping => (s.recordDone e .ok 0 none).haltLane n

/-- The slots that LANE_FLUSH returns, in order (R70): the ready queue, or the submit queue and then the linger slot. -/
def Lane.flushed (l : Lane) : List SlotId :=
  match l.cfg.dir with
  | .ingress => l.readyQ
  | _ => l.submitQ ++ l.linger.toList

/-- A lane without the slots that LANE_FLUSH returns. -/
def Lane.emptied (l : Lane) : Lane :=
  match l.cfg.dir with
  | .ingress => { l with readyQ := [] }
  | _ => { l with submitQ := [], linger := none }

/-- LANE_FLUSH (R94, R116). -/
def State.laneFlush (s : State) (e : CmdEntry) : State :=
  match laneArg e.arg0 with
  | none => s.recordDone e .badParam 0 none
  | some n =>
    if (s.lane n).st ≠ .stopped then s.recordDone e .badState 0 none
    else
      let is := (s.lane n).flushed
      (((s.recordDone e .ok 0 none).updLane n Lane.emptied).returnAll is).tellOwners is

/-- The target of a BIND (R102): an ingress lane, or no binding. -/
def bindTarget (w : Word) : Option (Option LaneId) :=
  if w.toNat = 4 then some none else (laneArg w).map some

/-- The check of BIND that fails first, once its egress lane number is known (R102). -/
def State.bindFails (s : State) (n : LaneId) (target : Option (Option LaneId)) : Option Result :=
  if s.port.lock then some .locked
  else if (s.lane n).cfg.dir ≠ .egress then some .badParam
  else
    match target with
    | none => some .badParam
    | some none => if (s.lane n).st ≠ .stopped then some .badState else none
    | some (some m) =>
      if (s.lane m).cfg.dir ≠ .ingress then some .badParam
      else if (s.lane n).st ≠ .stopped then some .badState
      else if laneList.any fun k => k != n && ((s.lane k).cfg.dir == .egress) && ((s.lane k).binding == some m) then
        some .badState
      else none

/-- BIND (R102): a changed binding gives up the linger slot (R70). -/
def State.bindLane (s : State) (e : CmdEntry) : State :=
  match laneArg e.arg0 with
  | none => s.recordDone e .badParam 0 none
  | some n =>
    match s.bindFails n (bindTarget e.arg1) with
    | some res => s.recordDone e res 0 none
    | none =>
      let target := (bindTarget e.arg1).join
      let s := s.recordDone e .ok 0 none
      if (s.lane n).binding = target then s
      else
        let is := (s.lane n).linger.toList
        ((s.updLane n fun l => { l with binding := target, linger := none }).returnAll is).tellOwners is

end Sys2Proof.Machine
end

