-- ==== Sys2Proof/Machine/CopyEngine.lean ====
section
/-! DEFINITION. The Copy Engine: COPY, FILL, MEASURE, SYNC and ENGINE_ABORT (R141 to R148). -/

namespace Sys2Proof.Machine

/-- A long command starts executing (R141). -/
def State.startLong (s : State) (c : LongCmd) (descending : Bool) (phase : Phase) (stats : Option RunningStats) : State :=
  { s with eng := ⟨some c, descending, 0, phase, [], stats, false⟩ }

/-- The slot index that a completion record of the head command carries for a long command (R138). -/
def LongCmd.slotIndex : LongCmd → Option SlotId
  | .measure i => some i
  | _ => none

/-- The executing command completes: the engine is idle again, and the next command becomes dispatchable (R137, R138). -/
def State.endLong (s : State) (res : Result) (value : Nat) : State :=
  match s.eng.cmd, s.cmd.queue with
  | some c, e :: _ => ({ s with eng := Engine.reset }.recordDone e res value c.slotIndex).causeDispatch
  | _, _ => s

/-- The check of COPY that fails first (R142). -/
def State.copyFails (s : State) (src dst count : Nat) : Option Result :=
  if count = 0 ∨ Config.maxCount < count then some .badParam
  else if s.memWords < src + count ∨ s.memWords < dst + count then some .badParam
  else if s.rangeAccessible src count = false ∨ s.rangeAccessible dst count = false then some .denied
  else none

/-- COPY at its dispatch (R142, R143). -/
def State.copy (s : State) (e : CmdEntry) : State :=
  let src := e.arg0.toNat
  let dst := e.arg1.toNat
  let count := e.arg2.toNat
  match s.copyFails src dst count with
  | some res => s.recordDone e res 0 none
  | none => s.startLong (.copy src dst count) (decide (src < dst) && decide (dst < src + count)) .readWait none

/-- The check of FILL that fails first (R145). -/
def State.fillFails (s : State) (dst count : Nat) : Option Result :=
  if count = 0 ∨ Config.maxCount < count then some .badParam
  else if s.memWords < dst + count then some .badParam
  else if s.rangeAccessible dst count = false then some .denied
  else none

/-- FILL at its dispatch (R145). -/
def State.fill (s : State) (e : CmdEntry) : State :=
  let dst := e.arg0.toNat
  let count := e.arg1.toNat
  match s.fillFails dst count with
  | some res => s.recordDone e res 0 none
  | none => s.startLong (.fill dst count e.arg2 e.arg3) false .writeWait none

/-- MEASURE at its dispatch (R146): a slot of length 0 is measured at once. -/
def State.measure (s : State) (e : CmdEntry) : State :=
  match slotArg e.arg0 with
  | none => s.recordDone e .badParam 0 none
  | some i =>
    if (s.slot i).st ≠ .claimed then s.recordDone e .badState 0 (some i)
    else if (s.slot i).length = 0 then
      (s.updSlot i fun r => { r with stats := some RunningStats.start.finish }).recordDone e .ok 0 (some i)
    else s.startLong (.measure i) false .readWait (some RunningStats.start)

/-- SYNC (R147). -/
def State.sync (s : State) (e : CmdEntry) : State := s.recordDone e .ok 0 none

/-- The words of a FILL burst (R145): word `dst + i` receives `pattern + i × step` modulo 2^32. -/
def fillWords (pattern step : Word) (start count : Nat) : List Word :=
  (List.range count).map fun k => pattern + BitVec.ofNat 32 (start + k) * step

/-- After a burst's last grant (R141, R148): the command completes OK when every word is done, ABORTED when an abort is
pending, and otherwise goes on in the given phase. -/
def State.afterBurst (s : State) (total : Nat) (next : Phase) : State :=
  if total ≤ s.eng.wordsDone then s.endLong .ok s.eng.wordsDone
  else if s.eng.abortPending then s.endLong .aborted s.eng.wordsDone
  else { s with eng := { s.eng with phase := next } }

/-- A grant of the executing command is in progress (R148). -/
def State.engineGranted (s : State) : Bool :=
  match s.arb.grant with
  | none => false
  | some g => match g.who with
    | .copyRead | .copyWrite | .fill | .measure => true
    | _ => false

/-- ENGINE_ABORT (R148): a long command with its request not granted and no burst held stops at once; any other executing
long command has abort pending set. -/
def State.abortEngine (s : State) : State :=
  if s.eng.cmd = none ∨ s.eng.abortPending = true then s
  else if s.engineGranted = false ∧ s.eng.held = [] then s.endLong .aborted s.eng.wordsDone
  else { s with eng := { s.eng with abortPending := true } }

/-! ## Dispatch of the head command (R135 to R137) -/

/-- The command executed as its own rule gives (§8.1); an unknown code completes BAD_PARAM (R135). -/
def State.runCommand (s : State) (e : CmdEntry) : State :=
  match e.code.toNat with
  | 0x01 => s.slotAssign e
  | 0x02 => s.slotUnassign e
  | 0x03 => s.claim e
  | 0x04 => s.alloc e
  | 0x05 => s.release e
  | 0x06 => s.submit e
  | 0x10 => s.laneStart e
  | 0x11 => s.laneStop e
  | 0x12 => s.laneHalt e
  | 0x13 => s.laneFlush e
  | 0x14 => s.bindLane e
  | 0x20 => s.copy e
  | 0x21 => s.fill e
  | 0x22 => s.measure e
  | 0x23 => s.sync e
  | _ => s.recordDone e .badParam 0 none

/-- The code names a command of §8.1. -/
def knownCode (c : BitVec 8) : Bool :=
  [0x01, 0x02, 0x03, 0x04, 0x05, 0x06, 0x10, 0x11, 0x12, 0x13, 0x14, 0x20, 0x21, 0x22, 0x23].contains c.toNat

/-- The grant in progress belongs to the lane (R79). -/
def State.laneGranted (s : State) (n : LaneId) : Bool :=
  match s.arb.grant with
  | none => false
  | some g => g.who == .ingress n || g.who == .egress n

/-- A LANE_HALT whose lane holds the grant in progress (R79, R137). -/
def State.mustDefer (s : State) (e : CmdEntry) : Bool :=
  e.code == 0x12 &&
    match laneArg e.arg0 with
    | none => false
    | some n => s.laneGranted n

/-- The command operation that has fallen due: that of a deferred LANE_HALT, or the dispatch of the head command with its
execution. A completion makes the next command dispatchable. -/
def State.serveCommand (s : State) : State :=
  match s.cmd.queue with
  | [] => s
  | e :: _ =>
    if s.cmd.haltDeferred then ({ s with cmd := { s.cmd with haltDeferred := false } }.laneHalt e).causeDispatch
    else if s.dispatchable = false then s
    else if s.mustDefer e then { s with cmd := { s.cmd with haltDeferred := true } }
    else (s.runCommand e).causeDispatch

end Sys2Proof.Machine
end

