-- ==== Sys2Proof/Machine/Window.lean ====
section
/-! DEFINITION. The Host Window (chapter 7): posting, the stages of a read, withdrawal, and the ends of its grants. -/

namespace Sys2Proof.Machine

/-- The stride that goes with a pointer (R120). -/
def Window.stride (w : Window) : Ptr → BitVec 8
  | .a => w.strideA
  | .b => w.strideB

/-- Sets a pointer. -/
def Window.setPtr (w : Window) : Ptr → Nat → Window
  | .a, v => { w with ptrA := v }
  | .b, v => { w with ptrB := v }

/-- A pointer moved on by its stride, modulo the memory size (R122). -/
def advanced (size ptr : Nat) (stride : BitVec 8) : Nat := (((ptr : Int) + stride.toInt) % (size : Int)).toNat

/-- The pointer advances by its stride (R122). -/
def State.advance (s : State) (p : Ptr) : State :=
  { s with win := s.win.setPtr p (advanced s.memWords (s.win.ptr p) (s.win.stride p)) }

/-- The read stage of the window. -/
def State.setStage (s : State) (stage : ReadStage) : State := { s with win := { s.win with stage := stage } }

/-- The transaction waits from here on (R2): its stall count starts (R5). -/
def State.startWait (s : State) (w : Wait) : State := { s with port := { s.port with waiting := some w, stallCount := 0 } }

/-! ## Writes (R124) -/

/-- A write at its completion point (R123, R124): refused DENIED where the word is not host-accessible, and otherwise
posted, with the pointer moving on. -/
def State.post (s : State) (p : Ptr) (data : Word) : State :=
  let a := s.win.ptr p
  if s.hostAccessible a then
    ({ s with win := { s.win with buffer := s.win.buffer ++ [(a, data)] } }.advance p).respondOk none
  else s.respondErr .denied (Wait.winWrite p data).access

/-- A write that has passed the checks of R3 (R124): posted at once where there is room, and otherwise it waits. -/
def State.windowWrite (s : State) (p : Ptr) (data : Word) : State :=
  if s.win.buffer.length < Config.bufferEntries then s.post p data else s.startWait (.winWrite p data)

/-! ## Reads (R126) -/

/-- A read is issued with its access check (R123, R126). -/
def State.issue (s : State) (p : Ptr) : State :=
  if s.hostAccessible (s.win.ptr p) then s.setStage (.issued p)
  else (s.setStage .none).respondErr .denied (Wait.winRead p).access

/-- A read that has passed the checks of R3 (R126): it waits for the buffer to drain, or is issued at once. -/
def State.windowRead (s : State) (p : Ptr) : State :=
  let s := s.startWait (.winRead p)
  if s.win.buffer.isEmpty then s.issue p else s.setStage (.awaitDrain p)

/-- A waiting transaction's own request is withdrawn (R5, R6, R128): a read leaves its stage. -/
def State.withdrawWait (s : State) : State :=
  match s.port.waiting with
  | some (.winRead _) => s.setStage .none
  | some (.winWrite _ _) | some .slotData | some .retain | none => s

/-- The read has been granted, so that neither timeout nor abort can end it (R7). -/
def ReadStage.isGranted : ReadStage → Bool
  | .granted _ => true
  | .none | .awaitDrain _ | .issued _ => false

/-! ## Grant ends (R125, R127) -/

/-- Step 3 of a window write grant (R124 to R126): the written entries leave the buffer; a write waiting for room reaches
its completion point; a read waiting for the drain is issued once the buffer is empty. -/
def State.written (s : State) (count : Nat) : State :=
  let s := { s with win := { s.win with buffer := s.win.buffer.drop count } }
  match s.port.waiting, s.win.stage with
  | some (.winWrite p data), _ => if s.win.buffer.length < Config.bufferEntries then s.post p data else s
  | _, .awaitDrain p => if s.win.buffer.isEmpty then s.issue p else s
  | _, _ => s

/-- Step 3 of a window read grant (R127): OK with the data delivered, or ERR ECC. -/
def State.readResult (s : State) (p : Ptr) (r : WordRead) : State :=
  let s := s.setStage .none
  match r.outcome with
  | .uncorrectable => s.respondErr .ecc (Wait.winRead p).access
  | .clean | .corrected => (s.advance p).respondOk (some r.data)

end Sys2Proof.Machine
end

