-- ==== Sys2Proof/Machine/Supervisor.lean ====
section
/-! DEFINITION. The timebase, the supervisor and the power states (R165 to R173). -/

namespace Sys2Proof.Machine

/-! ## Ticks (R165, R168) -/

/-- The counting part of a tick for the Scrubber (R28): the interval count advances, and a request falls due at N. -/
def State.tickScrubber (s : State) : State :=
  if s.scrubCounting then { s with scrub := { s.scrub with interval := satInc s.scrub.interval } } else s

/-- The supervisor counts (R168): RUNNING or ARMED, with no reset of its own pending. -/
def State.supCounting (s : State) : Bool := s.sup.st != .off && !s.rst.supDue

/-- The counting part of a tick for the supervisor (R168). -/
def State.tickSupervisor (s : State) : State :=
  if s.supCounting then { s with sup := { s.sup with counter := satInc s.sup.counter } } else s

/-- The warning threshold is passed at this tick (R168). -/
def Supervisor.warns (p : Supervisor) : Bool :=
  p.warn != 0 && decide (p.warn < p.timeout) && p.counter == p.warn

/-- The supervisor expires at this tick (R168). -/
def Supervisor.expires (p : Supervisor) : Bool := decide (p.timeout ≤ p.counter)

/-- What a tick causes falls due after it (R166): the supervisor's occurrences first, in the order of R170, and the
Scrubber's request. -/
def State.causeOfTick (s : State) : State :=
  let counting := s.supCounting
  let s := if counting && s.sup.warns then s.cause .supWarning else s
  let s := if counting && s.sup.expires then s.cause .supExpired else s
  if s.scrubCounting && decide (s.scrub.n ≤ s.scrub.interval) then s.cause .scrubRequest else s

/-- Time stands still for the timebase in RETAIN and while RSTN is low (R165, R174). -/
def State.timeRuns (s : State) : Bool := s.power != .retain && !s.rst.pinHeld

/-- One tick of the timebase (R165). -/
def State.tick (s : State) : State :=
  if s.timeRuns then
    ({ s with tb := { s.tb with count := s.tb.count + 1, prescaleCount := 0 } }.tickScrubber.tickSupervisor).causeOfTick
  else s

/-! ## The supervisor's occurrences (R168, R170) -/

/-- An event of the supervisor. -/
def State.raiseSup (s : State) (kind : Kind) (detail : Word) : State :=
  s.raise (s.event kind supervisorGroup 10 none detail)

/-- SUP_WARNING (R168). -/
def State.serveSupWarning (s : State) : State := s.raiseSup .supWarning (s.sup.warn.setWidth 32)

/-- The counter restarts from 0. -/
def State.restartSup (s : State) : State := { s with sup := { s.sup with counter := 0 } }

/-- Safe mode begins, if it is not in force (R170); the idle free-running egress lanes take again (R117). -/
def State.beginSafe (s : State) : State :=
  if s.sup.safeMode then s else { s with sup := { s.sup with safeMode := true } }.nudgeAll

/-- Safe mode ends at a SUP_KICK, if it is in force (R169); the idle free-running egress lanes take again (R117). The takes are
caused by the kick's response, and are served after every request of its moment (R104). -/
def State.endSafe (s : State) : State :=
  if s.sup.safeMode then { s with sup := { s.sup with safeMode := false } }.nudgeAll else s

/-- SUP_EXPIRED and the configured action (R170). -/
def State.serveSupExpired (s : State) : State :=
  let s := s.raiseSup .supExpired (placed s.sup.action.code 0)
  match s.sup.action with
  | .eventOnly => s.restartSup
  | .safeEgress => s.restartSup.beginSafe
  | .resetDevice => { s with rst := { s.rst with supDue := true } }

/-! ## The refresh (R169) -/

/-- SUP_ARM (R169): an OFF supervisor starts; any other opens its window, and the write that opens it is not counted
(R15). -/
def State.armSup (s : State) : State :=
  match s.sup.st with
  | .off => ({ s with sup := { s.sup with st := .running, counter := 0 } }).respondOk none
  | .running | .armed => { s with sup := { s.sup with st := .armed, windowCount := 0 } }.endTransaction .ok none

/-- The effect of SUP_KICK (R169): a kick in the window restarts the counter and ends safe mode, before it would be
counted; a kick without an arm is a sequence error with reason 1. -/
def State.kickSup (s : State) : State :=
  match s.sup.st with
  | .off => s
  | .running => s.raiseSup .supSequenceError 1
  | .armed => { s with sup := { s.sup with st := .running, counter := 0, windowCount := 0 } }.endSafe

/-! ## Power states (R172, R173) -/

/-- Every lane is OFF or STOPPED. -/
def State.lanesStill (s : State) : Bool := laneList.all fun n => !(s.lane n).moving

/-- The request is allowed (R172). -/
def State.powerAllowed (s : State) (target : Power) : Bool :=
  match s.power, target with
  | .run, .run | .doze, .doze | .retain, .retain => true
  | .run, .doze => s.lanesStill
  | .run, .retain | .doze, .retain =>
    s.lanesStill && s.cmd.queue.isEmpty && s.win.buffer.isEmpty && !s.sweep.running
  | .doze, .run | .retain, .run => true
  | .retain, .doze => false

/-- The part enters RETAIN (R173): an open window is closed without a sequence error. -/
def State.enterRetain (s : State) : State :=
  { s with
    power := .retain
    sup := if s.sup.st = .armed then { s.sup with st := .running, windowCount := 0 } else s.sup }

/-- The part returns to RUN from RETAIN (R173): the supervisor's counter restarts, if it is not OFF. -/
def State.leaveRetain (s : State) : State :=
  { s with power := .run, sup := if s.sup.st = .off then s.sup else { s.sup with counter := 0 } }

/-- A Scrubber grant is in progress (R44). -/
def State.scrubbing (s : State) : Bool :=
  match s.arb.grant with
  | some g => g.who == .scrub
  | none => false

/-- An allowed request (R172): a request for RETAIN waits for a Scrubber grant in progress. -/
def State.requestPower (s : State) (target : Power) : State :=
  match target with
  | .run => (if s.power = .retain then s.leaveRetain else { s with power := .run }).respondOk none
  | .doze => { s with power := .doze }.respondOk none
  | .retain =>
    if s.power = .retain then s.respondOk none
    else if s.scrubbing then s.startWait .retain
    else s.enterRetain.respondOk none

/-- The end of a Scrubber grant answers the RETAIN request that waited for it (R44, R172). -/
def State.answerRetain (s : State) : State :=
  match s.port.waiting with
  | some .retain => s.enterRetain.respondOk none
  | some (.winRead _) | some (.winWrite _ _) | some .slotData | none => s

end Sys2Proof.Machine
end

