-- ==== Sys2Proof/Machine/Registers.lean ====
section
/-! DEFINITION. Register accesses: the checks at acceptance (R3), the values that reads return, and what reads and writes do
(R11 to R14, chapter 11). -/

namespace Sys2Proof.Machine

/-! ## The checks of R3 -/

/-- Leaving the lane's present direction gives up nothing (R76). -/
def State.givesUpNothing (s : State) (n : LaneId) : Bool :=
  let l := s.lane n
  match l.cfg.dir with
  | .none => true
  | .ingress => s.owned n == 0 && (s.boundTo n).isNone
  | .egress => l.binding.isNone && l.submitQ.isEmpty && l.linger.isNone

/-- Check 6 of R3: the register's block does not allow this write in its present state. -/
def State.stateRefuses (s : State) (r : Reg) (data : Word) : Bool :=
  match r with
  | .lnCfg n =>
    (s.lane n).moving || ((LaneCfg.ofWord data).dir != (s.lane n).cfg.dir && !s.givesUpNothing n)
  | .lnMarks n | .lnFillLen n | .lnFillWord n => (s.lane n).moving
  | .irqEoi => s.irq.stack.isEmpty
  | .resetGo => !s.port.resetArm
  | .powerCtrl => !s.powerAllowed (Power.ofCode (field data 0 2))
  | _ => false

/-- Check 7 of R3: the written value, taken whole (§11.3, §11.8), names a place that does not exist. -/
def State.placeRefused (s : State) (r : Reg) (data : Word) : Bool :=
  match r with
  | .winPtr _ => decide (s.memWords ≤ data.toNat)
  | .slotSel => decide (63 < data.toNat)
  | _ => false

/-- The entries that records of this response's own point take (R134): the SUP_SEQUENCE_ERROR of a window that the response
closes (R169), where it is logged. -/
def State.closingEntries (s : State) : Nat :=
  if s.sup.st = .armed ∧ Config.windowSize ≤ s.sup.windowCount + 1 ∧ s.log.enable.getLsbD supervisorGroup.val = true ∧
      s.logUse < Config.logEntries then 1
  else 0

/-- Check 8 of R3: the Command Queue is full, or no log entry can be reserved, counting the records of the same point
(R134). -/
def State.issueRefused (s : State) : Bool :=
  decide (Config.commandEntries ≤ s.cmd.queue.length) || decide (Config.logEntries ≤ s.logUse + s.closingEntries)

/-- The check of R3 that fails first. -/
def State.accessFails (s : State) (a : Access) : Option Reason :=
  match decodeReg a.addr with
  | none => some .badAddress
  | some r =>
    if s.power = .retain ∧ r.inRetain = false then some .power
    else if s.sweep.running = true ∧ r.initRefused a.write = true then some .init
    else if a.write = false then none
    else if r.readOnly then some .readOnly
    else if r.lockProtected = true ∧ s.port.lock = true then some .locked
    else if s.stateRefuses r a.data then some .state
    else if s.placeRefused r a.data then some .badAddress
    else if r = .cmdIssue ∧ s.issueRefused = true then some .refused
    else none

/-! ## Slot records (R71 to R73) -/

/-- The lane that holds a READY slot in a queue, or a DRAINING or LINGER slot in a place (R50). -/
def State.holder (s : State) (i : SlotId) : Option LaneId :=
  match (s.slot i).st with
  | .ready => laneList.find? fun n => (s.lane n).readyQ.contains i || (s.lane n).submitQ.contains i
  | .draining => laneList.find? fun n => (s.lane n).cur == some i
  | .linger => laneList.find? fun n => (s.lane n).linger == some i
  | .unassigned | .free | .filling | .claimed | .quarantined => none

/-- The holder code of a slot record's first word (R73). -/
def holderCode : Option LaneId → Nat
  | none => 0
  | some n => n.val + 1

/-- The last word of a slot record: lead_zeros and ALL_ZERO (R73). -/
def leadWord (st : Stats) : Word := placed (st.leadZeros % 2 ^ 22) 0 ||| flagAt st.allZero 31

/-- A slot record's nine words (R73). -/
def State.slotWords (s : State) (i : SlotId) : Vector Word 9 :=
  let r := s.slot i
  #v[placed r.st.code 0 ||| placed r.owner.code 4 ||| placed (holderCode (s.holder i)) 8 ||| r.flags.word r.stats.isSome,
    placed r.base 0, placed r.capacity 0, placed r.length 0,
    placed r.seq.toNat 0 ||| placed r.repeats.toNat 16, r.stamp,
    (match r.stats with | none => 0 | some st => st.crc),
    (match r.stats with | none => 0 | some st => placed st.ones 0),
    (match r.stats with | none => 0 | some st => leadWord st)]

/-- The word number after a read of SLOT_DATA, wrapping from 8 to 0 (R72). -/
def nextWordSel (k : Fin 9) : Fin 9 := k + 1

/-- A read of SLOT_DATA at its completion point (R72). -/
def State.slotDataOk (s : State) : State :=
  let w := s.slotPort.shadow.get s.slotPort.wordSel
  ({ s with slotPort := { s.slotPort with wordSel := nextWordSel s.slotPort.wordSel } }).respondOk (some w)

/-- The snapshot (R71): the selected record goes into the shadow, and a SLOT_DATA read that waited completes. -/
def State.serveSnapshot (s : State) : State :=
  let s := { s with slotPort := { s.slotPort with shadow := s.slotWords s.slotPort.sel } }
  match s.port.waiting with
  | some .slotData => s.slotDataOk
  | some (.winRead _) | some (.winWrite _ _) | some .retain | none => s

/-! ## The values that registers read as (chapter 11) -/

/-- DEV_ID (R181): the part's number, revision 1, family 0xB5. -/
def idWord : Part → Word
  | .bso2404 => 0xB5012404
  | .bso2408 => 0xB5012408

/-- DEV_CAPS (R181). -/
def capsWord (p : Part) : Word := placed p.memWords 0 ||| placed p.tiers 20 ||| placed 4 24

/-- The command codes of CMD_STATUS bits 3:2 (R182). -/
def LongCmd.statusCode : LongCmd → Nat
  | .copy _ _ _ => 0
  | .fill _ _ _ _ => 1
  | .measure _ => 2

/-- The head command waits for the write buffer to drain (R140). -/
def State.fenced (s : State) : Bool := !s.cmd.haltDeferred && !s.win.buffer.isEmpty

/-- CMD_STATUS (R140, R182). -/
def State.cmdStatus (s : State) : Word :=
  match s.cmd.queue with
  | [] => 0
  | e :: _ =>
    let common := placed (s.cmd.queue.length - 1) 0 ||| placed e.tag.toNat 6
    match s.eng.cmd with
    | some c =>
      common ||| placed (8 + c.statusCode + 4 * s.eng.abortPending.toNat) 2 ||| placed (s.eng.wordsDone % 2 ^ 18) 14
    | none => common ||| placed (if s.fenced then 2 else 1) 2 ||| placed e.code.toNat 14

/-- EVT_STATUS (R158). -/
def State.evtStatus (s : State) : Word :=
  placed s.log.records.length 0 ||| placed s.reserved 8 ||| flagAt (s.log.overflow != 0) 12 |||
    placed s.log.wordSel.val 16

/-- What a read of EVT_DATA returns (R157). -/
def State.evtWord (s : State) : Word :=
  match s.log.records with
  | [] => 0
  | r :: _ => r.word s.log.wordSel

/-- What a read of IRQ_VECTOR returns (R162, R183). -/
def Irq.vector (q : Irq) : Word :=
  match q.winner with
  | none => 0xFF
  | some g => placed g.val 0 ||| placed (q.priority g).val 4

/-- SUP_CFG as it reads (§11.6). -/
def Supervisor.cfgWord (p : Supervisor) : Word :=
  placed p.warn.toNat 0 ||| placed p.action.code 16 ||| flagAt p.safeFill 20

/-- SUP_STATUS (R167, §11.6). -/
def Supervisor.statusWord (p : Supervisor) : Word :=
  placed p.st.code 0 ||| flagAt p.safeMode 2 |||
    placed (if p.st = .armed then Config.windowSize - p.windowCount else 0) 4 ||| placed p.counter.toNat 16

/-- ECC_LAST_ADDR (§11.7). -/
def LastAddr.word (l : LastAddr) : Word := placed l.addr 0 ||| placed l.reader.code 20 ||| flagAt l.valid 31

/-- SCRUB_CFG as it reads (§11.7). -/
def Scrubber.cfgWord (c : Scrubber) : Word := placed c.n.toNat 0 ||| flagAt c.enabled 16 ||| flagAt c.passEvent 17

/-- LN_STATUS (§11.9). -/
def Lane.statusWord (l : Lane) : Word :=
  placed l.st.code 0 ||| placed l.sub.code 4 ||| placed l.fifo.length 8 ||| placed l.nextSeq.toNat 16

/-- LN_QUEUES (§11.9): the fields of the other direction read 0. -/
def State.queuesWord (s : State) (n : LaneId) : Word :=
  let l := s.lane n
  match l.cfg.dir with
  | .none => 0
  | .ingress => placed l.freeList.length 0 ||| placed l.readyQ.length 8 ||| placed (s.owned n) 24
  | .egress => placed l.submitQ.length 16

/-- LN_BIND (§11.9): 4 for no binding. -/
def Lane.bindWord (l : Lane) : Word :=
  match l.binding with
  | none => 4
  | some m => placed m.val 0

/-- The parameter registers (R133). -/
def CommandProc.arg (c : CommandProc) : Fin 4 → Word
  | 0 => c.arg0
  | 1 => c.arg1
  | 2 => c.arg2
  | 3 => c.arg3

/-- The value a register reads as, without the side effects of R12; action registers read 0 (R11). WIN_DATA is not read
here: its value comes from its grant (R127). -/
def State.regValue (s : State) : Reg → Word
  | .devId => idWord s.part
  | .devCaps => capsWord s.part
  | .hostErr => s.port.err.word
  | .cfgLock => flagAt s.port.lock 0
  | .resetCause => placed s.rst.cause.code 0 ||| placed s.rst.supCount.toNat 8
  | .resetArm | .resetGo | .cmdIssue | .engineAbort | .irqEoi | .supArm | .supKick => 0
  | .hostStallLimit => placed s.port.stallLimit.toNat 0
  | .arbCfg => placed s.arb.escalate.toNat 0 ||| flagAt s.arb.hostFirst 8
  | .winPtr p => placed (s.win.ptr p) 0
  | .winStride p => placed (s.win.stride p).toNat 0
  | .winData _ => 0
  | .winStatus => placed s.win.buffer.length 0
  | .cmdArg k => s.cmd.arg k
  | .cmdStatus => s.cmdStatus
  | .evtStatus => s.evtStatus
  | .evtData => s.evtWord
  | .evtWordSel => placed s.log.wordSel.val 0
  | .evtLost => placed s.log.lost.toNat 0
  | .irqPending => placed s.irq.flags.toNat 0
  | .irqEnable => placed s.irq.enable.toNat 0
  | .irqPrio => placed s.irq.prio.toNat 0
  | .irqVector => s.irq.vector
  | .irqInService => s.irq.inServiceWord
  | .evtLogEnable => placed s.log.enable.toNat 0
  | .tbCount => s.tb.count
  | .tbPrescale => placed s.tb.prescale 0
  | .supCfg => s.sup.cfgWord
  | .supTimeout => placed s.sup.timeout.toNat 0
  | .supStatus => s.sup.statusWord
  | .powerCtrl | .powerStatus => placed s.power.code 0
  | .memStatus => flagAt s.sweep.running 0 ||| flagAt s.sweep.initialized 1
  | .eccCorrCount => placed s.ecc.corrCount.toNat 0
  | .eccUncorrCount => placed s.ecc.uncorrCount.toNat 0
  | .eccLastAddr => s.ecc.last.word
  | .scrubCfg => s.scrub.cfgWord
  | .scrubPos => placed s.scrub.pos 0
  | .slotSel => placed s.slotPort.sel.val 0
  | .slotData => s.slotPort.shadow.get s.slotPort.wordSel
  | .slotWordSel => placed s.slotPort.wordSel.val 0
  | .lnCfg n => (s.lane n).cfg.word
  | .lnMarks n => placed (s.lane n).markLo 0 ||| placed (s.lane n).markHi 8
  | .lnFillLen n => placed (s.lane n).fillLen.toNat 0
  | .lnFillWord n => (s.lane n).fillWord
  | .lnStatus n => (s.lane n).statusWord
  | .lnQueues n => s.queuesWord n
  | .lnBind n => (s.lane n).bindWord
  | .lnCntSel n => placed (s.lane n).cntSel.toNat 0
  | .lnCntData n => placed ((s.lane n).counters.get (s.lane n).cntSel).toNat 0

/-! ## What reads do (R12) -/

/-- The LOG_OVERFLOW record (R155). -/
def overflowEvent (overflow : BitVec 16) (now : Word) : Event :=
  ⟨.logOverflow, none, 11, none, now, overflow.setWidth 32⟩

/-- LOG_OVERFLOW at a pop that has made room (R155). -/
def State.reportOverflow (s : State) : State :=
  if s.log.overflow ≠ 0 ∧ s.logUse < Config.logEntries then
    let s := s.append (overflowEvent s.log.overflow s.tb.count)
    { s with log := { s.log with overflow := 0 } }
  else s

/-- The side effect of a read of EVT_DATA (R157, R155). -/
def State.popWord (s : State) : State :=
  match s.log.records with
  | [] => s
  | _ :: rest =>
    match s.log.wordSel with
    | 0 => { s with log := { s.log with wordSel := 1 } }
    | 1 => { s with log := { s.log with wordSel := 2 } }
    | 2 => { s with log := { s.log with records := rest, wordSel := 0 } }.reportOverflow

/-- The side effect of an acknowledge (R162). -/
def Irq.acknowledged (q : Irq) : Irq :=
  match q.winner with
  | none => q
  | some g => { q.clearFlags (groupBit g) with stack := q.stack ++ [⟨g, q.priority g⟩] }

/-- The side effect that a read of a register takes on OK (R12); other reads have none. -/
def State.readEffect (s : State) : Reg → State
  | .evtData => s.popWord
  | .evtLost => { s with log := { s.log with lost := 0 } }
  | .irqVector => { s with irq := s.irq.acknowledged }
  | .eccCorrCount => { s with ecc := { s.ecc with corrCount := 0, reportArmed := true } }
  | .eccUncorrCount => { s with ecc := { s.ecc with uncorrCount := 0 } }
  | .lnCntData n => s.updLane n fun l => { l with counters := l.counters.cleared l.cntSel }
  | _ => s

/-- A read that has passed the checks of R3: WIN_DATA waits for its grant, SLOT_DATA may wait for its snapshot, and any
other read is instant (R2). The value is the register's just before the response counts toward a window: a read of SUP_STATUS
while ARMED shows WINDOW_LEFT and the state before its own count. DESIGN CHOICE (assumption 37). -/
def State.readReg (s : State) (r : Reg) : State :=
  match r with
  | .winData p => s.windowRead p
  | .slotData => if s.outstanding .snapshot then s.startWait .slotData else s.slotDataOk
  | r => (s.readEffect r).respondOk (some (s.regValue r))

/-! ## What writes do (R11, R180) -/

/-- The queue entry that a write of CMD_ISSUE creates, with the present parameters (R133). -/
def State.entryOf (s : State) (data : Word) : CmdEntry :=
  ⟨data.setWidth 8, (data >>> 8).setWidth 8, s.cmd.arg0, s.cmd.arg1, s.cmd.arg2, s.cmd.arg3⟩

/-- A command enters the Command Queue (R133); its reservation is its place there (R135). -/
def State.enqueue (s : State) (data : Word) : State :=
  { s with cmd := { s.cmd with queue := s.cmd.queue ++ [s.entryOf data] } }.askDispatch

/-- A lane after an allowed write of LN_CFG (R76). -/
def Lane.configured (l : Lane) (c : LaneCfg) : Lane :=
  if c.dir = l.cfg.dir then { l with cfg := c }
  else
    { l with
      cfg := c, st := (if c.dir = .none then .off else .stopped), sub := .idle
      counters := Counters.zero, nextSeq := 0 }

/-- A write of SLOT_SEL (R71). -/
def State.selectSlot (s : State) (data : Word) : State :=
  { s with slotPort := { s.slotPort with sel := ⟨data.toNat % 64, Nat.mod_lt _ (by decide)⟩, wordSel := 0 } }.ask
    .snapshot

/-- EVT_WORDSEL stored from a written word: values above 2 become 2 (R157). -/
def evtWordSelOf (data : Word) : Fin 3 := ⟨min 2 (field data 0 2), by omega⟩

/-- SLOT_WORDSEL stored from a written word: values above 8 become 8 (R72). -/
def slotWordSelOf (data : Word) : Fin 9 := ⟨min 8 (field data 0 4), by omega⟩

/-- LN_CNT_SEL stored from a written word: 15 for a value above 15 (R80). DEDUCED: the whole word is the value that R80 speaks of;
R80 is the rule that chapter 11 names for this field. -/
def cntSelOf (data : Word) : BitVec 4 := BitVec.ofNat 4 (min 15 data.toNat)

/-- Stores a parameter register (R133). -/
def CommandProc.setArg (c : CommandProc) (k : Fin 4) (v : Word) : CommandProc :=
  match k with
  | 0 => { c with arg0 := v }
  | 1 => { c with arg1 := v }
  | 2 => { c with arg2 := v }
  | 3 => { c with arg3 := v }

/-- Stores a stride (R121). -/
def Window.setStride (w : Window) : Ptr → BitVec 8 → Window
  | .a, v => { w with strideA := v }
  | .b, v => { w with strideB := v }

/-- SUP_CFG stored from a written word (R171, R180). -/
def Supervisor.configured (p : Supervisor) (w : Word) : Supervisor :=
  { p with warn := w.setWidth 16, action := SupAction.ofCode (field w 16 2), safeFill := bitAt w 20 }

/-- The fields that an ordinary write stores, clamped (R11, R180), for the registers whose whole effect that is. A
read-only register, and an action register whose effect stands in `writeReg`, stores nothing. -/
def State.store (s : State) (r : Reg) (w : Word) : State :=
  match r with
  | .hostErr => { s with port := { s.port with err := HostErr.clear } }
  | .cfgLock => { s with port := { s.port with lock := s.port.lock || bitAt w 0 } }
  | .resetArm => { s with port := { s.port with resetArm := true } }
  | .resetGo => { s with rst := { s.rst with softDue := true } }
  | .hostStallLimit => { s with port := { s.port with stallLimit := w.setWidth 8 } }
  | .arbCfg => { s with arb := { s.arb with escalate := w.setWidth 8, hostFirst := bitAt w 8 } }
  | .winPtr p => { s with win := s.win.setPtr p w.toNat }
  | .winStride p => { s with win := s.win.setStride p (w.setWidth 8) }
  | .cmdArg k => { s with cmd := s.cmd.setArg k w }
  | .cmdIssue => s.enqueue w
  | .evtWordSel => { s with log := { s.log with wordSel := evtWordSelOf w } }
  | .irqPending => { s with irq := s.irq.clearFlags (w.setWidth 8) }
  | .irqEnable => { s with irq := { s.irq with enable := w.setWidth 8 } }
  | .irqPrio => { s with irq := { s.irq with prio := w.setWidth 16 } }
  | .irqEoi => { s with irq := { s.irq with stack := s.irq.stack.dropLast } }
  | .evtLogEnable => { s with log := { s.log with enable := w.setWidth 8 } }
  | .tbPrescale => { s with tb := { s.tb with prescale := clamp 1 4096 (field w 0 13), prescaleCount := 0 } }
  | .supCfg => { s with sup := s.sup.configured w }
  | .supTimeout => { s with sup := { s.sup with timeout := BitVec.ofNat 16 (clamp 1 65535 (field w 0 16)) } }
  | .supKick => s.kickSup
  | .scrubCfg => s.writeScrubCfg w
  | .slotSel => s.selectSlot w
  | .slotWordSel => { s with slotPort := { s.slotPort with wordSel := slotWordSelOf w } }
  | .lnCfg n => s.updLane n fun l => l.configured (LaneCfg.ofWord w)
  | .lnMarks n => s.updLane n fun l => { l with markLo := min 32 (field w 0 6), markHi := min 32 (field w 8 6) }
  | .lnFillLen n => s.updLane n fun l => { l with fillLen := w.setWidth 16 }
  | .lnFillWord n => s.updLane n fun l => { l with fillWord := w }
  | .lnCntSel n => s.updLane n fun l => { l with cntSel := cntSelOf w }
  | _ => s

/-- A write that has passed the checks of R3. The effect of an ordinary write comes at its response and before it is
counted; ENGINE_ABORT may raise a completion record, which R156 places behind a window that closes at the same response. -/
def State.writeReg (s : State) (r : Reg) (w : Word) : State :=
  match r with
  | .winData p => s.windowWrite p w
  | .powerCtrl => s.requestPower (Power.ofCode (field w 0 2))
  | .supArm => s.armSup
  | .engineAbort => (s.respondOk none).abortEngine
  | r => (s.store r w).respondOk none

/-! ## Transactions (R1, R3, R14) -/

/-- The port as an accepted request finds it (R1, R14): any accepted transaction clears the reset arm, and the earlier
response is over. -/
def State.accepted (s : State) : State :=
  { s with port := { s.port with resetArm := false, resp := .none, rdata := none } }

/-- An accepted transaction (R1, R3): refused with the reason of the check that fails first, or carried out. -/
def State.transact (s : State) (a : Access) : State :=
  match s.accessFails a, decodeReg a.addr with
  | some reason, _ => s.accepted.respondErr reason a
  | none, some r => if a.write then s.accepted.writeReg r a.data else s.accepted.readReg r
  | none, none => s

/-- The port accepts requests (R1, R8): out of reset, and not between RESET_GO and its reset. -/
def State.accepting (s : State) : Bool := !s.rst.pinHeld && !s.rst.softDue

end Sys2Proof.Machine
end

