-- ==== Sys2Proof/Machine/Reset.lean ====
section
/-! DEFINITION. The four kinds of reset (R8, R45, R74, R119, R174 to R178). -/

namespace Sys2Proof.Machine

/-! ## The effects of a reset (R176) -/

/-- Supervisor and soft resets keep the lock, the sweep and TB_COUNT (R176). -/
def ResetKind.keeps : ResetKind → Bool
  | .sup | .soft => true
  | .por | .pin => false

/-- The init sweep after a reset (R26). -/
def Sweep.afterReset (w : Sweep) (kind : ResetKind) : Sweep :=
  match kind with
  | .por => ⟨true, 0, false⟩
  | .pin => if w.initialized then w else ⟨true, 0, false⟩
  | .sup | .soft => w

/-- The supervisor after a reset (R176), before SUPEN is sampled: its configuration at the defaults; state, counter, window
count and safe mode kept by a soft reset alone. -/
def Supervisor.afterReset (p b : Supervisor) (kind : ResetKind) : Supervisor :=
  match kind with
  | .por | .pin => b
  | .sup => { b with st := .running }
  | .soft => { b with st := p.st, counter := p.counter, windowCount := p.windowCount, safeMode := p.safeMode }

/-- The supervisor reset count after a reset (R177). -/
def supCountAfter (count : BitVec 8) (kind : ResetKind) : BitVec 8 :=
  match kind with
  | .por => 0
  | .sup => satInc count
  | .pin | .soft => count

/-- Every field as a reset of a kind leaves it (R176), before its RESET_RECORD. The samples of H_ABT and Ln_TRIG, the
request that the host holds asserted, and the commands that wait are the outside world's and stay. -/
def State.afterReset (s : State) (kind : ResetKind) : State :=
  let b := State.blank s.part
  { b with
    pending := s.pending
    mem := if kind = .por then [] else s.mem
    sweep := s.sweep.afterReset kind
    port := { b.port with
      lock := kind.keeps && s.port.lock
      askedFor := s.port.askedFor
      abt := s.port.abt }
    lanes := s.lanes.map fun l => Lane.reset l.trig
    tb := { b.tb with count := if kind.keeps then s.tb.count else 0 }
    sup := s.sup.afterReset b.sup kind
    rst := ⟨kind, supCountAfter s.rst.supCount kind, false, false, false⟩ }

/-- The reset appends RESET_RECORD to the emptied log (R158, R177). -/
def State.recordReset (s : State) : State :=
  { s with log := { s.log with
      records := [resetRecord s.rst.cause.code s.rst.supCount s.tb.count], nextSeq := 1 } }

/-- Samples SUPEN as a power-on or pin reset completes (R167). -/
def State.sampleSupen (s : State) (supen : Bool) : State :=
  { s with sup := { s.sup with st := if supen then .running else .off, counter := 0 } }

/-- A write whose response makes a request of the Slot Manager at its own moment (R57): CMD_ISSUE a command, unless one is
outstanding there; SLOT_SEL a snapshot; SUP_KICK in a window the takes of the lanes that safe mode held, which it causes
(R104). -/
def State.requestsAtOnce (s : State) (a : Access) : Bool :=
  a.write &&
    match decodeReg a.addr with
    | some .cmdIssue => !s.outstanding .command
    | some .slotSel => true
    | some .supKick => s.sup.st == .armed && s.sup.safeMode
    | _ => false

/-- A new moment, at which the access comes; a write that makes a request leaves it open to a grant's end (R57). -/
def State.openFor (s : State) (a : Access) : State :=
  s.openMoment (if s.requestsAtOnce a && (s.accessFails a).isNone then s.opening .host else [])

/-- The port accepts again: a request that was asserted meanwhile is accepted now (R8). -/
def State.acceptAsked (s : State) : State :=
  match s.port.askedFor with
  | none => s
  | some a => ({ s with port := { s.port with askedFor := none } }.openFor a).transact a

/-- A supervisor or soft reset takes effect and is complete (R176): a waiting transaction ends ERR RESET after the
RESET_RECORD (R8, R177), and the port accepts again. -/
def State.innerReset (s : State) (kind : ResetKind) : State :=
  let cut := s.port.waiting
  let s := (s.afterReset kind).recordReset
  let s := match cut with
    | some w => s.respondErr .reset w.access
    | none => s
  s.acceptAsked

/-- The reset that is due: the kind that keeps less where both are (R174). -/
def State.dueReset (s : State) : ResetKind := if s.rst.supDue then .sup else .soft

/-- A due supervisor or soft reset takes effect (R174, R175). -/
def State.serveReset (s : State) : State := s.innerReset s.dueReset

/-- Power-on reset (R174), SUPEN sampled as it completes. -/
def State.powerOn (s : State) (supen : Bool) : State :=
  (((s.afterReset .por).sampleSupen supen).recordReset).acceptAsked

/-! ## Pin reset (R45, R174) -/

/-- The data of the words that a grant has written after `k` accesses, upward from its address (R33, R45). -/
def State.wordsWritten (s : State) (g : Grant) (k : Nat) : List Word :=
  match g.who with
  | .ingress n => ((s.lane n).fifo.take k).map FifoEntry.data
  | .winWrite => (s.win.buffer.take k).map Prod.snd
  | .copyWrite => s.eng.held.take k
  | .fill =>
    match s.eng.cmd with
    | some (.fill _ _ pattern step) => fillWords pattern step s.eng.wordsDone k
    | some (.copy _ _ _) | some (.measure _) | none => []
  | .egress _ | .winRead | .copyRead | .measure | .scrub => []

/-- The memory after `k` accesses of a grant (R45): whole words, each with its check code. A Scrubber access is a read with
its write-back (R29). -/
def State.memoryAfter (s : State) (g : Grant) (k : Nat) : Memory :=
  match g.who with
  | .scrub => s.mem.writeBack (s.mem.readWords g.addr k)
  | .ingress _ | .egress _ | .winWrite | .winRead | .copyRead | .copyWrite | .fill | .measure =>
    s.mem.writeWords g.addr (s.wordsWritten g k)

/-- The grant in progress is cut after `cut` of its accesses (R45). -/
def State.cutGrant (s : State) (cut : Nat) : State :=
  match s.arb.grant with
  | none => s
  | some g => { s with mem := s.memoryAfter g (min cut g.count) }

/-- RSTN driven low (R174): the pin reset takes effect at once, and the part is held. -/
def State.pinLow (s : State) (cut : Nat) : State :=
  let s := (s.cutGrant cut).afterReset .pin
  { s with rst := { s.rst with pinHeld := true } }

/-- RSTN returns high (R174): the pin reset completes. -/
def State.pinHigh (s : State) (supen : Bool) : State :=
  ((({ s with rst := { s.rst with pinHeld := false } }).sampleSupen supen).recordReset).acceptAsked

end Sys2Proof.Machine
end

