-- ==== Sys2Proof/Machine/Service.lean ====
section
/-! DEFINITION. What falls due inside the part, and the moments (R57, R156, R166, R174).

An occurrence from outside or from the Arbiter opens a moment, or joins the present one while that is open. Whatever has
fallen due is served in the order below: the closing of the supervisor's window, a due reset, the requests of the moment in
the fixed order of R57, and then the requests that the operations served have caused, in the order they were made. -/

namespace Sys2Proof.Machine

/-- What falls due inside the part. -/
inductive Due where
  | windowClosed
  | reset
  | req (r : Req)
deriving DecidableEq, Repr

/-- A reset goes behind these two of its moment: the snapshot, which may complete a read (R7), and an expiry of the
supervisor, which may be a reset of the kind that keeps less (R174). -/
def State.beforeReset (s : State) : Bool := s.outstanding .snapshot || s.outstanding .supExpired

/-- A supervisor or soft reset is due and no grant is in progress (R45, R175). -/
def State.resetReady (s : State) : Bool := s.arb.grant.isNone && s.resetHolds && !s.beforeReset

/-- What is served next, if anything is due; nothing advances while RSTN is low (R174). -/
def State.nextDue (s : State) : Option Due :=
  if s.rst.pinHeld then none
  else if s.closingDue then some .windowClosed
  else if s.resetReady then some .reset
  else
    match s.moment.asked, s.moment.caused with
    | r :: _, _ => some (.req r)
    | [], r :: _ => some (.req r)
    | [], [] => none

/-- Serves one request (R56, R166). -/
def State.perform (s : State) (r : Req) : State :=
  match r with
  | .publish n => s.servePublish n
  | .ret n => s.serveReturn n
  | .take n => s.serveTake n
  | .allocate n => s.serveAllocate n
  | .command => s.serveCommand
  | .snapshot => s.serveSnapshot
  | .supWarning => s.serveSupWarning
  | .supExpired => s.serveSupExpired
  | .scrubRequest => s.scrubRaise

/-- Takes the request that is served next out of the moment, and closes the moment: its service has begun. -/
def Moment.popped (m : Moment) : Moment :=
  match m.asked, m.caused with
  | _ :: rest, _ => ⟨rest, m.caused, [], false⟩
  | [], _ :: rest => ⟨[], rest, [], false⟩
  | [], [] => m

/-- Serves what is due next, and lets the Arbiter decide where the memory is free (R36). -/
def State.serveDue (s : State) (d : Due) : State :=
  match d with
  | .windowClosed => s.closeWindow
  | .reset => s.serveReset.arbitrate
  | .req r => ({ s with moment := s.moment.popped }.perform r).arbitrate

/-- A row of something that falls due inside the part: it is served if it is what is served next, and otherwise the row does
not occur and nothing changes. -/
def State.serviceRow (s : State) (d : Due) : State := if s.nextDue = some d then s.serveDue d else s

/-- Serves what is due until nothing is, at most so many times. -/
def State.settleFor : Nat → State → State
  | 0, s => s
  | k + 1, s =>
    match s.nextDue with
    | none => s
    | some d => State.settleFor k (s.serveDue d)

/-- How many services one moment can have at most. -/
def settleBound : Nat := 512

/-- Serves everything that is due: the present moment ends. -/
def State.settle (s : State) : State := State.settleFor settleBound s

/-- An occurrence that a tick has caused is outstanding: it comes after everything else at the tick's point and before
anything later (R166). -/
def State.tickDue (s : State) : Bool :=
  s.outstanding .supWarning || s.outstanding .supExpired || s.outstanding .scrubRequest

/-- A window closing, a reset or an occurrence of a tick is due, which waits for nothing from outside. -/
def State.urgentDue (s : State) : Bool := !s.rst.pinHeld && (s.closingDue || s.resetReady || s.tickDue)

/-- The place of an occurrence at one point. The lanes' come in the order of their groups (R156), and at one lane a grant's
end, which makes room, before the word that arrives (R81), and the stream before the trigger (R105). A write of the host comes
behind the lanes, because its response follows the records of its point (R134). Every other grant's end comes last, because the
mark and the checks that it makes come after the lanes' requests and the command (R57, R123). -/
def Source.rank : Source → Nat
  | .noGrant => 0
  | .written n => 3 * n.val + 1
  | .stream n => 3 * n.val + 2
  | .trigger n => 3 * n.val + 3
  | .host => 13
  | .memory => 14

/-- The source leaves no room for a grant's end at its moment: it is one itself, or no grant was in progress (R24). -/
def Source.barsGrantEnd : Source → Bool
  | .noGrant | .written _ | .memory => true
  | .stream _ | .trigger _ | .host => false

/-- The occurrence is a grant's end. -/
def Source.isGrantEnd : Source → Bool
  | .written _ | .memory => true
  | .noGrant | .stream _ | .trigger _ | .host => false

/-- The present moment takes an occurrence of this source: it is open, its occurrences so far have their place before this
one, no two grants end at it (R24), and a grant's end whose events R156 places before the lanes' finds none of those told.
DESIGN CHOICE (assumption 7). -/
def Moment.takes (m : Moment) (src : Source) : Bool :=
  !m.sources.isEmpty && m.sources.all (fun o => decide (o.rank < src.rank)) &&
    !(src.isGrantEnd && m.sources.any Source.barsGrantEnd) && !(src == .memory && m.told)

/-- The command makes the lane enter STOPPED if it is served now: a LANE_HALT, or a LANE_STOP at a frame boundary (R78, R79, R114,
R115). -/
def State.stopsLane (s : State) (n : LaneId) (e : CmdEntry) : Bool :=
  laneArg e.arg0 == some n &&
    (e.code == 0x12 && (s.lane n).moving || e.code == 0x11 && (s.lane n).st == .running && (s.lane n).atBoundary)

/-- The present moment has sampled Ln_TRIG high at a triggered lane that one of these commands stops. R105 ignores an edge at the
moment at which its lane enters STOPPED, so such a command comes at a later moment than an edge that has acted; where the two
fall together, the command's row comes before the edge's. -/
def State.edgeMeetsStop (s : State) (es : List CmdEntry) : Bool :=
  laneList.any fun n =>
    s.moment.sources.contains (.trigger n) && (s.lane n).cfg.triggered && (s.lane n).trig && es.any (s.stopsLane n)

/-- The end of the grant in progress may let a command of the queue go: a LANE_HALT that waits for it (R137), or the head, once
the write buffer is empty or a long command completes (R136). -/
def State.endLetsGo (s : State) : Bool :=
  match s.arb.grant with
  | none => false
  | some g =>
    match g.who with
    | .ingress n | .egress n => s.haltAwaits n
    | .winWrite | .copyRead | .copyWrite | .fill | .measure => true
    | .winRead | .scrub => false

/-- The occurrence may bring a command that stops a lane at the moment of an edge of that lane (R105). -/
def State.barsEdge (s : State) (src : Source) : Bool := src.isGrantEnd && s.endLetsGo && s.edgeMeetsStop s.cmd.queue

/-- An occurrence from a source comes about: at the present moment, if that still has something to serve and takes it, and
otherwise at a new one, once the present one is served to its end. -/
def State.joinMoment (s : State) (src : Source) : State :=
  if s.nextDue.isNone then s.openMoment (s.opening src)
  else if s.urgentDue || !s.moment.takes src || s.barsEdge src then s.settle.openMoment (s.settle.opening src)
  else { s with moment := { s.moment with sources := src :: s.moment.sources } }

/-- An occurrence has logged an event or moved a lane's counter. -/
def State.tells (s t : State) : Bool :=
  t.log != s.log || laneList.any fun n => (t.lane n).counters != (s.lane n).counters

/-- The state `t` after an occurrence at the moment of `s`, which remembers whether the occurrence told anything. -/
def State.heard (s t : State) : State :=
  if s.tells t then { t with moment := { t.moment with told := true } } else t

/-- Serves the moment's requests up to and with the command, which R57 places before a mark, at most so many. -/
def State.serveAskedFor : Nat → State → State
  | 0, s => s
  | k + 1, s =>
    match s.nextDue with
    | some (.req r) =>
      if s.moment.asked.contains r && decide (r.rank ≤ Req.command.rank) then State.serveAskedFor k (s.serveDue (.req r))
      else s
    | some .windowClosed | some .reset | none => s

/-- The publishes, returns, takes, allocates and the command of the moment are served, before the mark of the same moment
(R57). At most 17 requests are asked for at one moment. The grant's events follow (R33, step 2), so they are logged after those
of the operations served here, and before the SUP_SEQUENCE_ERROR of a response at step 3: the order of R156 within one point
does not reach across these points. DESIGN CHOICE (assumption 38). -/
def State.beforeMark (s : State) : State := State.serveAskedFor 17 s

end Sys2Proof.Machine
end

