-- ==== Sys2Proof/Machine/HostRows.lean ====
section
/-! DEFINITION. The meanings of the host's rows: register accesses, the stall limit and the abort input (chapters 1, 4, 7,
9, 10). -/

namespace Sys2Proof.Machine

/-- The outcome of a command. -/
abbrev Answer := Host.Outcome State Fault Refusal

/-- A read of SLOT_DATA (§11.8). -/
def Access.readsSlotData (a : Access) : Bool := a.addr == 0x61 && !a.write

/-- A read of one of the read-clear counters (R12). -/
def Access.readsCounter (a : Access) : Bool :=
  !a.write &&
    match decodeReg a.addr with
    | some .evtLost | some .eccCorrCount | some .eccUncorrCount | some (.lnCntData _) => true
    | _ => false

/-- The moment is open, and no occurrence of it has moved a counter: the increments of the moment are those of the requests
outstanding. One access of the host at most comes at a moment (R1). -/
def Moment.uncounted (m : Moment) : Bool :=
  !m.sources.isEmpty && !m.sources.contains .host && !m.sources.contains .memory && !m.told

/-- The response closes the supervisor's window, whose event has the first place at its point (R156, R169); a SUP_KICK in the
window is not counted. -/
def State.closesAtResponse (s : State) (a : Access) : Bool :=
  s.sup.st == .armed && decide (Config.windowSize ≤ s.sup.windowCount + 1) && decodeReg a.addr != some .supKick

/-- The write is a CMD_ISSUE whose command stops a lane that has had an edge at the present moment (R105). -/
def State.issuesStop (s : State) (a : Access) : Bool :=
  decodeReg a.addr == some .cmdIssue && s.edgeMeetsStop [s.entryOf a.data]

/-- The write comes at the present moment: that still has something to serve and takes it, the response tells nothing that R156
places before what the moment has told, and no lane stops at the moment of its edge. -/
def State.joinsHost (s : State) (a : Access) : Bool :=
  s.nextDue.isSome && s.requestsAtOnce a && s.moment.takes .host && !(s.moment.told && s.closesAtResponse a) &&
    !s.issuesStop a

/-- The present moment is served to its end, and the access comes at a new one. -/
def State.freshMoment (s : State) (a : Access) : State := s.settle.openFor a

/-- A write that comes at the present moment, before its response: the operations that R57 places before a command are served,
because a CMD_ISSUE follows the records of its moment (R134), and the requests that they cause stay behind what the write
requests. The moment stays open to a grant's end, whose mark comes after the command and before those (R57). A write that is then
refused makes no request, and follows everything of the moment. -/
def State.meetMoment (s : State) (a : Access) : State :=
  let t := if decodeReg a.addr = some .cmdIssue then s.beforeMark else s
  if t.urgentDue || (t.accessFails a).isSome then t.freshMoment a
  else { t with moment := { t.moment with sources := .host :: s.moment.sources, told := s.moment.told } }

/-- A request is ordered after the service of the moment it meets. A write that makes a request of its own comes at that moment
(R57), a read of a read-clear counter goes before that service, so that the counter keeps the moment's increments (R12), and a
read of SLOT_DATA may come upon the snapshot it waits for (R2, R72). DESIGN CHOICE (assumption 7). -/
def State.beforeHost (s : State) (a : Access) : State :=
  if s.urgentDue then s.freshMoment a
  else if a.readsSlotData && s.outstanding .snapshot then s
  else if a.readsCounter && s.moment.uncounted then s.openMoment []
  else if s.joinsHost a then s.meetMoment a
  else s.freshMoment a

/-- A request of the host (R1): with a transaction outstanding there is none; otherwise it is accepted, or kept while the
port accepts none (R8). -/
def State.hostRow (s : State) (a : Access) : State :=
  if s.port.waiting.isSome then s
  else
    let s := s.beforeHost a
    if s.port.waiting.isSome then s
    else if s.accepting then (s.transact a).arbitrate
    else { s with port := { s.port with askedFor := some a } }

/-- A write request. -/
def State.hostWrite (s : State) (addr : BitVec 8) (data : Word) : State := s.hostRow ⟨addr, true, data⟩

/-- A read request. -/
def State.hostRead (s : State) (addr : BitVec 8) : State := s.hostRow ⟨addr, false, 0⟩

/-- A waiting transaction's wait ends without its completion (R5, R6): not once a window read has been granted (R7). -/
def State.endWait (s : State) (answer : State → Access → State) : State :=
  match s.port.waiting with
  | none => s
  | some w => if s.win.stage.isGranted then s else answer s.withdrawWait w.access

/-- The stall count has reached the stall limit (R4, R5). HOST_ERROR has the last place at its point (R156), so the moment is
closed. -/
def State.timeOut (s : State) : State :=
  if s.port.stallLimit = 0 then s else s.endWait fun s a => (s.respondErr .timeout a).openMoment []

/-- H_ABT is sampled (R6): its assertion ends a wait. -/
def State.sampleAbort (s : State) (level : Bool) : State :=
  let edge := level && !s.port.abt
  let s := { s with port := { s.port with abt := level } }
  if edge then s.endWait fun s a => s.respondAborted a else s

/-- A window closing, a reset or an occurrence of a tick that is due comes before an event on the host's pins. -/
def State.beforePins (s : State) : State := if s.urgentDue then s.settle else s

/-- REGISTER_WRITE (R11). -/
def execRegisterWrite (addr : BitVec 8) (data : Word) (s : State) : Answer := .next (s.hostWrite addr data)

/-- REGISTER_READ (R3). -/
def execRegisterRead (addr : BitVec 8) (s : State) : Answer := .next (s.hostRead addr)

/-- TIMEOUT (R5). -/
def execTimeout (s : State) : Answer := .next s.beforePins.timeOut

/-- ABORT (R6). -/
def execAbort (level : Bool) (s : State) : Answer := .next (s.beforePins.sampleAbort level)

/-- HOST_ERR_WRITE (R9). -/
def execHostErrWrite (data : Word) (s : State) : Answer := .next (s.hostWrite 0x02 data)

/-- CFG_LOCK_WRITE (R13). -/
def execCfgLockWrite (data : Word) (s : State) : Answer := .next (s.hostWrite 0x03 data)

/-- RESET_ARM (R14). -/
def execResetArm (data : Word) (s : State) : Answer := .next (s.hostWrite 0x05 data)

/-- RESET_GO (R14). -/
def execResetGo (data : Word) (s : State) : Answer := .next (s.hostWrite 0x06 data)

/-- WIN_DATA_READ (R126). -/
def execWinDataRead (p : Ptr) (s : State) : Answer := .next (s.hostRead (winDataAddr p))

/-- WIN_DATA_WRITE (R124). -/
def execWinDataWrite (p : Ptr) (data : Word) (s : State) : Answer := .next (s.hostWrite (winDataAddr p) data)

/-- SLOT_SEL_WRITE (R71). -/
def execSlotSelWrite (data : Word) (s : State) : Answer := .next (s.hostWrite 0x60 data)

/-- SLOT_DATA_READ (R72). -/
def execSlotDataRead (s : State) : Answer := .next (s.hostRead 0x61)

/-- EVT_DATA_READ (R157). -/
def execEvtDataRead (s : State) : Answer := .next (s.hostRead 0x31)

/-- EVT_LOST_READ (R154). -/
def execEvtLostRead (s : State) : Answer := .next (s.hostRead 0x33)

/-- ECC_CORR_COUNT_READ (R22, R23). -/
def execEccCorrCountRead (s : State) : Answer := .next (s.hostRead 0x51)

/-- ECC_UNCORR_COUNT_READ (R22). -/
def execEccUncorrCountRead (s : State) : Answer := .next (s.hostRead 0x52)

/-- LN_CNT_DATA_READ (R80). -/
def execLnCntDataRead (n : LaneId) (s : State) : Answer := .next (s.hostRead (laneAddr n 8))

/-- ACKNOWLEDGE (R162). -/
def execAcknowledge (s : State) : Answer := .next (s.hostRead 0x37)

/-- EOI (R163). -/
def execEoi (data : Word) (s : State) : Answer := .next (s.hostWrite 0x38 data)

/-- IRQ_PENDING_WRITE (R159). -/
def execIrqPendingWrite (data : Word) (s : State) : Answer := .next (s.hostWrite 0x34 data)

/-- ENGINE_ABORT (R148). -/
def execEngineAbort (data : Word) (s : State) : Answer := .next (s.hostWrite 0x26 data)

/-- SUP_ARM (R169). -/
def execSupArm (data : Word) (s : State) : Answer := .next (s.hostWrite 0x44 data)

/-- SUP_KICK (R169). -/
def execSupKick (data : Word) (s : State) : Answer := .next (s.hostWrite 0x45 data)

/-- SCRUB_CFG_WRITE (R27). -/
def execScrubCfgWrite (data : Word) (s : State) : Answer := .next (s.hostWrite 0x54 data)

/-- TB_PRESCALE_WRITE (R166). -/
def execTbPrescaleWrite (data : Word) (s : State) : Answer := .next (s.hostWrite 0x41 data)

/-- LN_CFG_WRITE (R76). -/
def execLnCfgWrite (n : LaneId) (data : Word) (s : State) : Answer := .next (s.hostWrite (laneAddr n 0) data)

/-- RUN (R172): a write of POWER_CTRL whose data requests RUN. -/
def execRun (data : Word) (s : State) : Answer := .next (s.hostWrite 0x47 data)

/-- DOZE (R172): a write of POWER_CTRL whose data requests DOZE. -/
def execDoze (data : Word) (s : State) : Answer := .next (s.hostWrite 0x47 data)

/-- RETAIN (R172): a write of POWER_CTRL whose data requests RETAIN. -/
def execRetain (data : Word) (s : State) : Answer := .next (s.hostWrite 0x47 data)

/-- CMD_ISSUE (R134). -/
def execCmdIssue (data : Word) (s : State) : Answer := .next (s.hostWrite 0x24 data)

end Sys2Proof.Machine
end

