-- ==== Sys2Proof/Machine/GrantRows.lean ====
section
/-! DEFINITION. The meanings of the grant end rows: the end sequence of R33 for each requester's grant (R29, R34, R88, R110,
R125, R127, R143 to R146). -/

namespace Sys2Proof.Machine

/-! ## The parts of an end sequence -/

/-- The words of a grant lie in the memory (R16). -/
def State.grantFits (s : State) (g : Grant) : Bool := decide (g.addr + g.count ≤ s.memWords)

/-- The source that a grant's end is at its moment. -/
def Client.source : Client → Source
  | .ingress n => .written n
  | .egress _ | .winWrite | .winRead | .copyRead | .copyWrite | .fill | .measure | .scrub => .memory

/-- A grant end row: where such a grant is in progress, its end sequence; where none is, the row does not occur. -/
def State.grantRow (s : State) (mine : Client → Bool) (finish : Grant → State → State) : Answer :=
  match s.arb.grant with
  | none => .next s
  | some g =>
    if mine g.who then
      if s.grantFits g then .next (finish g (s.joinMoment g.who.source)) else .fault .addressBeyondMemory
    else .next s

/-- Step 1 of a write grant's end (R33, R17): its words are in memory. -/
def State.wroteGrant (s : State) (g : Grant) : State := { s with mem := s.memoryAfter g g.count }

/-- Disturbances that came about before the read (R18). -/
def State.disturbed (s : State) (flips : List Flip) : State := { s with mem := s.mem.disturb s.memWords flips }

/-- The words a read grant reads (R18, R33). -/
def State.grantReads (s : State) (g : Grant) : List WordRead := s.mem.readWords g.addr g.count

/-- The grant is over (R33). -/
def State.closeGrant (s : State) : State := { s with arb := { s.arb with grant := none } }

/-- The operation of a LANE_HALT that waited for this lane's grant is requested (R79, R115). -/
def State.askDeferredHalt (s : State) (n : LaneId) : State := if s.haltAwaits n then s.ask .command else s

/-! ## Lanes (R88, R110) -/

/-- The end of an ingress grant (R88): the written words join the slot; a run that ended with an EOF entry requests a
publish, and otherwise the frame logic goes on. -/
def State.endIngressGrant (s : State) (n : LaneId) (g : Grant) : State :=
  let eof := ((s.lane n).fifo.take g.count).any FifoEntry.eof
  let t := s.wroteGrant g
  let t := match (t.lane n).cur with
    | some i => t.takeWritten n i g.count
    | none => t
  let t := t.closeGrant.askDeferredHalt n
  (s.heard (if eof then t.ask (.publish n) else t.frameLogic .asking n)).arbitrate

/-- The end of an egress grant (R110): the words enter the FIFO with their ERR markers, and fetched grows. -/
def Lane.fetchedWords (l : Lane) (rs : List WordRead) : Lane :=
  { l with
    fifo := l.fifo ++ rs.map fun r => ⟨r.data, false, false, false, false, r.outcome == .uncorrectable, 0⟩
    fetched := l.fetched + rs.length }

/-- Steps 1 to 5 of an egress grant's end. -/
def State.endEgressGrant (s : State) (n : LaneId) (g : Grant) (flips : List Flip) : State :=
  let s := s.beforeMark.disturbed flips
  let rs := s.grantReads g
  let s := (s.eccReport (.lane n) rs).updLane n fun l => l.fetchedWords rs
  (s.closeGrant.askDeferredHalt n).arbitrate

/-! ## The Host Window (R125, R127) -/

/-- The end of a window write grant. The Slot Manager's service of the moment comes before the posting's check (R123); a
command that the emptied buffer lets go is dispatched after the grant has ended (R33, R136). -/
def State.endWindowWrite (s : State) (g : Grant) : State :=
  let s := (s.beforeMark.wroteGrant g).written g.count
  (s.closeGrant.askDispatch).arbitrate

/-- The end of a window read grant. -/
def State.endWindowRead (s : State) (g : Grant) (flips : List Flip) : State :=
  let s := s.beforeMark.disturbed flips
  let rs := s.grantReads g
  let s := s.eccReport .window rs
  let s := match s.win.stage, rs with
    | .granted p, r :: _ => s.readResult p r
    | _, _ => s
  s.closeGrant.arbitrate

/-! ## The Copy Engine (R143 to R146) -/

/-- The first uncorrectable word of a read grant. -/
def firstBad (rs : List WordRead) : Option Nat := (uncorrectableOf rs).head?.map WordRead.addr

/-- Step 3 of a COPY read grant (R141): the engine holds the words. -/
def State.holdBurst (s : State) (rs : List WordRead) : State :=
  { s with eng := { s.eng with phase := .holding, held := rs.map WordRead.data } }

/-- Step 4 of a COPY read grant (R141): the engine that holds a burst raises its write request. -/
def State.raiseWrite (s : State) : State :=
  if s.eng.phase = .holding then { s with eng := { s.eng with phase := .writeWait } } else s

/-- The end of a COPY read grant (R143, R144). -/
def State.endCopyRead (s : State) (g : Grant) (flips : List Flip) : State :=
  let s := s.beforeMark.disturbed flips
  let rs := s.grantReads g
  let s := s.eccReport .engine rs
  let s := match firstBad rs with
    | some a => s.endLong .eccFault a
    | none => s.holdBurst rs
  (s.closeGrant.raiseWrite).arbitrate

/-- How many words the executing command has in all. -/
def State.longTotal (s : State) : Nat :=
  match s.eng.cmd with
  | some (.copy _ _ count) => count
  | some (.fill _ count _ _) => count
  | some (.measure i) => (s.slot i).length
  | none => 0

/-- Words done grows by a grant's words, and the burst is no longer held (R141). -/
def State.countDone (s : State) (k : Nat) : State :=
  { s with eng := { s.eng with wordsDone := s.eng.wordsDone + k, held := [] } }

/-- The end of a COPY write grant (R143, R148). -/
def State.endCopyWrite (s : State) (g : Grant) : State :=
  let s := (s.wroteGrant g).countDone g.count
  ((s.afterBurst s.longTotal .readWait).closeGrant).arbitrate

/-- The end of a FILL grant (R145, R148). -/
def State.endFillGrant (s : State) (g : Grant) : State :=
  let s := (s.wroteGrant g).countDone g.count
  ((s.afterBurst s.longTotal .writeWait).closeGrant).arbitrate

/-- The words of a MEASURE burst are taken into the running statistics (R146). -/
def State.measured (s : State) (rs : List WordRead) : State :=
  { s with eng := { s.eng with
      stats := s.eng.stats.map fun (r : RunningStats) => r.addAll (rs.map WordRead.data) } }.countDone rs.length

/-- The finished statistics go into the measured slot, once every word is done (R146). -/
def State.storeStats (s : State) : State :=
  match s.eng.cmd, s.eng.stats with
  | some (.measure i), some r =>
    if s.longTotal ≤ s.eng.wordsDone then s.updSlot i fun t => { t with stats := some r.finish } else s
  | _, _ => s

/-- A MEASURE that meets an uncorrectable word clears STATS_VALID and completes ECC_FAULT (R146). -/
def State.failMeasure (s : State) (a : Nat) : State :=
  let s := match s.eng.cmd with
    | some (.measure i) => s.updSlot i fun t => { t with stats := none }
    | some (.copy _ _ _) | some (.fill _ _ _ _) | none => s
  s.endLong .eccFault a

/-- The end of a MEASURE grant (R146, R148). -/
def State.endMeasure (s : State) (g : Grant) (flips : List Flip) : State :=
  let s := s.beforeMark.disturbed flips
  let rs := s.grantReads g
  let s := s.eccReport .engine rs
  let s := match firstBad rs with
    | some a => s.failMeasure a
    | none =>
      let s := (s.measured rs).storeStats
      s.afterBurst s.longTotal .readWait
  s.closeGrant.arbitrate

/-! ## The Scrubber (R29, R30) -/

/-- The end of a Scrubber grant: corrected words have been written back (R29), the outcomes are reported and tallied, the
position advances (R30), the request is evaluated afresh (R28), and a RETAIN request that waited is answered (R44). -/
def State.endScrub (s : State) (g : Grant) (flips : List Flip) : State :=
  let s := s.beforeMark.disturbed flips
  let rs := s.grantReads g
  let s := { s with mem := s.mem.writeBack rs }
  let s := s.eccReport .scrubber rs
  let s := { s with scrub := s.scrub.tallied rs }
  (((s.scrubAdvance).closeGrant.scrubRaise).answerRetain).arbitrate

/-! ## The rows -/

/-- The lane of an ingress grant. -/
def Client.ingressLane : Client → Option LaneId
  | .ingress n => some n
  | .egress _ | .winWrite | .winRead | .copyRead | .copyWrite | .fill | .measure | .scrub => none

/-- The lane of an egress grant. -/
def Client.egressLane : Client → Option LaneId
  | .egress n => some n
  | .ingress _ | .winWrite | .winRead | .copyRead | .copyWrite | .fill | .measure | .scrub => none

/-- INGRESS_GRANT_END (R88). -/
def execIngressGrantEnd (s : State) : Answer :=
  s.grantRow (fun c => c.ingressLane.isSome) fun g s =>
    match g.who.ingressLane with
    | some n => s.endIngressGrant n g
    | none => s

/-- EGRESS_GRANT_END (R110). -/
def execEgressGrantEnd (flips : List Flip) (s : State) : Answer :=
  s.grantRow (fun c => c.egressLane.isSome) fun g s =>
    match g.who.egressLane with
    | some n => s.endEgressGrant n g flips
    | none => s

/-- WINDOW_WRITE_GRANT_END (R125). -/
def execWindowWriteGrantEnd (s : State) : Answer := s.grantRow (· == .winWrite) fun g s => s.endWindowWrite g

/-- WINDOW_READ_GRANT_END (R127). -/
def execWindowReadGrantEnd (flips : List Flip) (s : State) : Answer :=
  s.grantRow (· == .winRead) fun g s => s.endWindowRead g flips

/-- COPY_READ_GRANT_END (R144). -/
def execCopyReadGrantEnd (flips : List Flip) (s : State) : Answer :=
  s.grantRow (· == .copyRead) fun g s => s.endCopyRead g flips

/-- COPY_WRITE_GRANT_END (R143). -/
def execCopyWriteGrantEnd (s : State) : Answer := s.grantRow (· == .copyWrite) fun g s => s.endCopyWrite g

/-- FILL_GRANT_END (R145). -/
def execFillGrantEnd (s : State) : Answer := s.grantRow (· == .fill) fun g s => s.endFillGrant g

/-- MEASURE_GRANT_END (R146). -/
def execMeasureGrantEnd (flips : List Flip) (s : State) : Answer :=
  s.grantRow (· == .measure) fun g s => s.endMeasure g flips

/-- SCRUB_GRANT_END (R29). -/
def execScrubGrantEnd (flips : List Flip) (s : State) : Answer :=
  s.grantRow (· == .scrub) fun g s => s.endScrub g flips

end Sys2Proof.Machine
end

