-- ==== Sys2Proof/Machine/ServiceRows.lean ====
section
/-! DEFINITION. The meanings of the rows that fall due inside the part: the commands at their dispatch (§8.1), the Slot
Manager's operations (R58 to R61, R71), and the occurrences that a response or a tick causes (R166 to R170). -/

namespace Sys2Proof.Machine

/-! ## Commands (R136, R137) -/

/-- The head command is undispatched, and its code is one that the row stands for. -/
def State.headIs (s : State) (mine : BitVec 8 → Bool) : Bool :=
  !s.cmd.haltDeferred &&
    match s.cmd.queue with
    | [] => false
    | e :: _ => mine e.code

/-- A command row: where the command operation is what is served next, and the head command is one of the row's, it is
dispatched and executed; otherwise the row does not occur. -/
def State.commandRow (s : State) (mine : BitVec 8 → Bool) : State :=
  if s.headIs mine then s.serviceRow (.req .command) else s

/-- SLOT_ASSIGN (R64). -/
def execSlotAssign (s : State) : Answer := .next (s.commandRow (· == 0x01))

/-- SLOT_UNASSIGN (R65). -/
def execSlotUnassign (s : State) : Answer := .next (s.commandRow (· == 0x02))

/-- CLAIM (R66). -/
def execClaim (s : State) : Answer := .next (s.commandRow (· == 0x03))

/-- ALLOC (R67). -/
def execAlloc (s : State) : Answer := .next (s.commandRow (· == 0x04))

/-- RELEASE (R68). -/
def execRelease (s : State) : Answer := .next (s.commandRow (· == 0x05))

/-- SUBMIT (R69). -/
def execSubmit (s : State) : Answer := .next (s.commandRow (· == 0x06))

/-- LANE_START (R77). -/
def execLaneStart (s : State) : Answer := .next (s.commandRow (· == 0x10))

/-- LANE_STOP (R78). -/
def execLaneStop (s : State) : Answer := .next (s.commandRow (· == 0x11))

/-- LANE_HALT (R79): with the lane's grant in progress, the dispatch leaves the operation for the grant's end. -/
def execLaneHalt (s : State) : Answer := .next (s.commandRow (· == 0x12))

/-- HALT_AT_GRANT_END (R79): the operation of a LANE_HALT that waited for its lane's grant. -/
def execHaltAtGrantEnd (s : State) : Answer := .next (if s.cmd.haltDeferred then s.serviceRow (.req .command) else s)

/-- LANE_FLUSH (R94). -/
def execLaneFlush (s : State) : Answer := .next (s.commandRow (· == 0x13))

/-- BIND (R102). -/
def execBind (s : State) : Answer := .next (s.commandRow (· == 0x14))

/-- COPY (R142). -/
def execCopy (s : State) : Answer := .next (s.commandRow (· == 0x20))

/-- FILL (R145). -/
def execFill (s : State) : Answer := .next (s.commandRow (· == 0x21))

/-- MEASURE (R146). -/
def execMeasure (s : State) : Answer := .next (s.commandRow (· == 0x22))

/-- SYNC (R147). -/
def execSync (s : State) : Answer := .next (s.commandRow (· == 0x23))

/-- UNKNOWN_COMMAND (R135). -/
def execUnknownCommand (s : State) : Answer := .next (s.commandRow fun c => !knownCode c)

/-- COMMAND_DISPATCH (R136): the head command, whatever its code. -/
def execCommandDispatch (s : State) : Answer := .next (s.commandRow fun _ => true)

/-! ## The Slot Manager's operations (R56) -/

/-- PUBLISH (R58). -/
def execPublish (n : LaneId) (s : State) : Answer := .next (s.serviceRow (.req (.publish n)))

/-- RETURN (R59). -/
def execRet (n : LaneId) (s : State) : Answer := .next (s.serviceRow (.req (.ret n)))

/-- TAKE (R60). -/
def execTake (n : LaneId) (s : State) : Answer := .next (s.serviceRow (.req (.take n)))

/-- ALLOCATE (R61). -/
def execAllocate (n : LaneId) (s : State) : Answer := .next (s.serviceRow (.req (.allocate n)))

/-- SNAPSHOT (R71). -/
def execSnapshot (s : State) : Answer := .next (s.serviceRow (.req .snapshot))

/-! ## What a response or a tick causes -/

/-- WINDOW_CLOSED (R169). -/
def execWindowClosed (s : State) : Answer := .next (s.serviceRow .windowClosed)

/-- SCRUB_REQUEST (R28). -/
def execScrubRequest (s : State) : Answer := .next (s.serviceRow (.req .scrubRequest))

/-- SUP_WARNING (R168). -/
def execSupWarning (s : State) : Answer := .next (s.serviceRow (.req .supWarning))

/-- SUP_EXPIRED (R170). -/
def execSupExpired (s : State) : Answer := .next (s.serviceRow (.req .supExpired))

end Sys2Proof.Machine
end

