-- ==== Sys2Proof/Machine/StreamRows.lean ====
section
/-! DEFINITION. The meanings of the stream partners' rows: words arriving, words sent, triggers (R82, R100, R105). -/

namespace Sys2Proof.Machine

/-- An occurrence at a lane's pins, at its moment. -/
def State.laneRow (s : State) (src : Source) (act : State → State) : State :=
  let s := s.joinMoment src
  s.heard (act s)

/-- WORD_ARRIVAL (R82): the partner of lane `n` offers a word at a DCLK edge. -/
def execWordArrival (n : LaneId) (data : Word) (sof eof : Bool) (s : State) : Answer :=
  .next (s.laneRow (.stream n) fun s => s.arrive n data sof eof).arbitrate

/-- WORD_SENT (R100): the partner of lane `n` is ready at a DCLK edge. -/
def execWordSent (n : LaneId) (s : State) : Answer :=
  .next (s.laneRow (.stream n) fun s => s.send n).arbitrate

/-- A lane's return is served before an edge of the same moment is judged, and so is a command, which may stop the lane
(R105). -/
def State.beforeTrigger (s : State) (n : LaneId) : State :=
  if s.outstanding (.ret n) || s.outstanding .command then s.settle else s

/-- TRIGGER_EDGE (R105): Ln_TRIG of lane `n` is sampled. -/
def execTriggerEdge (n : LaneId) (level : Bool) (s : State) : Answer :=
  .next ((s.beforeTrigger n).laneRow (.trigger n) fun s => s.sampleTrigger n level)

end Sys2Proof.Machine
end

