-- ==== Sys2Proof/Machine/TimeRows.lean ====
section
/-! DEFINITION. The meanings of the rows of time, and the device clock that passes when no command waits (R4, R25, R165). -/

namespace Sys2Proof.Machine

/-- TIMEBASE_TICK (R165): a tick comes after everything else at its point (R166), in the log too: assumption 41. -/
def execTimebaseTick (s : State) : Answer := .next ((s.settle.openMoment []).tick)

/-- The init sweep runs (R25, R174). -/
def State.sweeping (s : State) : Bool := s.sweep.running && !s.rst.pinHeld

/-- INIT_DONE (R25): the sweep writes its remaining words, the last one with them. -/
def execInitDone (s : State) : Answer :=
  let s := s.settle.openMoment []
  .next (if s.sweeping then s.finishSweep.arbitrate else s)

/-! ## A device clock (R4, R5, R25, R165) -/

/-- The sweep writes one word at a device clock. -/
def State.clockSweep (s : State) : State := if s.sweeping then s.sweepWord.arbitrate else s

/-- The device clocks that the stall limit allows (R4). -/
def HostPort.stallClocks (p : HostPort) : Nat := Config.stallUnit * p.stallLimit.toNat

/-- The stall count of a waiting transaction (R5): at the limit the wait ends. -/
def State.clockStall (s : State) : State :=
  if s.port.waiting.isSome then
    let s := { s with port := { s.port with stallCount := s.port.stallCount + 1 } }
    if s.port.stallClocks ≤ s.port.stallCount then s.timeOut else s
  else s

/-- The prescale count (R165): at TB_PRESCALE it returns to 0 and the timebase ticks. -/
def State.clockTimebase (s : State) : State :=
  if s.timeRuns then
    let s := { s with tb := { s.tb with prescaleCount := s.tb.prescaleCount + 1 } }
    if s.tb.prescale ≤ s.tb.prescaleCount then s.tick else s
  else s

/-- A window that the timed-out response closes is closed before the tick, which is ordered after that response (R166). -/
def State.clockWindow (s : State) : State := if s.closingDue then s.closeWindow else s

/-- One device clock, at a new moment. What its tick causes comes after everything else of the clock (R166): SUP_WARNING and
SUP_EXPIRED are logged behind the HOST_ERROR of a timeout and behind INIT_DONE. DESIGN CHOICE (assumption 41). -/
def State.clock (s : State) : State :=
  if s.rst.pinHeld then s else ((((s.openMoment []).clockSweep).clockStall).clockWindow).clockTimebase

/-- What the part does when no command waits: what has fallen due is served, one thing at a time, and with nothing due one
device clock passes. -/
def State.idle (s : State) : State :=
  match s.nextDue with
  | some d => s.serveDue d
  | none => s.clock

end Sys2Proof.Machine
end

