-- ==== Sys2Proof/Machine/ResetRows.lean ====
section
/-! DEFINITION. The meanings of the reset rows (R174, R175). -/

namespace Sys2Proof.Machine

/-- POWER_ON_RESET (R174), with the level of SUPEN. -/
def execPowerOnReset (supen : Bool) (s : State) : Answer := .next ((s.powerOn supen).arbitrate)

/-- The grant in progress, if any, lies in the memory (R16). -/
def State.cutFits (s : State) : Bool :=
  match s.arb.grant with
  | none => true
  | some g => s.grantFits g

/-- PIN_RESET (R174): RSTN driven low; a part already held stays held. -/
def execPinReset (cut : Nat) (s : State) : Answer :=
  if s.rst.pinHeld then .next s
  else if s.cutFits then .next (s.pinLow cut)
  else .fault .addressBeyondMemory

/-- RSTN_RELEASE (R174): RSTN returns high, with the level of SUPEN; a part that is not held has no pin reset to complete. -/
def execRstnRelease (supen : Bool) (s : State) : Answer :=
  .next (if s.rst.pinHeld then (s.pinHigh supen).arbitrate else s)

/-- SUPERVISOR_RESET (R174, R176): a due supervisor reset takes effect. -/
def execSupervisorReset (s : State) : Answer :=
  .next (match s.dueReset with
    | .sup => s.serviceRow .reset
    | .por | .pin | .soft => s)

/-- SOFT_RESET (R175): a due soft reset takes effect. -/
def execSoftReset (s : State) : Answer :=
  .next (match s.dueReset with
    | .soft => s.serviceRow .reset
    | .por | .pin | .sup => s)

end Sys2Proof.Machine
end

