-- ==== Sys2Proof/Machine/Dispatch.lean ====
section
/-! DEFINITION. One arm per command: its meaning. -/

namespace Sys2Proof.Machine

def exec (i : Instr) (s : State) : Host.Outcome State Fault Refusal :=
  match i with
  | .registerWrite addr data => Sys2Proof.Machine.execRegisterWrite addr data s
  | .timeout => Sys2Proof.Machine.execTimeout s
  | .abort level => Sys2Proof.Machine.execAbort level s
  | .hostErrWrite data => Sys2Proof.Machine.execHostErrWrite data s
  | .cfgLockWrite data => Sys2Proof.Machine.execCfgLockWrite data s
  | .resetArm data => Sys2Proof.Machine.execResetArm data s
  | .resetGo data => Sys2Proof.Machine.execResetGo data s
  | .winDataRead p => Sys2Proof.Machine.execWinDataRead p s
  | .winDataWrite p data => Sys2Proof.Machine.execWinDataWrite p data s
  | .slotSelWrite data => Sys2Proof.Machine.execSlotSelWrite data s
  | .snapshot => Sys2Proof.Machine.execSnapshot s
  | .slotDataRead => Sys2Proof.Machine.execSlotDataRead s
  | .evtDataRead => Sys2Proof.Machine.execEvtDataRead s
  | .evtLostRead => Sys2Proof.Machine.execEvtLostRead s
  | .eccCorrCountRead => Sys2Proof.Machine.execEccCorrCountRead s
  | .eccUncorrCountRead => Sys2Proof.Machine.execEccUncorrCountRead s
  | .lnCntDataRead n => Sys2Proof.Machine.execLnCntDataRead n s
  | .acknowledge => Sys2Proof.Machine.execAcknowledge s
  | .eoi data => Sys2Proof.Machine.execEoi data s
  | .irqPendingWrite data => Sys2Proof.Machine.execIrqPendingWrite data s
  | .engineAbort data => Sys2Proof.Machine.execEngineAbort data s
  | .supArm data => Sys2Proof.Machine.execSupArm data s
  | .supKick data => Sys2Proof.Machine.execSupKick data s
  | .windowClosed => Sys2Proof.Machine.execWindowClosed s
  | .scrubCfgWrite data => Sys2Proof.Machine.execScrubCfgWrite data s
  | .tbPrescaleWrite data => Sys2Proof.Machine.execTbPrescaleWrite data s
  | .lnCfgWrite n data => Sys2Proof.Machine.execLnCfgWrite n data s
  | .run data => Sys2Proof.Machine.execRun data s
  | .doze data => Sys2Proof.Machine.execDoze data s
  | .retain data => Sys2Proof.Machine.execRetain data s
  | .slotAssign => Sys2Proof.Machine.execSlotAssign s
  | .slotUnassign => Sys2Proof.Machine.execSlotUnassign s
  | .claim => Sys2Proof.Machine.execClaim s
  | .alloc => Sys2Proof.Machine.execAlloc s
  | .release => Sys2Proof.Machine.execRelease s
  | .submit => Sys2Proof.Machine.execSubmit s
  | .laneStart => Sys2Proof.Machine.execLaneStart s
  | .laneStop => Sys2Proof.Machine.execLaneStop s
  | .laneHalt => Sys2Proof.Machine.execLaneHalt s
  | .haltAtGrantEnd => Sys2Proof.Machine.execHaltAtGrantEnd s
  | .laneFlush => Sys2Proof.Machine.execLaneFlush s
  | .bind => Sys2Proof.Machine.execBind s
  | .copy => Sys2Proof.Machine.execCopy s
  | .fill => Sys2Proof.Machine.execFill s
  | .measure => Sys2Proof.Machine.execMeasure s
  | .sync => Sys2Proof.Machine.execSync s
  | .unknownCommand => Sys2Proof.Machine.execUnknownCommand s
  | .commandDispatch => Sys2Proof.Machine.execCommandDispatch s
  | .ingressGrantEnd => Sys2Proof.Machine.execIngressGrantEnd s
  | .egressGrantEnd flips => Sys2Proof.Machine.execEgressGrantEnd flips s
  | .windowWriteGrantEnd => Sys2Proof.Machine.execWindowWriteGrantEnd s
  | .windowReadGrantEnd flips => Sys2Proof.Machine.execWindowReadGrantEnd flips s
  | .copyReadGrantEnd flips => Sys2Proof.Machine.execCopyReadGrantEnd flips s
  | .copyWriteGrantEnd => Sys2Proof.Machine.execCopyWriteGrantEnd s
  | .fillGrantEnd => Sys2Proof.Machine.execFillGrantEnd s
  | .measureGrantEnd flips => Sys2Proof.Machine.execMeasureGrantEnd flips s
  | .scrubGrantEnd flips => Sys2Proof.Machine.execScrubGrantEnd flips s
  | .scrubRequest => Sys2Proof.Machine.execScrubRequest s
  | .wordArrival n data sof eof => Sys2Proof.Machine.execWordArrival n data sof eof s
  | .publish n => Sys2Proof.Machine.execPublish n s
  | .allocate n => Sys2Proof.Machine.execAllocate n s
  | .take n => Sys2Proof.Machine.execTake n s
  | .wordSent n => Sys2Proof.Machine.execWordSent n s
  | .ret n => Sys2Proof.Machine.execRet n s
  | .triggerEdge n level => Sys2Proof.Machine.execTriggerEdge n level s
  | .timebaseTick => Sys2Proof.Machine.execTimebaseTick s
  | .supWarning => Sys2Proof.Machine.execSupWarning s
  | .supExpired => Sys2Proof.Machine.execSupExpired s
  | .initDone => Sys2Proof.Machine.execInitDone s
  | .powerOnReset supen => Sys2Proof.Machine.execPowerOnReset supen s
  | .pinReset cut => Sys2Proof.Machine.execPinReset cut s
  | .rstnRelease supen => Sys2Proof.Machine.execRstnRelease supen s
  | .supervisorReset => Sys2Proof.Machine.execSupervisorReset s
  | .softReset => Sys2Proof.Machine.execSoftReset s
  | .cmdIssue data => Sys2Proof.Machine.execCmdIssue data s
  | .registerRead addr => Sys2Proof.Machine.execRegisterRead addr s

end Sys2Proof.Machine
end

