-- ==== Sys2Proof/Machine/Pins.lean ====
section
/-! DEFINITION. What the outside sees on the pins, as functions of the state (pin summary of spec/00_scope.md, R1, R75, R81,
R82, R100, R161, R174). -/

namespace Sys2Proof.Machine

/-- IRQ (R161, R164): deasserted while RSTN is low. -/
def State.irqPin (s : State) : Bool := s.irq.line && !s.rst.pinHeld

/-- H_RESP (R1). -/
def State.respPin (s : State) : Resp := s.port.resp

/-- The outputs of a lane's stream port: `none` where the pin is an input of the lane's direction, or where the manual gives no
level. -/
structure StreamOut where
  ready : Option Bool
  valid : Option Bool
  sof   : Option Bool
  eof   : Option Bool
  err   : Option Bool
  data  : Option Word
deriving DecidableEq, Repr

/-- The outputs of an OFF lane (R75, R100): inactive, as the manual's STOPPED egress lane drives them, and Ln_READY false (R81).
DEDUCED (assumption 40). -/
def StreamOut.inactive : StreamOut := ⟨some false, some false, some false, some false, some false, some 0⟩

/-- What lane `n` drives. An ingress lane drives Ln_READY (R81, R82). An egress lane drives the word it offers with its markers,
Ln_VALID false with none to offer, and, STOPPED, its markers false and Ln_D 0 (R100). -/
def State.streamOut (s : State) (n : LaneId) : StreamOut :=
  let l := s.lane n
  if s.rst.pinHeld then StreamOut.inactive
  else
    match l.cfg.dir with
    | .none => StreamOut.inactive
    | .ingress => ⟨some (s.readyOut n), none, none, none, none, none⟩
    | .egress =>
      if l.moving then
        match s.offered n with
        | some o => ⟨none, some true, some o.sof, some o.eof, some o.err, some o.data⟩
        | none => ⟨none, some false, none, none, none, none⟩
      else ⟨none, some false, some false, some false, some false, some 0⟩

/-- H_RDATA (R1), while it carries a read's data. -/
def State.rdataPin (s : State) : Option Word := s.port.rdata

end Sys2Proof.Machine
end

