-- ==== Sys2Proof/Safety.lean ====
section
/-! DEFINITION. The words that statements about the part are made of: the fields of the state and what leaves them unchanged,
the standing part of the state, quiet states, and the values that the rules give. -/

namespace Sys2Proof.Safety

open Sys2Proof.Machine

/-! ## Frames -/

/-- The groups of the state. -/
inductive Field where
  | part
  | pending
  | port
  | mem
  | sweep
  | ecc
  | scrub
  | arb
  | slots
  | hostFree
  | slotPort
  | lanes
  | win
  | cmd
  | eng
  | log
  | irq
  | tb
  | sup
  | power
  | rst
  | moment
deriving DecidableEq, Repr

/-- A group is the same in two states. -/
def sameField (f : Field) (s t : State) : Prop :=
  match f with
  | .part => t.part = s.part
  | .pending => t.pending = s.pending
  | .port => t.port = s.port
  | .mem => t.mem = s.mem
  | .sweep => t.sweep = s.sweep
  | .ecc => t.ecc = s.ecc
  | .scrub => t.scrub = s.scrub
  | .arb => t.arb = s.arb
  | .slots => t.slots = s.slots
  | .hostFree => t.hostFree = s.hostFree
  | .slotPort => t.slotPort = s.slotPort
  | .lanes => t.lanes = s.lanes
  | .win => t.win = s.win
  | .cmd => t.cmd = s.cmd
  | .eng => t.eng = s.eng
  | .log => t.log = s.log
  | .irq => t.irq = s.irq
  | .tb => t.tb = s.tb
  | .sup => t.sup = s.sup
  | .power => t.power = s.power
  | .rst => t.rst = s.rst
  | .moment => t.moment = s.moment

/-- Every group but the listed ones is unchanged. -/
def unchangedBut (fs : List Field) (s t : State) : Prop := ∀ f, f ∉ fs → sameField f s t

/-- Every lane but one is unchanged. -/
def otherLanes (n : LaneId) (s t : State) : Prop := ∀ m, m ≠ n → t.lane m = s.lane m

/-- Every slot record but one is unchanged. -/
def otherSlots (i : SlotId) (s t : State) : Prop := ∀ j, j ≠ i → t.slot j = s.slot j

/-- Every word of memory outside `count` words from `a` upward reads as before. -/
def otherWords (a count : Nat) (s t : State) : Prop := ∀ b, b < a ∨ a + count ≤ b → t.mem.read b = s.mem.read b

/-! ## The standing part of the state -/

/-- What a lane holds that only register writes and resets change. -/
structure LaneStanding where
  cfg      : LaneCfg
  markLo   : Nat
  markHi   : Nat
  fillLen  : BitVec 16
  fillWord : Word
  cntSel   : BitVec 4
deriving DecidableEq, Repr

/-- The standing part of a lane. -/
def laneStanding (l : Lane) : LaneStanding := ⟨l.cfg, l.markLo, l.markHi, l.fillLen, l.fillWord, l.cntSel⟩

/-- What no service of the part's own changes, but for resets and the ends of grants: the memory and its sweep, the
configuration registers, the lock, the interrupt enables, priorities and in-service stack, the timebase, the power state, and
the reset state but for what is due. -/
structure Standing where
  part       : Part
  mem        : Memory
  sweep      : Sweep
  stallLimit : BitVec 8
  lock       : Bool
  enable     : BitVec 8
  prio       : BitVec 16
  stack      : List InService
  logEnable  : BitVec 8
  tb         : Timebase
  warn       : BitVec 16
  action     : SupAction
  safeFill   : Bool
  timeout    : BitVec 16
  power      : Power
  cause      : ResetKind
  supCount   : BitVec 8
  pinHeld    : Bool
  escalate   : BitVec 8
  hostFirst  : Bool
  scrubN     : BitVec 16
  scrubOn    : Bool
  passEvent  : Bool
  strideA    : BitVec 8
  strideB    : BitVec 8
  sel        : SlotId
  args       : Word × Word × Word × Word
  lanes      : Vector LaneStanding 4
deriving DecidableEq, Repr

/-- The standing part of a state. -/
def standing (s : State) : Standing where
  part := s.part
  mem := s.mem
  sweep := s.sweep
  stallLimit := s.port.stallLimit
  lock := s.port.lock
  enable := s.irq.enable
  prio := s.irq.prio
  stack := s.irq.stack
  logEnable := s.log.enable
  tb := s.tb
  warn := s.sup.warn
  action := s.sup.action
  safeFill := s.sup.safeFill
  timeout := s.sup.timeout
  power := s.power
  cause := s.rst.cause
  supCount := s.rst.supCount
  pinHeld := s.rst.pinHeld
  escalate := s.arb.escalate
  hostFirst := s.arb.hostFirst
  scrubN := s.scrub.n
  scrubOn := s.scrub.enabled
  passEvent := s.scrub.passEvent
  strideA := s.win.strideA
  strideB := s.win.strideB
  sel := s.slotPort.sel
  args := (s.cmd.arg0, s.cmd.arg1, s.cmd.arg2, s.cmd.arg3)
  lanes := s.lanes.map laneStanding

/-! ## Quiet states and responses -/

/-- Nothing has fallen due, and the part is out of pin reset. -/
def calm (s : State) : Prop := s.nextDue = none ∧ s.rst.pinHeld = false

/-- The port takes a request at once: nothing has fallen due, no transaction is outstanding, and requests are accepted. -/
def quiet (s : State) : Prop := s.nextDue = none ∧ s.port.waiting = none ∧ s.accepting = true

/-- The Host Port as an accepted transaction leaves it at its response: idle, the reset arm clear, the response shown. -/
def answered (p : HostPort) (resp : Resp) (rdata : Option Word) : HostPort :=
  { p with waiting := none, stallCount := 0, resetArm := false, resp := resp, rdata := rdata }

/-- The Host Port with an accepted transaction that waits. -/
def holding (p : HostPort) (w : Wait) : HostPort :=
  { p with waiting := some w, stallCount := 0, resetArm := false, resp := .none, rdata := none }

/-- The supervisor after a completed transaction: an open window counts it, up to 16. -/
def counted (p : Supervisor) : Supervisor :=
  if p.st = .armed then { p with windowCount := min 16 (p.windowCount + 1) } else p

/-- The row of an access at its register's address. -/
def accessRow (a : Access) : Instr := if a.write then .registerWrite a.addr a.data else .registerRead a.addr

/-- A transaction has ended OK, and nothing else has fallen due. -/
def answeredOk (s r : State) (rdata : Option Word) : Prop :=
  r.port = answered s.port .ok rdata ∧ r.sup = counted s.sup ∧ r.moment = Moment.empty

/-- The events that an occurrence raises, in order: the log and the pending flags after it are those that raising them
leaves, with the queue and the supervisor as the occurrence leaves them. -/
def raises (es : List Event) (s r : State) : Prop :=
  let t := es.foldl State.raise { s with cmd := r.cmd, sup := r.sup }
  r.log = t.log ∧ r.irq = t.irq

/-- The HOST_ERROR event of a refused access: its reason code below its address below its direction. -/
def hostErrorEvent (s : State) (reason : Reason) (a : Access) : Event :=
  ⟨.hostError, some 6, 4, none, s.tb.count,
    BitVec.ofNat 32 (reason.code + 16 * a.addr.toNat + 4096 * a.write.toNat)⟩

/-- HOST_ERR after an ERR response. -/
def latched (e : HostErr) (reason : Reason) (a : Access) : HostErr :=
  ⟨some reason, a.addr, a.write, e.overrun || e.reason.isSome, BitVec.ofNat 8 (min 255 (e.count.toNat + 1))⟩

/-- A transaction has ended ERR with a reason: what a refused access leaves, HOST_ERR latched and HOST_ERROR raised. -/
def refusedWith (s r : State) (reason : Reason) (a : Access) : Prop :=
  r.port = { answered s.port .err (if a.write then none else some 0) with err := latched s.port.err reason a } ∧
    r.sup = counted s.sup ∧ raises [hostErrorEvent s reason a] s r ∧ r.moment = Moment.empty

/-! ## Commands -/

/-- The command `e` stands undispatched at the head of the queue with this code, and its dispatch is what is served next. -/
def commandDue (s : State) (e : CmdEntry) (code : BitVec 8) : Prop :=
  s.nextDue = some (.req .command) ∧ s.dispatchable = true ∧ s.cmd.queue.head? = some e ∧ e.code = code

/-- The completion record of the command `e`. -/
def doneEvent (s : State) (e : CmdEntry) (res : Result) (value : Nat) (slot : Option SlotId) : Event :=
  ⟨.commandDone, some 4, e.tag, slot, s.tb.count,
    BitVec.ofNat 32 (value % 524288 + 524288 * res.code + 8388608 * e.code.toNat)⟩

/-- The command `e` has left the queue, its completion record is raised, followed by the given events, and the next command
is requested where it can be dispatched. -/
def completes (s r : State) (e : CmdEntry) (res : Result) (value : Nat) (slot : Option SlotId) (more : List Event) : Prop :=
  r.cmd = { s.cmd with queue := s.cmd.queue.tail } ∧ raises (doneEvent s e res value slot :: more) s r ∧
    (r.dispatchable = true → r.outstanding .command = true)

/-! ## Values -/

/-- An event of a lane. -/
def laneEvent (s : State) (n : LaneId) (kind : Kind) (slot : Option SlotId) (detail : Nat) : Event :=
  ⟨kind, some (laneGroup n), BitVec.ofNat 8 n.val, slot, s.tb.count, BitVec.ofNat 32 detail⟩

/-- A saturating 16-bit counter moved on. -/
def plus (c : BitVec 16) (k : Nat) : BitVec 16 := BitVec.ofNat 16 (min 65535 (c.toNat + k))

/-- What an ordinary writable register reads as after the word `w` is written to it: its fields, clamped into their ranges
(chapter 11). -/
def readBack (w : Word) : Reg → Option Nat
  | .hostStallLimit => some (w.toNat % 256)
  | .arbCfg => some (w.toNat % 512)
  | .winPtr _ => some w.toNat
  | .winStride _ => some (w.toNat % 256)
  | .cmdArg _ => some w.toNat
  | .evtWordSel => some (min 2 (w.toNat % 4))
  | .irqEnable => some (w.toNat % 256)
  | .irqPrio => some (w.toNat % 65536)
  | .evtLogEnable => some (w.toNat % 256)
  | .supCfg =>
    some (w.toNat % 65536 + 65536 * min 2 (w.toNat / 65536 % 4) + 1048576 * (w.toNat / 1048576 % 2))
  | .supTimeout => some (max 1 (w.toNat % 65536))
  | .slotWordSel => some (min 8 (w.toNat % 16))
  | .lnMarks _ => some (min 32 (w.toNat % 64) + 256 * min 32 (w.toNat / 256 % 64))
  | .lnFillLen _ => some (w.toNat % 65536)
  | .lnFillWord _ => some w.toNat
  | .lnCntSel _ => some (min 15 w.toNat)
  | _ => none

/-- Fields packed into one number: each field's value with the bit at which it starts. -/
def packed (fields : List (Nat × Nat)) : Nat := (fields.map fun f => f.1 * 2 ^ f.2).sum

/-- The log entry that the SUP_SEQUENCE_ERROR of the next response will take, where that response closes the supervisor's
window and the event is logged (R134, R169). -/
def closingRecord (s : State) : Nat :=
  if s.sup.st = .armed ∧ 15 ≤ s.sup.windowCount ∧ s.log.enable.getLsbD 7 = true ∧ s.log.records.length + s.reserved < 32
  then 1 else 0

/-- A lane's counters by their index (R80); 7 and everything above 13 name none. -/
def counterAt (c : Counters) (k : Nat) : BitVec 16 :=
  [c.published, c.dropped, c.overwritten, c.truncated, c.cut, c.wordsLost, c.strayWords, 0, c.sent, c.repeated, c.fills,
    c.triggersMissed, c.crcMismatch, c.eccWords].getD k 0

/-- A free-running egress lane that is RUNNING and IDLE, which takes again when something new may be there for it (R104,
R117). -/
def idleFreeRunner (l : Lane) : Bool :=
  l.cfg.dir == .egress && !l.cfg.triggered && l.st == .running && l.sub == .idle

/-- The lane, TAKING if it was an idle free runner. -/
def takesAgain (l : Lane) : Lane := if idleFreeRunner l then { l with sub := .taking } else l

/-- Every idle free runner has requested a take, if `on`; otherwise the lanes are as they were. -/
def freeRunnersTake (on : Bool) (s r : State) : Prop :=
  ∀ n, r.lane n = (if on then takesAgain (s.lane n) else s.lane n) ∧
    r.outstanding (.take n) = (on && idleFreeRunner (s.lane n) || s.outstanding (.take n))

/-- A STALLED ingress lane has been told of a slot in its free list, and asks for its allocate again (R52, R86). -/
def wakes (m : LaneId) (s r : State) : Prop :=
  (s.lane m).cfg.dir = .ingress → (s.lane m).moving = true → (s.lane m).sub = .stalled → r.outstanding (.allocate m) = true

/-- The slot has joined its owner's free list at the tail, and no other list or lane has changed; a STALLED owner lane asks
for its slot again (R52, R86). -/
def joins (i : SlotId) (o : Owner) (s r : State) : Prop :=
  match o with
  | .none => r.hostFree = s.hostFree ∧ ∀ n, r.lane n = s.lane n
  | .host => r.hostFree = s.hostFree ++ [i] ∧ ∀ n, r.lane n = s.lane n
  | .lane m =>
    r.hostFree = s.hostFree ∧ r.lane m = { s.lane m with freeList := (s.lane m).freeList ++ [i] } ∧ otherLanes m s r ∧
      wakes m s r

/-- The slot index that a command's parameter gives, and the one a completion record carries for it. -/
def slotNamed (w : Word) : Option SlotId := if h : w.toNat < 64 then some ⟨w.toNat, h⟩ else none

/-- What a completion leaves unchanged, with nothing else done. -/
def onlyCompletes (s r : State) (e : CmdEntry) (res : Result) (slot : Option SlotId) : Prop :=
  completes s r e res 0 slot [] ∧ unchangedBut [.cmd, .log, .irq, .moment] s r

/-- A lane as it enters STOPPED (R75): FIFO empty, frame logic IDLE, loss-pending clear, and no frame in hand. -/
def stoppedForm (l : Lane) : Lane :=
  { l with
    st := .stopped, fifo := [], sub := .idle, lossPending := false, inspecting := none
    fetched := 0, sent := 0, frameLen := 0, checking := none, fillSent := 0 }

/-- The words that an egress lane has sent of the frame or fill frame in progress (R106, R115). -/
def wordsOut (l : Lane) : Nat :=
  if l.sub = .sendingFill then l.fillSent else if l.sub = .sending ∨ l.sub = .closing then l.sent else 0

/-- An ingress lane has begun a frame that has no slot yet (R78, R79). -/
def begunNoSlot (s : State) (n : LaneId) : Prop :=
  (s.lane n).cfg.dir = .ingress ∧
    ((s.lane n).sub = .idle ∧ s.outstanding (.allocate n) = true ∨ (s.lane n).sub = .stalled)

/-- The run of words at a FIFO head that a grant of at most `limit` words writes (R34): as long as it can be without an SOF
entry that has not been acted on, and without an entry behind an EOF entry. -/
def isRun (limit : Nat) (fifo : List FifoEntry) (run : Nat) : Prop :=
  run ≤ limit ∧ run ≤ fifo.length ∧ (∀ e ∈ fifo.take run, e.sof = true → e.acted = true) ∧
    (∀ e ∈ fifo.take (run - 1), e.eof = false) ∧
    (run < limit → ∀ e, (fifo.drop run).head? = some e →
      e.sof = true ∧ e.acted = false ∨ ∃ last, (fifo.take run).getLast? = some last ∧ last.eof = true)

/-- The operation of a dispatched LANE_HALT of the lane waits for the lane's grant to end (R79). -/
def haltWaits (s : State) (n : LaneId) : Prop :=
  s.cmd.haltDeferred = true ∧ ∃ e, s.cmd.queue.head? = some e ∧ e.arg0.toNat = n.val

/-- The lane's frame logic goes on from `t`, making its requests with the given voice; the moment remembers in `told`
whether an event was raised or a counter moved. -/
def goesOn (v : Voice) (n : LaneId) (t r : State) : Prop :=
  ∃ told, r = { t.frameLogic v n with moment := { (t.frameLogic v n).moment with told := told } }

/-- The requests of the moment once the one served next is taken out of it: those asked for, and those caused. -/
def requestsLeft (s : State) : List Req × List Req :=
  match s.moment.asked with
  | _ :: rest => (rest, s.moment.caused)
  | [] => ([], s.moment.caused.tail)

/-- What the operation of a LANE_HALT does to a RUNNING or STOPPING lane that holds no grant (R70, R79, R115): the lane enters
STOPPED; the slot in its current place is QUARANTINED if ECC_BAD is set, and otherwise FREE at the tail of its owner's list,
where it wakes a STALLED owner; an ingress frame begun is counted dropped with reason 2; LANE_HALTED carries the slot and the words written or sent. -/
def halts (s r : State) (e : CmdEntry) (n : LaneId) : Prop :=
  let l := s.lane n
  let seq : Nat := l.frameSeq.toNat
  (∀ i, l.cur = some i → l.cfg.dir = .ingress → (s.slot i).owner = .lane n →
      completes s r e .ok 0 none
        [laneEvent s n .frameDropped (some i) (seq + 65536 * 2),
          laneEvent s n .laneHalted (some i) (s.slot i).length] ∧
      r.slot i = { s.slot i with st := if (s.slot i).flags.eccBad then .quarantined else .free } ∧ otherSlots i s r ∧
      r.lane n = { stoppedForm l with
        cur := none
        freeList := if (s.slot i).flags.eccBad then l.freeList else l.freeList ++ [i]
        counters := { l.counters with dropped := plus l.counters.dropped 1 } } ∧
      otherLanes n s r ∧ r.hostFree = s.hostFree) ∧
    (∀ i, l.cur = some i → l.cfg.dir = .egress → (s.slot i).owner = .host →
      completes s r e .ok 0 none [laneEvent s n .laneHalted (some i) (wordsOut l)] ∧
      r.slot i = { s.slot i with st := if (s.slot i).flags.eccBad then .quarantined else .free } ∧ otherSlots i s r ∧
      r.lane n = { stoppedForm l with cur := none } ∧ otherLanes n s r ∧
      r.hostFree = if (s.slot i).flags.eccBad then s.hostFree else s.hostFree ++ [i]) ∧
    (∀ i m, l.cur = some i → l.cfg.dir = .egress → (s.slot i).owner = .lane m → m ≠ n →
      completes s r e .ok 0 none [laneEvent s n .laneHalted (some i) (wordsOut l)] ∧
      r.slot i = { s.slot i with st := if (s.slot i).flags.eccBad then .quarantined else .free } ∧ otherSlots i s r ∧
      r.lane n = { stoppedForm l with cur := none } ∧
      r.lane m = { s.lane m with
        freeList := if (s.slot i).flags.eccBad then (s.lane m).freeList else (s.lane m).freeList ++ [i] } ∧
      (∀ k, k ≠ n → k ≠ m → r.lane k = s.lane k) ∧ r.hostFree = s.hostFree ∧
      ((s.slot i).flags.eccBad = false → wakes m s r)) ∧
    (l.cur = none → begunNoSlot s n →
      completes s r e .ok 0 none
        [laneEvent s n .frameDropped none (seq + 65536 * 2), laneEvent s n .laneHalted none 0] ∧
      r.lane n = { stoppedForm l with counters := { l.counters with dropped := plus l.counters.dropped 1 } } ∧
      otherLanes n s r ∧ r.slots = s.slots ∧ r.hostFree = s.hostFree) ∧
    (l.cur = none → ¬ begunNoSlot s n →
      completes s r e .ok 0 none
        [laneEvent s n .laneHalted none (if l.cfg.dir = .egress then wordsOut l else 0)] ∧
      r.lane n = stoppedForm l ∧ otherLanes n s r ∧ r.slots = s.slots ∧ r.hostFree = s.hostFree) ∧
    r.outstanding (.take n) = false ∧
    r.outstanding (.allocate n) = false ∧
    unchangedBut [.cmd, .log, .irq, .moment, .lanes, .slots, .hostFree] s r

/-- What a reset of any kind leaves (R176): every field but the memory and its sweep, the lock, the timebase, the supervisor,
the reset state, the log, and the outside world's own (the commands waiting, the samples of H_ABT and Ln_TRIG, the request
that the host holds asserted). -/
def resetDefaults (s r : State) : Prop :=
  r.part = s.part ∧ r.pending = s.pending ∧ r.power = .run ∧ r.moment = ⟨[], [], [], false⟩ ∧
    r.ecc.corrCount = 0 ∧ r.ecc.uncorrCount = 0 ∧ r.ecc.last.valid = false ∧ r.ecc.last.addr = 0 ∧
    r.ecc.reportArmed = true ∧ r.scrub = ⟨false, 16, false, 0, 0, false, 0, 0⟩ ∧ r.arb = ⟨none, 3, 0, 32, false⟩ ∧
    (∀ i, r.slot i = ⟨.unassigned, .none, 0, 0, 0, 0, 0, 0, SlotFlags.clear, none⟩) ∧ r.hostFree = [] ∧
    r.slotPort.sel = 0 ∧ r.slotPort.wordSel = 0 ∧ (∀ k, r.slotPort.shadow.get k = 0) ∧
    (∀ n, (r.lane n).cfg = ⟨.none, false, .dropNew, .idle, false, false, false, false⟩ ∧ (r.lane n).st = .off ∧
      (r.lane n).markLo = 8 ∧ (r.lane n).markHi = 24 ∧ (r.lane n).fillLen = 0 ∧ (r.lane n).fillWord = 0 ∧
      (r.lane n).fifo = [] ∧ (r.lane n).nextSeq = 0 ∧ (r.lane n).sub = .idle ∧ (r.lane n).cur = none ∧
      (r.lane n).linger = none ∧ (r.lane n).freeList = [] ∧ (r.lane n).readyQ = [] ∧ (r.lane n).submitQ = [] ∧
      (r.lane n).binding = none ∧ (r.lane n).counters = ⟨0, 0, 0, 0, 0, 0, 0, 0, 0, 0, 0, 0, 0⟩ ∧
      (r.lane n).cntSel = 0 ∧ (r.lane n).lossPending = false ∧ (r.lane n).trig = (s.lane n).trig) ∧
    r.win = ⟨0, 0, 0, 0, [], .none⟩ ∧ r.cmd = ⟨0, 0, 0, 0, [], false⟩ ∧
    r.eng = ⟨none, false, 0, .idle, [], none, false⟩ ∧ r.irq.enable = 0 ∧ r.irq.prio = 0 ∧ r.irq.stack = [] ∧
    r.log.enable = 0 ∧ r.log.lost = 0 ∧ r.log.overflow = 0 ∧ r.log.wordSel = 0 ∧ r.tb.prescale = 1 ∧
    r.tb.prescaleCount = 0 ∧ r.sup.warn = 0 ∧ r.sup.action = .eventOnly ∧ r.sup.safeFill = false ∧
    r.sup.timeout = 1000 ∧ r.port.waiting = none ∧ r.port.stallCount = 0 ∧ r.port.stallLimit = 64 ∧
    r.port.resetArm = false ∧ r.port.abt = s.port.abt

/-- The log holds RESET_RECORD alone, with sequence number 0: its detail is the cause below the supervisor reset count. -/
def resetRecorded (r : State) : Prop :=
  r.log.records = [⟨0, ⟨.resetRecord, none, 12, none, r.tb.count,
    BitVec.ofNat 32 (r.rst.cause.code + 256 * r.rst.supCount.toNat)⟩⟩] ∧ r.log.nextSeq = 1

/-- The state as the reads of a grant leave it: the memory with the disturbances that came before them, the outcomes counted,
the slots marked and the events raised. -/
def afterReads (s : State) (m : Memory) (reader : Reader) (rs : List WordRead) : State :=
  State.eccReport { s with mem := m } reader rs

end Sys2Proof.Safety
end

