-- ==== Sys2Proof/Certificates/Slice0/Obligations.lean ====
section
/-! DEFINITION. What is stated about the part, for the provers. Every statement about a command says what it leaves
unchanged: `unchangedBut` lists the groups of the state that may differ. The Arbiter's decision at the end of an occurrence
(R36) is `State.arbitrate`; `ArbitrationOnlyGrants` says what it can change, so the other statements speak of the state before
it. -/

open Sys2Proof Sys2Proof.Machine Sys2Proof.Safety

/-! ## The step -/

/-- A step carries out the command at the front of the queue, on the state with the queue's rest. -/
def Obligations.StepRunsTheFrontCommand : Prop :=
  ∀ (c : Instr) (rest : List Instr) (s : State),
    step { s with pending := c :: rest } = exec c { s with pending := rest }

/-- R4, R5, R25, R57, R165, R166: with no command waiting, a step serves what has fallen due, if anything has (the model's choice:
assumption 8). With no window closing and no reset ready, that is the first of the requests that the moment's occurrences
have made, and with none of those left, the first of the requests that its operations have caused. The former stand in the
order of R57: the publishes, returns, takes and allocates, each from L0 to L3, the command, the snapshot; a request joins
them in its place. The latter stand in the order in which they were caused. A request that is outstanding is not made twice,
and what is served leaves the others as they stood. The service is that of the request's own row.

With nothing due, a device clock passes (assumption 8). The init sweep, while it runs, writes 0 to its next word, and is over with
the last one. A waiting transaction's stall count moves on, and ends the wait with ERR TIMEOUT at 16 device clocks for each
unit of HOST_STALL_LIMIT, unless that is 0 or the window read has been granted. Outside RETAIN the prescale count moves on, and
at TB_PRESCALE it returns to 0 and TB_COUNT moves on, which is a tick. Nothing else changes with none of these. -/
def Obligations.IdleStepServesOrClocks : Prop :=
  let order : List Req :=
    laneList.map .publish ++ laneList.map .ret ++ laneList.map .take ++ laneList.map .allocate ++ [.command, .snapshot]
  (∀ (s : State) (d : Due), s.pending = [] → s.nextDue = some d → step s = .next (s.serveDue d)) ∧
    (∀ s : State, s.rst.pinHeld = false → s.closingDue = false → s.resetReady = false →
      s.nextDue = (s.moment.asked ++ s.moment.caused).head?.map .req) ∧
    (∀ (s : State) (r : Req), s.outstanding r = false → r ∈ order → s.moment.asked.Sublist order →
      (s.ask r).moment.asked.Sublist order ∧ (∀ q, q ∈ (s.ask r).moment.asked ↔ q = r ∨ q ∈ s.moment.asked) ∧
        (s.ask r).moment.caused = s.moment.caused ∧ unchangedBut [.moment] s (s.ask r)) ∧
    (∀ (s : State) (r : Req), s.outstanding r = false →
      (s.cause r).moment.asked = s.moment.asked ∧ (s.cause r).moment.caused = s.moment.caused ++ [r] ∧
        unchangedBut [.moment] s (s.cause r)) ∧
    (∀ (s : State) (r : Req), s.outstanding r = true → s.ask r = s ∧ s.cause r = s) ∧
    (∀ (s : State) (r : Req), s.nextDue = some (.req r) →
      s.serveDue (.req r) =
        ({ s with moment := ⟨(requestsLeft s).1, (requestsLeft s).2, [], false⟩ }.perform r).arbitrate) ∧
    (∀ (s : State) (r : Req) (row : Instr) (n : LaneId), s.pending = [] → s.nextDue = some (.req r) →
      (r, row) ∈ [(Req.publish n, Instr.publish n), (.ret n, .ret n), (.take n, .take n), (.allocate n, .allocate n),
        (.snapshot, .snapshot), (.supWarning, .supWarning), (.supExpired, .supExpired), (.scrubRequest, .scrubRequest)] →
      step s = exec row s) ∧
    (∀ s : State, s.pending = [] → calm s →
      let stalled := s.port.stallCount + 1
      let ends := s.port.stallLimit ≠ 0 ∧ 16 * s.port.stallLimit.toNat ≤ stalled ∧ s.win.stage.isGranted = false
      let ticks := s.power ≠ .retain ∧ s.tb.prescale ≤ s.tb.prescaleCount + 1
      ∃ t, step s = .next t ∧
        t.tb = (if s.power = .retain then s.tb
          else if s.tb.prescale ≤ s.tb.prescaleCount + 1 then
            { s.tb with count := s.tb.count + 1, prescaleCount := 0 }
          else { s.tb with prescaleCount := s.tb.prescaleCount + 1 }) ∧
        (s.sweep.running = true →
          t.sweep = (if s.sweep.next + 1 < s.memWords then { s.sweep with next := s.sweep.next + 1 } else ⟨false, 0, true⟩) ∧
            (Memory.wf s.mem = true → s.sweep.next < s.memWords →
              t.mem.read s.sweep.next = ⟨0, 0⟩ ∧ otherWords s.sweep.next 1 s t)) ∧
        (s.sweep.running = false →
          t.mem = s.mem ∧ t.sweep = s.sweep ∧ (s.port.waiting = none → t.port = s.port) ∧
            ∀ w, s.port.waiting = some w →
              (¬ ends → t.port = { s.port with stallCount := stalled }) ∧
                (ends →
                  t.port = { s.port with
                    waiting := none, stallCount := 0, resp := .err, rdata := if w.access.write then none else some 0
                    err := latched s.port.err .timeout w.access } ∧
                  (s.sup.st ≠ .armed → raises [hostErrorEvent s .timeout w.access] s t))) ∧
        (s.sweep.running = false → s.port.waiting = none → ticks → step s = exec .timebaseTick s)) ∧
    ∀ s : State, s.pending = [] → calm s → s.power ≠ .retain → s.sweep.running = false → s.port.waiting = none →
      s.tb.prescaleCount + 1 < s.tb.prescale →
      ∃ t, step s = .next t ∧ t.tb = { s.tb with prescaleCount := s.tb.prescaleCount + 1 } ∧ t.moment = Moment.empty ∧
        unchangedBut [.tb, .moment] s t

/-- R25, R29, R33, R36 to R38, R42, R44, R45, R126, R174, R175: the Arbiter's decision changes only its own grant, rotation pointer and loss count,
the stage of a window read that it grants, and the request of a Scrubber that it grants; with a grant in progress, or with
grants not allowed, it changes nothing. The grant it makes is the one its decision gives; with no request nothing changes. A
granted lane becomes the rotation pointer, and any other grant leaves the pointer; the loss count returns to 0 with a grant of
the Scrubber, counts up to 255 with another's while the Scrubber's request stands, and is kept otherwise; a granted Scrubber's
request is no longer raised; a window read that is granted, and no other, passes from issued to granted. Grants are allowed exactly
outside RETAIN, with the init sweep over, with RSTN high, and with no reset due to take effect, a supervisor reset or a soft
reset whose write buffer is empty (that no grant is made once a reset is due is the model's choice: assumption 18). -/
def Obligations.ArbitrationOnlyGrants : Prop :=
  ∀ s : State,
    (s.grantsAllowed = true ↔
      s.power ≠ .retain ∧ s.sweep.running = false ∧ s.rst.pinHeld = false ∧ s.rst.supDue = false ∧
        (s.rst.softDue = true → s.win.buffer ≠ [])) ∧
    unchangedBut [.arb, .win, .scrub] s s.arbitrate ∧
      (s.arbitrate.arb.escalate = s.arb.escalate ∧ s.arbitrate.arb.hostFirst = s.arb.hostFirst) ∧
      s.arbitrate.win = { s.win with stage := s.arbitrate.win.stage } ∧
      s.arbitrate.scrub = { s.scrub with request := s.arbitrate.scrub.request } ∧
      ((s.arb.grant ≠ none ∨ s.grantsAllowed = false) → s.arbitrate = s) ∧
      (s.arb.grant = none → s.grantsAllowed = true → s.arbitrate.arb.grant = s.decision ∧
        (s.decision = none → s.arbitrate = s) ∧
        ∀ g, s.decision = some g →
          s.arbitrate.arb.pointer = (match g.who with
            | .ingress n | .egress n => n
            | _ => s.arb.pointer) ∧
          s.arbitrate.arb.lossCount =
            (if g.who = .scrub then 0
            else if s.scrub.request = true then BitVec.ofNat 8 (min 255 (s.arb.lossCount.toNat + 1))
            else s.arb.lossCount) ∧
          s.arbitrate.scrub.request = (s.scrub.request && g.who != .scrub) ∧
          s.arbitrate.win.stage = (match g.who, s.win.stage with
            | .winRead, .issued p => .granted p
            | _, stage => stage))

/-- R29, R34, R35, R37 to R40, R42, R143, R145, R146: with HOST_FIRST clear, a decision takes the first that is present of: the
escalated Scrubber, a lane with a high request, the Host Window, a lane with a low request, the Copy Engine, the Scrubber; with
HOST_FIRST set, the Host Window goes before them all. The Scrubber is escalated while its request stands, ESCALATE is not 0 and
the loss count is at least ESCALATE. A class of lanes has a winner exactly when some lane has a request of it; the winner is
granted its own request, and every lane that the rotation examines before it has none: the rotation starts at the lane after
the pointer and runs upward, from L3 to L0.

The requests. An ingress lane that fills a slot, moving and in RECEIVING, asks to write the run at its FIFO head, if there is
one, from base plus length on: high with at least MARK_HI words in the FIFO, low with at least MARK_LO or an EOF or unacted SOF
entry in it. An egress lane that sends a slot asks to fetch the least of 8, its FIFO's free space and the words not yet fetched,
if not 0, from base plus fetched on: high with at most MARK_HI words in the FIFO, low with at most MARK_LO. Neither asks while a
LANE_HALT waits for the lane's grant (the model's choice: assumption 15), and an ingress lane not while its publish is
outstanding. The Host Window asks to read its issued word, and otherwise to write the oldest entry of its buffer with those
behind it at rising addresses. The Copy Engine asks for the next burst of at most 8 words, a descending COPY for the highest one
not yet done; the Scrubber for the 8 words from its position. -/
def Obligations.DecisionFollowsTheClasses : Prop :=
  (∀ s : State,
    s.decision =
        (if s.arb.hostFirst then
          [s.windowRequest, if s.escalated then s.scrubGrant else none, s.laneWinner true, s.laneWinner false,
            s.engineRequest, s.scrubGrant]
        else
          [if s.escalated then s.scrubGrant else none, s.laneWinner true, s.windowRequest, s.laneWinner false,
            s.engineRequest, s.scrubGrant]).findSome? id ∧
      (s.escalated = true ↔
        s.scrub.request = true ∧ s.arb.escalate ≠ 0 ∧ s.arb.escalate.toNat ≤ s.arb.lossCount.toNat) ∧
      (rotation s.arb.pointer).map Fin.val = (List.range 4).map (fun k => (s.arb.pointer.val + 1 + k) % 4) ∧
      ∀ high : Bool,
        (s.laneWinner high = none ↔ ∀ n q, s.laneRequest n = some q → q.high ≠ high) ∧
        ∀ g : Grant, s.laneWinner high = some g →
          ∃ before n after, rotation s.arb.pointer = before ++ n :: after ∧ s.laneRequest n = some ⟨high, g⟩ ∧
            ∀ m ∈ before, ∀ q, s.laneRequest m = some q → q.high ≠ high) ∧
    (∀ (s : State) (n : LaneId),
      let l := s.lane n
      (l.cfg.dir = .none ∨ l.cur = none → s.laneRequest n = none) ∧
        (∀ i, l.cfg.dir = .ingress → l.cur = some i →
          let slot := s.slot i
          let may := l.moving = true ∧ l.sub = .receiving ∧ s.outstanding (.publish n) = false ∧ ¬ haltWaits s n
          let low := l.markLo ≤ l.fifo.length ∨ ∃ e ∈ l.fifo, e.eof = true ∨ e.sof = true ∧ e.acted = false
          ∃ run, isRun (min 8 (slot.capacity - slot.length)) l.fifo run ∧
            (may → 0 < run → l.markHi ≤ l.fifo.length →
              s.laneRequest n = some ⟨true, ⟨.ingress n, slot.base + slot.length, run⟩⟩) ∧
            (may → 0 < run → l.fifo.length < l.markHi → low →
              s.laneRequest n = some ⟨false, ⟨.ingress n, slot.base + slot.length, run⟩⟩) ∧
            (¬ may ∨ run = 0 ∨ l.fifo.length < l.markHi ∧ ¬ low → s.laneRequest n = none)) ∧
        (∀ i, l.cfg.dir = .egress → l.cur = some i →
          let size := min 8 (min (32 - l.fifo.length) (l.frameLen - l.fetched))
          let may := l.moving = true ∧ l.sub = .sending ∧ 0 < size ∧ ¬ haltWaits s n
          (may → l.fifo.length ≤ l.markHi →
            s.laneRequest n = some ⟨true, ⟨.egress n, (s.slot i).base + l.fetched, size⟩⟩) ∧
          (may → l.markHi < l.fifo.length → l.fifo.length ≤ l.markLo →
            s.laneRequest n = some ⟨false, ⟨.egress n, (s.slot i).base + l.fetched, size⟩⟩) ∧
          (¬ may ∨ l.markHi < l.fifo.length ∧ l.markLo < l.fifo.length → s.laneRequest n = none))) ∧
    (∀ s : State,
      (∀ p, s.win.stage = .issued p → s.windowRequest = some ⟨.winRead, s.win.ptr p, 1⟩) ∧
        (∀ p, s.win.stage = .granted p → s.windowRequest = none) ∧
        ((s.win.stage = .none ∨ ∃ p, s.win.stage = .awaitDrain p) →
          (s.win.buffer = [] → s.windowRequest = none) ∧
          ∀ x rest, s.win.buffer = x :: rest →
            ∃ k, s.windowRequest = some ⟨.winWrite, x.1, k⟩ ∧ 0 < k ∧
              (s.win.buffer.take k).map Prod.fst = (List.range k).map (x.1 + ·) ∧
              ∀ y, (s.win.buffer.drop k).head? = some y → y.1 ≠ x.1 + k) ∧
        s.scrubGrant = (if s.scrub.request then some ⟨.scrub, s.scrub.pos, 8⟩ else none)) ∧
    ∀ s : State,
      let done := s.eng.wordsDone
      (s.eng.cmd = none ∨ s.eng.phase = .idle ∨ s.eng.phase = .holding → s.engineRequest = none) ∧
        (∀ src dst count, s.eng.cmd = some (.copy src dst count) →
          let left := count - done
          let first := if s.eng.descending then 8 * ((left - 1) / 8) else done
          let size := if s.eng.descending then (left - 1) % 8 + 1 else min 8 left
          (left = 0 → s.engineRequest = none) ∧
          (0 < left → s.eng.phase = .readWait → s.engineRequest = some ⟨.copyRead, src + first, size⟩) ∧
          (0 < left → s.eng.phase = .writeWait → s.engineRequest = some ⟨.copyWrite, dst + first, size⟩)) ∧
        (∀ dst count pattern step, s.eng.cmd = some (.fill dst count pattern step) →
          (s.eng.phase = .readWait ∨ count ≤ done → s.engineRequest = none) ∧
          (s.eng.phase = .writeWait → done < count →
            s.engineRequest = some ⟨.fill, dst + done, min 8 (count - done)⟩)) ∧
        ∀ i, s.eng.cmd = some (.measure i) →
          (s.eng.phase = .writeWait ∨ (s.slot i).length ≤ done → s.engineRequest = none) ∧
          (s.eng.phase = .readWait → done < (s.slot i).length →
            s.engineRequest = some ⟨.measure, (s.slot i).base + done, min 8 ((s.slot i).length - done)⟩)

/-! ## Invariants that every step keeps -/

/-- The canonical form of the memory is kept by every step that answers a next state. The form, a list of rising addresses that
leaves out the words that hold 0 undisturbed, is the model's choice (assumption 4); the manual has no such list. -/
def Obligations.StepKeepsMemoryForm : Prop :=
  ∀ s t : State, Memory.wf s.mem = true → step s = .next t → Memory.wf t.mem = true

/-- The memory of the reset state has the canonical form, lists nothing, and so reads as 0 at every address: the model's choice,
assumption 4. -/
def Obligations.ResetMemoryForm : Prop :=
  Memory.wf State.reset.mem = true ∧ State.reset.mem = [] ∧ ∀ a : Nat, (State.reset.mem.read a).delivered = 0

/-- R163: the stored priorities of the in-service stack rise strictly from the bottom to the top, and so it holds at most
four entries; every step keeps both. -/
def Obligations.StepKeepsInServiceRising : Prop :=
  ∀ s t : State, (s.irq.stack.map InService.prio).Pairwise (· < ·) → step s = .next t →
    (t.irq.stack.map InService.prio).Pairwise (· < ·) ∧ t.irq.stack.length ≤ 4

/-- R13, R26: once set, the configuration lock stays set at every command but a power-on reset and a pin reset; once set,
INITIALIZED stays set at every command but a power-on reset, and the init sweep does not run again. -/
def Obligations.LockAndInitializedStaySet : Prop :=
  (∀ (c : Instr) (s t : State), s.port.lock = true → exec c s = .next t → (∀ b, c ≠ .powerOnReset b) →
    (∀ k, c ≠ .pinReset k) → t.port.lock = true) ∧
    (∀ (c : Instr) (s t : State), s.sweep.initialized = true → s.sweep.running = false → exec c s = .next t →
      (∀ b, c ≠ .powerOnReset b) → t.sweep.initialized = true ∧ t.sweep.running = false)

/-- R11, R41, R166, R171: TB_PRESCALE stays from 1 to 4,096, SUP_TIMEOUT is never 0, and both marks of every lane stay at
most 32; every step keeps these ranges. -/
def Obligations.StepKeepsConfigRanges : Prop :=
  let ranges : State → Prop := fun s =>
    1 ≤ s.tb.prescale ∧ s.tb.prescale ≤ 4096 ∧ s.sup.timeout ≠ 0 ∧ ∀ n, (s.lane n).markLo ≤ 32 ∧ (s.lane n).markHi ≤ 32
  ranges State.reset ∧ ∀ s t : State, ranges s → step s = .next t → ranges t

/-! ## Raising events (R150 to R154) -/

/-- R150, R152 to R154: an event of group g, other than a completion record, raised while no window closes, sets g's pending
flag and no other; with g's log enable on it takes the next sequence number, and is appended at the tail with it while
occupied plus reserved entries are below 32, and otherwise counted lost; with the enable off the log does not change.

R138, R152, R156: a completion record sets the COMMAND flag alone and is always appended, whatever the enables and the room: its
command gives up its place in the queue, so occupied plus reserved entries stay as many. While a window closes, an event sets its
flag and is held back, in order, the reservation of a completion record with it. With the closing, SUP_SEQUENCE_ERROR and behind it
every event held back, in order, that is a completion record or whose group's log enable is on, takes a number and is appended,
all of them where the log has room; without, each is appended or counted lost, a completion record never lost, and none lost
but in a log that ends full. That events wait for the closing is the model's mechanism: assumption 12. -/
def Obligations.RaisedEventIsFlaggedAndLogged : Prop :=
  (∀ (s : State) (e : Event) (g : Group), e.group = some g → e.kind ≠ .commandDone → s.closingDue = false →
    (∀ h : Group, (s.raise e).irq.flag h = (s.irq.flag h || h == g)) ∧
      (s.raise e).irq = { s.irq with flags := (s.raise e).irq.flags } ∧
      (s.raise e).log =
        (if s.log.enable.getLsbD g.val = false then s.log
        else if s.log.records.length + s.reserved < 32 then
          { s.log with records := s.log.records ++ [⟨s.log.nextSeq, e⟩], nextSeq := s.log.nextSeq + 1 }
        else
          { s.log with
            nextSeq := s.log.nextSeq + 1, lost := plus s.log.lost 1, overflow := plus s.log.overflow 1 }) ∧
      unchangedBut [.log, .irq] s (s.raise e)) ∧
    (∀ (s : State) (e : Event), e.group = some 4 → e.kind = .commandDone → s.closingDue = false →
      (∀ h : Group, (s.raise e).irq.flag h = (s.irq.flag h || h == 4)) ∧
        (s.raise e).irq = { s.irq with flags := (s.raise e).irq.flags } ∧
        (s.raise e).log =
          { s.log with records := s.log.records ++ [⟨s.log.nextSeq, e⟩], nextSeq := s.log.nextSeq + 1 } ∧
        unchangedBut [.log, .irq] s (s.raise e)) ∧
    (∀ (s : State) (first : CmdEntry) (rest : List CmdEntry) (res : Result) (value : Nat) (slot : Option SlotId),
      s.cmd.queue = first :: rest →
      let t := s.recordDone first res value slot
      t.cmd = { s.cmd with queue := rest } ∧
        t.log.records.length + t.reserved = s.log.records.length + s.reserved ∧ unchangedBut [.cmd, .log, .irq] s t) ∧
    ∀ s : State, s.closingDue = true →
      (∀ (e : Event) (g : Group), e.group = some g →
        (∀ h : Group, (s.raise e).irq.flag h = (s.irq.flag h || h == g)) ∧
          (s.raise e).log = { s.log with heldBack := s.log.heldBack ++ [e] } ∧
          unchangedBut [.log, .irq] s (s.raise e)) ∧
        let t := s.closeWindow
        let logged (e : Event) : Bool :=
          e.kind == .commandDone || match e.group with
            | none => false
            | some g => s.log.enable.getLsbD g.val
        let offered : List Event :=
          (⟨.supSequenceError, some 7, 10, none, s.tb.count, 2⟩ :: s.log.heldBack).filter logged
        t.log.heldBack = [] ∧ (∀ h : Group, t.irq.flag h = (s.irq.flag h || h == 7)) ∧
          ∃ (recs : List Record) (lost : Nat),
            t.log = { s.log with
              heldBack := [], records := s.log.records ++ recs, nextSeq := s.log.nextSeq + BitVec.ofNat 8 offered.length
              lost := plus s.log.lost lost, overflow := plus s.log.overflow lost } ∧
            (recs.map Record.ev).Sublist offered ∧ recs.length + lost = offered.length ∧
            (∀ e ∈ s.log.heldBack, e.kind = .commandDone → ∃ x ∈ recs, x.ev = e) ∧
            (lost ≠ 0 → 32 ≤ t.log.records.length + t.reserved) ∧
            ((s.log.records.length + s.reserved +
                offered.countP (fun e => e.kind != .commandDone) ≤ 32) → recs.map Record.ev = offered)

/-! ## Host accesses (chapter 1) -/

/-- R3, R134: the reason of the check that fails first. An unmapped address is BAD_ADDRESS in every state; in RETAIN every
register but 0x00 to 0x02, 0x04, 0x47 and 0x48 is POWER; during the init sweep an access of 0x12 or 0x15 and a write of 0x24
are INIT; a write of a read-only register is READ_ONLY; a write of a lock-protected register under the lock is LOCKED; a write
that the register's block does not allow is STATE; a window pointer beyond the memory and a slot index above 63 are
BAD_ADDRESS; a CMD_ISSUE with four commands queued or no log entry left, counting the record of a window that its response
closes (R134), is REFUSED. -/
def Obligations.ChecksDecideInOrder : Prop :=
  ∀ (s : State) (addr : BitVec 8) (write : Bool) (data : Word),
    let mapped : List Nat :=
      List.range 9 ++ (List.range 7).map (0x10 + ·) ++ (List.range 7).map (0x20 + ·) ++ (List.range 11).map (0x30 + ·) ++
        (List.range 9).map (0x40 + ·) ++ (List.range 6).map (0x50 + ·) ++ (List.range 3).map (0x60 + ·) ++
        (List.range 4).flatMap fun n => (List.range 9).map fun o => 0x80 + 0x10 * n + o
    let readOnly : List Nat :=
      [0x00, 0x01, 0x04, 0x16, 0x25, 0x30, 0x31, 0x33, 0x37, 0x39, 0x40, 0x46, 0x48, 0x50, 0x51, 0x52, 0x53, 0x55, 0x61] ++
        (List.range 4).flatMap fun n => [4, 5, 6, 8].map fun o => 0x80 + 0x10 * n + o
    let locked : List Nat :=
      [0x07, 0x08, 0x41, 0x42, 0x43, 0x54] ++
        (List.range 4).flatMap fun n => (List.range 4).map fun o => 0x80 + 0x10 * n + o
    let a := addr.toNat
    let fails := s.accessFails ⟨addr, write, data⟩
    (a ∉ mapped → fails = some .badAddress) ∧
      (a ∈ mapped → s.power = .retain → a ∉ [0x00, 0x01, 0x02, 0x04, 0x47, 0x48] → fails = some .power) ∧
      (s.power ≠ .retain → s.sweep.running = true → (a = 0x12 ∨ a = 0x15 ∨ (a = 0x24 ∧ write = true)) →
        fails = some .init) ∧
      (a ∈ mapped → (s.power = .retain → a ∈ [0x00, 0x01, 0x02, 0x04, 0x47, 0x48]) →
        (s.sweep.running = true → a ≠ 0x12 ∧ a ≠ 0x15 ∧ (a = 0x24 → write = false)) →
        (write = false → fails = none) ∧
        (write = true →
          (a ∈ readOnly → fails = some .readOnly) ∧
          (a ∈ locked → s.port.lock = true → fails = some .locked) ∧
          (a ∉ readOnly → (a ∈ locked → s.port.lock = false) →
            (a = 0x38 → fails = if s.irq.stack = [] then some .state else none) ∧
            (a = 0x06 → fails = if s.port.resetArm then none else some .state) ∧
            (a = 0x47 → fails = if s.powerAllowed (Power.ofCode (data.toNat % 4)) then none else some .state) ∧
            (∀ n : LaneId,
              (a = 0x80 + 0x10 * n.val →
                fails =
                  if (s.lane n).moving = true ∨
                      Dir.ofCode (data.toNat % 4) ≠ (s.lane n).cfg.dir ∧ s.givesUpNothing n = false then some .state
                  else none) ∧
                (a = 0x81 + 0x10 * n.val ∨ a = 0x82 + 0x10 * n.val ∨ a = 0x83 + 0x10 * n.val →
                  fails = if (s.lane n).moving then some .state else none)) ∧
            ((a = 0x10 ∨ a = 0x13) → fails = if s.memWords ≤ data.toNat then some .badAddress else none) ∧
            (a = 0x60 → fails = if 63 < data.toNat then some .badAddress else none) ∧
            (a ∉ [0x06, 0x10, 0x13, 0x24, 0x38, 0x47, 0x60] → (a < 0x80 ∨ 3 < a % 16) → fails = none) ∧
            (a = 0x24 →
              fails = if 4 ≤ s.cmd.queue.length ∨ 32 ≤ s.log.records.length + s.reserved + closingRecord s then some .refused
                else none))))

/-- R9, R10: an access that fails a check ends ERR at once; a read returns 0; HOST_ERR takes the reason, the address and the
direction, counts, and is marked OVERRUN where an earlier reason stood; HOST_ERROR is raised; an open window counts the
transaction; the reset arm is cleared; nothing else changes. -/
def Obligations.RefusedAccessLatchesItsReason : Prop :=
  ∀ (s : State) (addr : BitVec 8) (data : Word) (reason : Reason), quiet s →
    (s.accessFails ⟨addr, true, data⟩ = some reason →
      ∃ r, exec (.registerWrite addr data) s = .next r.arbitrate ∧ refusedWith s r reason ⟨addr, true, data⟩ ∧
        unchangedBut [.port, .sup, .log, .irq, .moment] s r) ∧
      (s.accessFails ⟨addr, false, 0⟩ = some reason →
        ∃ r, exec (.registerRead addr) s = .next r.arbitrate ∧ refusedWith s r reason ⟨addr, false, 0⟩ ∧
          unchangedBut [.port, .sup, .log, .irq, .moment] s r)

/-- R9, R13, R14: a write of any value to HOST_ERR ends OK in every power state and clears the record: reason NONE, address 0,
direction READ, OVERRUN clear, count 0. Outside RETAIN, a write of CFG_LOCK ends OK, a 1 sets the lock, and a 0 leaves it as it
was; a write of RESET_ARM sets the reset arm; a write of RESET_GO while the arm is set makes a soft reset due, clears the arm,
and the port accepts no more requests. -/
def Obligations.PortRegistersTakeWrites : Prop :=
  (∀ (s : State) (data : Word), quiet s →
    ∃ r, exec (.hostErrWrite data) s = .next r.arbitrate ∧
      r.port = { answered s.port .ok none with err := ⟨none, 0, false, false, 0⟩ } ∧ r.sup = counted s.sup ∧
      r.moment = Moment.empty ∧ unchangedBut [.port, .sup, .moment] s r) ∧
    (∀ (s : State) (data : Word), quiet s → s.power ≠ .retain →
      ∃ r, exec (.cfgLockWrite data) s = .next r.arbitrate ∧
        r.port = { answered s.port .ok none with lock := s.port.lock || data.getLsbD 0 } ∧ r.sup = counted s.sup ∧
        r.moment = Moment.empty ∧ unchangedBut [.port, .sup, .moment] s r) ∧
    (∀ (s : State) (data : Word), quiet s → s.power ≠ .retain →
      (∃ r, exec (.resetArm data) s = .next r.arbitrate ∧
        r.port = { answered s.port .ok none with resetArm := true } ∧ r.sup = counted s.sup ∧ r.moment = Moment.empty ∧
        unchangedBut [.port, .sup, .moment] s r) ∧
        (s.port.resetArm = true →
          ∃ r, exec (.resetGo data) s = .next r.arbitrate ∧ answeredOk s r none ∧
            r.rst = { s.rst with softDue := true } ∧ r.accepting = false ∧
            unchangedBut [.port, .sup, .moment, .rst] s r))

/-- R3, R12: a read of a mapped register without a side effect, allowed in the present state, ends OK with the register's value
and changes nothing.

R75, R140, R158, R177, R182, R183: the packed values, for fields within their ranges. CMD_STATUS: 0 with no command; DEPTH less
1, HEAD_STATE (1 READY, or 2 FENCED behind a write buffer that is not empty) or the executing command with ABORT_PENDING in bit
4, HEAD_TAG, HEAD_CODE or PROGRESS. IRQ_INSERVICE: the depth and the entries, bottom first. HOST_ERR: the reason code, the
address, the direction, OVERRUN, COUNT. EVT_STATUS: OCCUPIED, RESERVED, LOST_PENDING, WORDSEL. RESET_CAUSE: the cause and the
count. LN_STATUS: STATE, SUBSTATE, FIFO_LEVEL, NEXT_SEQUENCE. LN_QUEUES: FREE_LIST, READY_QUEUE and OWNED of an ingress lane,
SUBMIT_QUEUE of an egress lane. SUP_STATUS: STATE, SAFE, WINDOW_LEFT while ARMED, COUNTER; and so on for the registers of chapter
11 that are named below. A read of SUP_STATUS while ARMED shows WINDOW_LEFT before that read is counted: the model's choice,
assumption 37. -/
def Obligations.PlainReadHasNoSideEffect : Prop :=
  (∀ (s : State) (addr : BitVec 8) (reg : Reg), quiet s → decodeReg addr = some reg →
    s.accessFails ⟨addr, false, 0⟩ = none → (∀ p, reg ≠ .winData p) →
    reg ∉ [.evtData, .evtLost, .irqVector, .eccCorrCount, .eccUncorrCount, .slotData] → (∀ n, reg ≠ .lnCntData n) →
    ∃ r, exec (.registerRead addr) s = .next r.arbitrate ∧ answeredOk s r (some (s.regValue reg)) ∧
      unchangedBut [.port, .sup, .moment] s r) ∧
    ∀ s : State,
      let value (reg : Reg) : Nat := (s.regValue reg).toNat
      let depth := s.cmd.queue.length
      let reasons : List Reason :=
        [.badAddress, .readOnly, .locked, .state, .denied, .ecc, .timeout, .refused, .init, .power, .reset]
      (s.cmd.queue = [] → value .cmdStatus = 0) ∧
        (∀ e rest, s.cmd.queue = e :: rest → depth ≤ 4 → s.eng.cmd = none →
          value .cmdStatus = packed
            [(depth - 1, 0), (if s.cmd.haltDeferred = false ∧ s.win.buffer ≠ [] then 2 else 1, 2), (e.tag.toNat, 6),
              (e.code.toNat, 14)]) ∧
        (∀ e rest, s.cmd.queue = e :: rest → ∀ c, depth ≤ 4 → s.eng.wordsDone < 262144 → s.eng.cmd = some c →
          value .cmdStatus = packed
            [(depth - 1, 0), (match c with
                | .copy _ _ _ => 0
                | .fill _ _ _ _ => 1
                | .measure _ => 2, 2),
              (s.eng.abortPending.toNat, 4), (1, 5), (e.tag.toNat, 6), (s.eng.wordsDone, 14)]) ∧
        (s.irq.stack.length ≤ 4 →
          value .irqInService = packed
            ((s.irq.stack.length, 0) :: s.irq.stack.zipIdx.map fun x => (x.1.group.val + 8 * x.1.prio.val, 8 + 5 * x.2))) ∧
        value .hostErr = packed
          [(match s.port.err.reason with
              | none => 0
              | some reason => reasons.idxOf reason + 1, 0),
            (s.port.err.addr.toNat, 4), (s.port.err.write.toNat, 12), (s.port.err.overrun.toNat, 13),
            (s.port.err.count.toNat, 16)] ∧
        (s.log.records.length ≤ 32 → s.reserved ≤ 4 →
          value .evtStatus = packed
            [(s.log.records.length, 0), (s.reserved, 8), (if s.log.overflow = 0 then 0 else 1, 12), (s.log.wordSel.val, 16)]) ∧
        (s.log.heldBack = [] → s.reserved = depth) ∧
        value .resetCause = packed
          [([ResetKind.por, .pin, .sup, .soft].idxOf s.rst.cause + 1, 0), (s.rst.supCount.toNat, 8)] ∧
        (s.sup.windowCount ≤ 16 →
          value .supStatus = packed
            [([SupSt.off, .running, .armed].idxOf s.sup.st, 0), (s.sup.safeMode.toNat, 2),
              (if s.sup.st = .armed then 16 - s.sup.windowCount else 0, 4), (s.sup.counter.toNat, 16)]) ∧
        value .powerCtrl = [Power.run, .doze, .retain].idxOf s.power ∧ value .powerStatus = value .powerCtrl ∧
        value .memStatus = packed [(s.sweep.running.toNat, 0), (s.sweep.initialized.toNat, 1)] ∧
        (s.win.buffer.length ≤ 4 → value .winStatus = s.win.buffer.length) ∧
        (s.ecc.last.addr < 524288 →
          value .eccLastAddr = packed
            [(s.ecc.last.addr, 0), (match s.ecc.last.reader with
                | .lane n => n.val
                | .window => 4
                | .engine => 5
                | .scrubber => 6, 20),
              (s.ecc.last.valid.toNat, 31)]) ∧
        value .scrubCfg = packed
          [(s.scrub.n.toNat, 0), (s.scrub.enabled.toNat, 16), (s.scrub.passEvent.toNat, 17)] ∧
        (s.scrub.pos < 524288 → value .scrubPos = s.scrub.pos) ∧ s.regValue .tbCount = s.tb.count ∧
        (s.tb.prescale ≤ 4096 → value .tbPrescale = s.tb.prescale) ∧ value .slotSel = s.slotPort.sel.val ∧
        (∀ g : Group, (s.regValue .irqPending).getLsbD g.val = s.irq.flag g) ∧ value .irqPending < 256 ∧
        value .cfgLock = s.port.lock.toNat ∧
        (∀ reg ∈ [Reg.resetArm, .resetGo, .cmdIssue, .engineAbort, .irqEoi, .supArm, .supKick], s.regValue reg = 0) ∧
        ∀ n : LaneId,
          let l := s.lane n
          value (.lnCfg n) = packed
            [([Dir.none, .ingress, .egress].idxOf l.cfg.dir, 0), (l.cfg.backpressure.toNat, 4),
              ([IngressPolicy.dropNew, .overwriteOldest, .stall].idxOf l.cfg.inPolicy, 8),
              ([EgressPolicy.idle, .repeatLast, .emitFill].idxOf l.cfg.egPolicy, 12), (l.cfg.triggered.toNat, 16),
              (l.cfg.inspect.toNat, 17), (l.cfg.crcCheck.toNat, 18), (l.cfg.frameEvents.toNat, 19)] ∧
          value (.lnBind n) = (match l.binding with
            | none => 4
            | some m => m.val) ∧
          (l.fifo.length ≤ 32 →
            value (.lnStatus n) = packed
              [([LaneSt.off, .stopped, .running, .stopping].idxOf l.st, 0),
                (match l.sub with
                  | .idle => 0
                  | .receiving | .taking => 1
                  | .discarding | .sending => 2
                  | .stalled | .sendingFill => 3
                  | .closing => 4, 4),
                (l.fifo.length, 8), (l.nextSeq.toNat, 16)]) ∧
          (l.cfg.dir = .none → value (.lnQueues n) = 0) ∧
          (l.cfg.dir = .ingress → l.freeList.length ≤ 16 → l.readyQ.length ≤ 16 → s.owned n ≤ 16 →
            value (.lnQueues n) = packed [(l.freeList.length, 0), (l.readyQ.length, 8), (s.owned n, 24)]) ∧
          (l.cfg.dir = .egress → l.submitQ.length ≤ 8 → value (.lnQueues n) = packed [(l.submitQ.length, 16)])

/-- R11, R80, R180: a write of an ordinary register, allowed in the present state, ends OK and stores the register's
fields, clamped into their ranges, so that it reads back as `readBack` says; no other register's value changes, but for those
that show the register written (EVT_STATUS, EVT_DATA, IRQ_VECTOR, SLOT_DATA, LN_CNT_DATA) and the window count in SUP_STATUS;
in each group of the state nothing but the fields of its configuration registers changes. A field is clamped by its own bits,
the bits above it being unused, but a word above 15 written to LN_CNT_SEL is stored as 15: the model's reading, assumption 27. -/
def Obligations.OrdinaryWriteReadsBack : Prop :=
  ∀ (s : State) (addr : BitVec 8) (data : Word) (reg : Reg) (v : Nat), quiet s → decodeReg addr = some reg →
    readBack data reg = some v → s.accessFails ⟨addr, true, data⟩ = none →
    ∃ r, exec (.registerWrite addr data) s = .next r.arbitrate ∧ (r.regValue reg).toNat = v ∧
      (∀ other, other ≠ reg → other ∉ [.supStatus, .evtStatus, .evtData, .irqVector, .slotData] →
        (∀ n, other ≠ .lnCntData n) → r.regValue other = s.regValue other) ∧
      r.port = { answered s.port .ok none with stallLimit := r.port.stallLimit } ∧
      r.sup = { counted s.sup with
        warn := r.sup.warn, action := r.sup.action, safeFill := r.sup.safeFill, timeout := r.sup.timeout } ∧
      r.moment = Moment.empty ∧
      r.arb = { s.arb with escalate := r.arb.escalate, hostFirst := r.arb.hostFirst } ∧
      r.win = { s.win with
        ptrA := r.win.ptrA, ptrB := r.win.ptrB, strideA := r.win.strideA, strideB := r.win.strideB } ∧
      r.cmd = { s.cmd with arg0 := r.cmd.arg0, arg1 := r.cmd.arg1, arg2 := r.cmd.arg2, arg3 := r.cmd.arg3 } ∧
      r.log = { s.log with wordSel := r.log.wordSel, enable := r.log.enable } ∧
      r.irq = { s.irq with enable := r.irq.enable, prio := r.irq.prio } ∧
      r.slotPort = { s.slotPort with wordSel := r.slotPort.wordSel } ∧
      (∀ n, r.lane n = { s.lane n with
        markLo := (r.lane n).markLo, markHi := (r.lane n).markHi, fillLen := (r.lane n).fillLen
        fillWord := (r.lane n).fillWord, cntSel := (r.lane n).cntSel }) ∧
      unchangedBut [.port, .sup, .moment, .arb, .win, .cmd, .log, .irq, .slotPort, .lanes] s r

/-- R12, R22, R23, R80, R154: outside RETAIN, a read of EVT_LOST, ECC_CORR_COUNT, ECC_UNCORR_COUNT or LN_CNT_DATA ends OK with
the count and clears it; the read of ECC_CORR_COUNT also arms the correction report; LN_CNT_DATA is the counter that
LN_CNT_SEL names, 0 for an index that names none, and the lane's other counters keep their values. -/
def Obligations.CountersClearWhenRead : Prop :=
  ∀ s : State, quiet s → s.power ≠ .retain →
    (∃ r, exec .evtLostRead s = .next r.arbitrate ∧ answeredOk s r (some (s.log.lost.setWidth 32)) ∧
      r.log = { s.log with lost := 0 } ∧ unchangedBut [.port, .sup, .moment, .log] s r) ∧
      (∃ r, exec .eccCorrCountRead s = .next r.arbitrate ∧ answeredOk s r (some (s.ecc.corrCount.setWidth 32)) ∧
        r.ecc = { s.ecc with corrCount := 0, reportArmed := true } ∧ unchangedBut [.port, .sup, .moment, .ecc] s r) ∧
      (∃ r, exec .eccUncorrCountRead s = .next r.arbitrate ∧
        answeredOk s r (some (s.ecc.uncorrCount.setWidth 32)) ∧ r.ecc = { s.ecc with uncorrCount := 0 } ∧
        unchangedBut [.port, .sup, .moment, .ecc] s r) ∧
      ∀ n : LaneId, ∃ r, exec (.lnCntDataRead n) s = .next r.arbitrate ∧
        answeredOk s r (some ((counterAt (s.lane n).counters (s.lane n).cntSel.toNat).setWidth 32)) ∧
        r.lane n = { s.lane n with counters := (r.lane n).counters } ∧
        (∀ k : Nat, counterAt (r.lane n).counters k =
          if k = (s.lane n).cntSel.toNat then 0 else counterAt (s.lane n).counters k) ∧
        otherLanes n s r ∧ unchangedBut [.port, .sup, .moment, .lanes] s r

/-! ## Timeout and abort -/

/-- R5, R128: with a stall limit, a waiting transaction whose window read has not been granted ends ERR TIMEOUT as its stall
count runs out: HOST_ERR is latched with its access, HOST_ERROR is raised, a window read leaves its stage, and nothing else
changes: no pointer moves, nothing is posted, the power state stays, and every request of the moment stands. -/
def Obligations.TimeoutEndsTheWait : Prop :=
  ∀ (s : State) (w : Wait), s.urgentDue = false → s.port.stallLimit ≠ 0 → s.port.waiting = some w →
    s.win.stage.isGranted = false →
    let a : Access :=
      match w with
      | .winRead p => ⟨winDataAddr p, false, 0⟩
      | .winWrite p d => ⟨winDataAddr p, true, d⟩
      | .slotData => ⟨0x61, false, 0⟩
      | .retain => ⟨0x47, true, 2⟩
    ∃ r, exec .timeout s = .next r ∧
      r.port = { s.port with
        waiting := none, stallCount := 0, resp := .err, rdata := if a.write then none else some 0
        err := latched s.port.err .timeout a } ∧
      r.sup = counted s.sup ∧ raises [hostErrorEvent s .timeout a] s r ∧
      r.win = { s.win with stage := match w with
        | .winRead _ => .none
        | _ => s.win.stage } ∧
      r.moment.asked = s.moment.asked ∧ r.moment.caused = s.moment.caused ∧
      unchangedBut [.port, .sup, .log, .irq, .win, .moment] s r

/-- R6: the assertion of H_ABT ends a waiting transaction, whose window read has not been granted, with ABORTED: no error is
latched and no event raised; a window read leaves its stage; an open window counts the transaction. With no transaction
waiting, or with H_ABT already sampled asserted, a sample changes nothing but the level last sampled. -/
def Obligations.AbortEndsTheWait : Prop :=
  ∀ s : State, s.urgentDue = false →
    (∀ w, s.port.abt = false → s.port.waiting = some w → s.win.stage.isGranted = false →
      ∃ r, exec (.abort true) s = .next r ∧
        r.port = { s.port with
          abt := true, waiting := none, stallCount := 0, resp := .aborted
          rdata := if w.access.write then none else some 0 } ∧
        r.sup = counted s.sup ∧
        r.win = { s.win with stage := match w with
          | .winRead _ => .none
          | _ => s.win.stage } ∧
        unchangedBut [.port, .sup, .win] s r) ∧
      ∀ level, (level = false ∨ s.port.abt = true ∨ s.port.waiting = none) →
        exec (.abort level) s = .next { s with port := { s.port with abt := level } }

/-! ## The slot record read port (R71, R72) -/

/-- R71, R72: outside RETAIN, a write of SLOT_SEL with an index up to 63 ends OK, selects the slot, sets SLOT_WORDSEL to 0
and requests a snapshot, the moment staying open to a grant's end (the model's choice, assumption 7); the snapshot, when it
is served, copies the selected record's nine words into the shadow, and answers a SLOT_DATA read that waits with the word at
SLOT_WORDSEL; a SLOT_DATA read with no snapshot outstanding ends OK with that word, and the selector advances by 1, wrapping
from 8 to 0; with one outstanding it waits.

R50, R73: the nine words of a record: state, owner, holder and flags; base; capacity; length; sequence and repeats;
timestamp; and crc, ones, and lead zeros with ALL_ZERO, all three 0 without statistics. The holder is the lane that has the
slot in a queue, its current place or its linger place, for a READY, DRAINING or LINGER slot that one has, and otherwise
none. -/
def Obligations.SlotPortSnapshotsAndReads : Prop :=
  (∀ (s : State) (data : Word), quiet s → s.power ≠ .retain → ∀ h : data.toNat < 64,
    ∃ r, exec (.slotSelWrite data) s = .next r.arbitrate ∧ r.port = answered s.port .ok none ∧ r.sup = counted s.sup ∧
      r.slotPort = { s.slotPort with sel := ⟨data.toNat, h⟩, wordSel := 0 } ∧ r.moment = ⟨[.snapshot], [], s.opening .host, false⟩ ∧
      unchangedBut [.port, .sup, .slotPort, .moment] s r) ∧
    (∀ s : State, s.nextDue = some (.req .snapshot) →
      (s.port.waiting ≠ some .slotData →
        ∃ r, exec .snapshot s = .next r.arbitrate ∧
          r.slotPort = { s.slotPort with shadow := s.slotWords s.slotPort.sel } ∧
          unchangedBut [.slotPort, .moment] s r) ∧
        (s.port.waiting = some .slotData →
          ∃ r, exec .snapshot s = .next r.arbitrate ∧
            r.port = { s.port with
              waiting := none, stallCount := 0, resp := .ok
              rdata := some ((s.slotWords s.slotPort.sel).get s.slotPort.wordSel) } ∧
            r.sup = counted s.sup ∧
            r.slotPort = { s.slotPort with
              shadow := s.slotWords s.slotPort.sel, wordSel := s.slotPort.wordSel + 1 } ∧
            unchangedBut [.port, .sup, .slotPort, .moment] s r)) ∧
    (∀ s : State, quiet s → s.power ≠ .retain →
      ∃ r, exec .slotDataRead s = .next r.arbitrate ∧
        answeredOk s r (some (s.slotPort.shadow.get s.slotPort.wordSel)) ∧
        r.slotPort = { s.slotPort with wordSel := s.slotPort.wordSel + 1 } ∧
        unchangedBut [.port, .sup, .slotPort, .moment] s r) ∧
    (∀ s : State, s.port.waiting = none → s.accepting = true → s.urgentDue = false → s.power ≠ .retain →
      s.outstanding .snapshot = true →
      ∃ r, exec .slotDataRead s = .next r.arbitrate ∧ r.port = holding s.port .slotData ∧ unchangedBut [.port] s r) ∧
    ∀ (s : State) (i : SlotId),
      let slot := s.slot i
      let words := s.slotWords i
      let has (n : LaneId) : Prop :=
        slot.st = .ready ∧ (i ∈ (s.lane n).readyQ ∨ i ∈ (s.lane n).submitQ) ∨
          slot.st = .draining ∧ (s.lane n).cur = some i ∨ slot.st = .linger ∧ (s.lane n).linger = some i
      (s.holder i = none ↔ ∀ n, ¬ has n) ∧ (∀ n, s.holder i = some n → has n) ∧
        (words.get 0).toNat = packed
          [([SlotSt.unassigned, .free, .filling, .ready, .draining, .linger, .claimed, .quarantined].idxOf slot.st, 0),
            (([Owner.none, .lane 0, .lane 1, .lane 2, .lane 3, .host] : List Owner).idxOf slot.owner, 4),
            (match s.holder i with
              | none => 0
              | some n => n.val + 1, 8),
            (slot.flags.truncated.toNat, 12), (slot.flags.cut.toNat, 13), (slot.flags.wordsLost.toNat, 14),
            (slot.flags.eccFixed.toNat, 15), (slot.flags.eccBad.toNat, 16), (slot.flags.repeated.toNat, 17),
            (slot.flags.hostBuilt.toNat, 18), (slot.stats.isSome.toNat, 19), (slot.flags.crcMismatch.toNat, 20)] ∧
        words.get 1 = BitVec.ofNat 32 slot.base ∧ words.get 2 = BitVec.ofNat 32 slot.capacity ∧
        words.get 3 = BitVec.ofNat 32 slot.length ∧
        (words.get 4).toNat = packed [(slot.seq.toNat, 0), (slot.repeats.toNat, 16)] ∧ words.get 5 = slot.stamp ∧
        (slot.stats = none → words.get 6 = 0 ∧ words.get 7 = 0 ∧ words.get 8 = 0) ∧
        ∀ x, slot.stats = some x →
          words.get 6 = x.crc ∧ words.get 7 = BitVec.ofNat 32 x.ones ∧
            (x.leadZeros < 4194304 → (words.get 8).toNat = packed [(x.leadZeros, 0), (x.allZero.toNat, 31)])

/-! ## The Host Window (chapter 7) -/

/-- R54, R122: a word is host-accessible exactly when every slot whose region holds it is UNASSIGNED, CLAIMED, QUARANTINED, or
FREE without being owned by a lane; a range of words is accessible to COPY and FILL (R142, R145) exactly when every word of it is
host-accessible. A pointer below the memory size advances to the address below it that differs from pointer
plus stride by a multiple of the memory size. -/
def Obligations.AccessibleWordsAndPointerSteps : Prop :=
  (∀ (s : State) (a : Nat), s.hostAccessible a = true ↔
    ∀ i : SlotId, (s.slot i).base ≤ a → a < (s.slot i).base + (s.slot i).capacity →
      (s.slot i).st ∈ [.unassigned, .claimed, .quarantined] ∨
        ((s.slot i).st = .free ∧ ∀ n, (s.slot i).owner ≠ .lane n)) ∧
    (∀ (s : State) (a count : Nat), s.rangeAccessible a count = true ↔
      ∀ b, a ≤ b → b < a + count → s.hostAccessible b = true) ∧
    (∀ (part : Part) (ptr : Nat) (stride : BitVec 8), ptr < part.memWords →
      let new := advanced part.memWords ptr stride
      new < part.memWords ∧ ∃ k : Int, (new : Int) = (ptr : Int) + stride.toInt + k * (part.memWords : Int))

/-- R123, R124: outside RETAIN and the init sweep, a write of WIN_DATA with room in the write buffer is checked: to a word that
is host-accessible it is posted at the pointer's address, ends OK, and the pointer advances; otherwise it ends ERR DENIED and
nothing is posted. With the buffer full it waits. -/
def Obligations.WindowWriteIsPosted : Prop :=
  ∀ (s : State) (p : Ptr) (data : Word), quiet s → s.power ≠ .retain → s.sweep.running = false →
    (s.win.buffer.length < 4 → s.hostAccessible (s.win.ptr p) = true →
      ∃ r, exec (.winDataWrite p data) s = .next r.arbitrate ∧ answeredOk s r none ∧
        r.win = (match p with
          | .a => { s.win with
              buffer := s.win.buffer ++ [(s.win.ptrA, data)], ptrA := advanced s.memWords s.win.ptrA s.win.strideA }
          | .b => { s.win with
              buffer := s.win.buffer ++ [(s.win.ptrB, data)], ptrB := advanced s.memWords s.win.ptrB s.win.strideB }) ∧
        unchangedBut [.port, .sup, .moment, .win] s r) ∧
      (s.win.buffer.length < 4 → s.hostAccessible (s.win.ptr p) = false →
        ∃ r, exec (.winDataWrite p data) s = .next r.arbitrate ∧
          refusedWith s r .denied ⟨winDataAddr p, true, data⟩ ∧
          unchangedBut [.port, .sup, .log, .irq, .moment] s r) ∧
      (4 ≤ s.win.buffer.length →
        ∃ r, exec (.winDataWrite p data) s = .next r.arbitrate ∧ r.port = holding s.port (.winWrite p data) ∧
          r.moment = Moment.empty ∧ unchangedBut [.port, .moment] s r)

/-- R123, R126: outside RETAIN and the init sweep, a read of WIN_DATA with the write buffer empty is checked and issued, or
ends ERR DENIED; with an entry in the buffer it waits for the drain. No pointer moves. -/
def Obligations.WindowReadIsIssued : Prop :=
  ∀ (s : State) (p : Ptr), quiet s → s.power ≠ .retain → s.sweep.running = false →
    (s.win.buffer = [] → s.hostAccessible (s.win.ptr p) = true →
      ∃ r, exec (.winDataRead p) s = .next r.arbitrate ∧ r.port = holding s.port (.winRead p) ∧
        r.win = { s.win with stage := .issued p } ∧ r.moment = Moment.empty ∧
        unchangedBut [.port, .moment, .win] s r) ∧
      (s.win.buffer = [] → s.hostAccessible (s.win.ptr p) = false →
        ∃ r, exec (.winDataRead p) s = .next r.arbitrate ∧ refusedWith s r .denied ⟨winDataAddr p, false, 0⟩ ∧
          r.win = { s.win with stage := .none } ∧ unchangedBut [.port, .sup, .log, .irq, .moment, .win] s r) ∧
      (s.win.buffer ≠ [] →
        ∃ r, exec (.winDataRead p) s = .next r.arbitrate ∧ r.port = holding s.port (.winRead p) ∧
          r.win = { s.win with stage := .awaitDrain p } ∧ r.moment = Moment.empty ∧
          unchangedBut [.port, .moment, .win] s r)

/-! ## The Event Log's read port and the Interrupt Controller (chapter 9) -/

/-- R155, R157: outside RETAIN, a read of EVT_DATA ends OK. On an empty log it returns 0 and changes nothing; at selector 0 or
1 it returns that word of the head record and the selector advances; at selector 2 it returns the third word, the head record
is popped and the selector returns to 0, and a LOG_OVERFLOW record with the overflow count is appended where that count is not
0 and an entry is free, the count then being 0.

R151: the three words of a record: sequence number, kind, group (15 for none), slot index (127 for none) and source; the
timestamp; the detail. The result codes of a completion record are 0 OK to 11 ABORTED. -/
def Obligations.EventDataReadsAndPops : Prop :=
  (∀ s : State, quiet s → s.power ≠ .retain →
    (s.log.records = [] →
      ∃ r, exec .evtDataRead s = .next r.arbitrate ∧ answeredOk s r (some 0) ∧
        unchangedBut [.port, .sup, .moment] s r) ∧
      ∀ (first : Record) (rest : List Record), s.log.records = first :: rest →
        ∃ r, exec .evtDataRead s = .next r.arbitrate ∧ answeredOk s r (some (first.word s.log.wordSel)) ∧
          r.log =
            (if s.log.wordSel ≠ 2 then { s.log with wordSel := s.log.wordSel + 1 }
            else if s.log.overflow ≠ 0 ∧ rest.length + s.reserved < 32 then
              { s.log with
                records := rest ++
                  [⟨s.log.nextSeq, ⟨.logOverflow, none, 11, none, s.tb.count, s.log.overflow.setWidth 32⟩⟩]
                nextSeq := s.log.nextSeq + 1, wordSel := 0, overflow := 0 }
            else { s.log with records := rest, wordSel := 0 }) ∧
          unchangedBut [.port, .sup, .moment, .log] s r) ∧
    (∀ x : Record,
      let kinds : List Kind :=
        [.framePublished, .frameSent, .frameDropped, .frameOverwritten, .frameTruncated, .frameCut, .wordsLost, .strayWords,
          .slotStarved, .triggerMissed, .frameRepeated, .fillSent, .crcMismatch, .laneStopped, .laneHalted, .commandDone,
          .eccCorrected, .eccUncorrectable, .initDone, .scrubPass, .hostError, .supWarning, .supExpired, .supSequenceError,
          .logOverflow, .resetRecord]
      (x.word 0).toNat = packed
          [(x.seq.toNat, 0), (kinds.idxOf x.ev.kind + 1, 8),
            (match x.ev.group with
              | none => 15
              | some g => g.val, 13),
            (match x.ev.slot with
              | none => 127
              | some i => i.val, 17),
            (x.ev.source.toNat, 24)] ∧
        x.word 1 = x.ev.stamp ∧ x.word 2 = x.ev.detail) ∧
    ∀ res : Result, res.code =
      [Result.ok, .empty, .full, .badParam, .badState, .badConfig, .overlap, .locked, .denied, .notConsumer, .eccFault,
        .aborted].idxOf res

/-- R161, R162: the group that an acknowledge picks qualifies, no qualifying group has a higher present priority, and among
those of the same priority it is the first in the order SUPERVISOR, MEMORY, COMMAND, L0 to L3, HOST; there is one whenever a
group qualifies, which is when IRQ is asserted. A group qualifies when its flag and its enable are set and its present
priority is above the one stored at the top of the in-service stack, if there is an entry. -/
def Obligations.WinnerIsHighestThenFirst : Prop :=
  ∀ q : Irq,
    (∀ g : Group, q.qualifies g = true ↔
      q.flags.getLsbD g.val = true ∧ q.enable.getLsbD g.val = true ∧
        ∀ top, q.stack.getLast? = some top → top.prio.val < q.prio.toNat / 4 ^ g.val % 4) ∧
      (q.line = true ↔ ∃ g, q.qualifies g = true) ∧
      (∀ g, q.winner = some g →
        q.qualifies g = true ∧
          ∀ h, q.qualifies h = true →
            q.priority h < q.priority g ∨
              q.priority h = q.priority g ∧
                [7, 5, 4, 0, 1, 2, 3, 6].idxOf g.val ≤ [7, 5, 4, 0, 1, 2, 3, 6].idxOf h.val) ∧
      (q.winner = none ↔ ∀ g, q.qualifies g = false)

/-- R159, R162, R163: outside RETAIN, an acknowledge ends OK. With a group picked it returns the group and its present priority,
clears that group's pending flag and no other, and pushes the pair onto the in-service stack; with none it returns 0xFF and
changes nothing. A write of IRQ_EOI with an entry in service ends OK and pops the top entry, whatever the data, changing no
flag; with none it ends ERR STATE. A write of IRQ_PENDING ends OK and clears the flags that it holds a 1 for, and no other. -/
def Obligations.InterruptsAreAcknowledgedAndEnded : Prop :=
  (∀ s : State, quiet s → s.power ≠ .retain →
    (s.irq.winner = none →
      ∃ r, exec .acknowledge s = .next r.arbitrate ∧ answeredOk s r (some 0xFF) ∧
        unchangedBut [.port, .sup, .moment] s r) ∧
      ∀ g : Group, s.irq.winner = some g →
        ∃ r, exec .acknowledge s = .next r.arbitrate ∧
          answeredOk s r (some (BitVec.ofNat 32 (g.val + 16 * (s.irq.priority g).val))) ∧
          r.irq = { s.irq with flags := r.irq.flags, stack := s.irq.stack ++ [⟨g, s.irq.priority g⟩] } ∧
          (∀ h : Group, r.irq.flag h = (s.irq.flag h && h != g)) ∧
          unchangedBut [.port, .sup, .moment, .irq] s r) ∧
    (∀ (s : State) (data : Word), quiet s → s.power ≠ .retain →
      (s.irq.stack ≠ [] →
        ∃ r, exec (.eoi data) s = .next r.arbitrate ∧ answeredOk s r none ∧
          r.irq = { s.irq with stack := s.irq.stack.dropLast } ∧ unchangedBut [.port, .sup, .moment, .irq] s r) ∧
        (s.irq.stack = [] →
          ∃ r, exec (.eoi data) s = .next r.arbitrate ∧ refusedWith s r .state ⟨0x38, true, data⟩ ∧
            unchangedBut [.port, .sup, .log, .irq, .moment] s r) ∧
        ∃ r, exec (.irqPendingWrite data) s = .next r.arbitrate ∧ answeredOk s r none ∧
          r.irq = { s.irq with flags := r.irq.flags } ∧
          (∀ g : Group, r.irq.flag g = (s.irq.flag g && !data.getLsbD g.val)) ∧
          unchangedBut [.port, .sup, .moment, .irq] s r)

/-! ## Timebase, supervisor and power (chapter 10) -/

/-- R28, R165, R168: in RUN or DOZE, at a tick TB_COUNT moves on modulo 2^32 and the prescale count restarts; the supervisor's
counter moves on, unless it is OFF or its reset is pending; the Scrubber's interval count moves on while it counts. What then
falls due, in this order: the supervisor's warning, where WARN is neither 0 nor at or beyond the timeout and the counter has
just reached it; its expiry, where the counter is at or beyond the timeout; the Scrubber's request, where the interval has
reached N. The Scrubber counts exactly while it is enabled, no request of it stands, no burst of its own is in progress, the init
sweep is over, and the part is not in RETAIN. The model's choices: the supervisor's occurrences come before the Scrubber's (assumption 10), and the supervisor counts
no tick while its own reset is pending (assumption 19). -/
def Obligations.TickCountsAndCauses : Prop :=
  (∀ s : State,
    s.scrubCounting = true ↔
      s.scrub.enabled = true ∧ s.scrub.request = false ∧ (∀ g, s.arb.grant = some g → g.who ≠ .scrub) ∧
        s.sweep.running = false ∧ s.power ≠ .retain) ∧
  ∀ s : State, calm s → s.power ≠ .retain →
    let counting := s.sup.st != .off && !s.rst.supDue
    let counter : BitVec 16 := if counting then plus s.sup.counter 1 else s.sup.counter
    let interval : BitVec 16 := if s.scrubCounting then plus s.scrub.interval 1 else s.scrub.interval
    ∃ t, exec .timebaseTick s = .next t ∧
      t.tb = { s.tb with count := s.tb.count + 1, prescaleCount := 0 } ∧
      t.sup = { s.sup with counter := counter } ∧ t.scrub = { s.scrub with interval := interval } ∧
      t.moment =
        ⟨[],
          (if counting ∧ s.sup.warn ≠ 0 ∧ s.sup.warn < s.sup.timeout ∧ counter = s.sup.warn then [.supWarning]
            else []) ++
          (if counting ∧ s.sup.timeout ≤ counter then [.supExpired] else []) ++
          (if s.scrubCounting ∧ s.scrub.n ≤ interval then [.scrubRequest] else []),
          [], false⟩ ∧
      unchangedBut [.tb, .sup, .scrub, .moment] s t

/-- R117, R156, R168 to R170: SUP_WARNING is raised with WARN as detail; SUP_EXPIRED with the code of the action, which is then
carried out: EVENT_ONLY restarts the counter; SAFE_EGRESS restarts it and puts safe mode in force, and where it was not in
force the idle free-running egress lanes take again; RESET_DEVICE makes a supervisor reset due. The window that has counted 16
transactions closes: the supervisor is RUNNING again, its count 0, and SUP_SEQUENCE_ERROR with reason 2 is raised; with room in
the log, and every log enable on, the events of the same response, which are held back until then, follow it there: that they wait
for the closing, and stand in the log behind SUP_SEQUENCE_ERROR, is the model's mechanism, assumption 12. -/
def Obligations.SupervisorWarnsExpiresAndClosesItsWindow : Prop :=
  ((∀ s : State, s.nextDue = some (.req .supWarning) →
    ∃ r, exec .supWarning s = .next r.arbitrate ∧
      raises [⟨.supWarning, some 7, 10, none, s.tb.count, s.sup.warn.setWidth 32⟩] s r ∧
      unchangedBut [.log, .irq, .moment] s r) ∧
    ∀ s : State, s.nextDue = some (.req .supExpired) →
      let expired (code : Nat) : Event := ⟨.supExpired, some 7, 10, none, s.tb.count, BitVec.ofNat 32 code⟩
      (s.sup.action = .eventOnly →
        ∃ r, exec .supExpired s = .next r.arbitrate ∧ raises [expired 0] s r ∧
          r.sup = { s.sup with counter := 0 } ∧ unchangedBut [.log, .irq, .moment, .sup] s r) ∧
        (s.sup.action = .safeEgress →
          ∃ r, exec .supExpired s = .next r.arbitrate ∧ raises [expired 1] s r ∧
            r.sup = { s.sup with counter := 0, safeMode := true } ∧ freeRunnersTake (!s.sup.safeMode) s r ∧
            unchangedBut [.log, .irq, .moment, .sup, .lanes] s r) ∧
        (s.sup.action = .resetDevice →
          ∃ r, exec .supExpired s = .next r.arbitrate ∧ raises [expired 2] s r ∧
            r.rst = { s.rst with supDue := true } ∧ unchangedBut [.log, .irq, .moment, .rst] s r)) ∧
    (∀ s : State, s.nextDue = some .windowClosed →
      let error : Event := ⟨.supSequenceError, some 7, 10, none, s.tb.count, 2⟩
      ∃ r, exec .windowClosed s = .next r ∧ r.sup = { s.sup with st := .running, windowCount := 0 } ∧
        (s.log.heldBack = [] → raises [error] s r) ∧
        (s.log.enable = 0xFF → (∀ e ∈ s.log.heldBack, e.group ≠ none) → s.logUse + s.log.heldBack.length < 32 →
          r.log.records.map Record.ev = s.log.records.map Record.ev ++ error :: s.log.heldBack ∧ r.log.heldBack = []) ∧
        unchangedBut [.sup, .log, .irq] s r)

/-- R15, R57, R104, R117, R169: outside RETAIN, SUP_ARM starts a supervisor that is OFF from counter 0, and otherwise opens the
window afresh, a write that is not itself counted. SUP_KICK ends OK: OFF it has no effect; RUNNING it is a sequence error with
reason 1; ARMED it restarts the counter, closes the window, and ends safe mode, where the idle free-running egress lanes take
again, in lane order. Those takes are caused by the response: where SUP_KICK comes at a moment that is open and takes it, they stand
behind every request of that moment (which moments take it is the model's choice, assumption 7). -/
def Obligations.ArmAndKickRefreshTheSupervisor : Prop :=
  let again (s : State) : List Req := ((laneList.filter fun n => idleFreeRunner (s.lane n)).map .take)
  (∀ (s : State) (data : Word), quiet s → s.power ≠ .retain →
    (∃ r, exec (.supArm data) s = .next r.arbitrate ∧ r.port = answered s.port .ok none ∧
      r.sup =
        (if s.sup.st = .off then { s.sup with st := .running, counter := 0 }
        else { s.sup with st := .armed, windowCount := 0 }) ∧
      r.moment = Moment.empty ∧ unchangedBut [.port, .sup, .moment] s r) ∧
      (s.sup.st = .off →
        ∃ r, exec (.supKick data) s = .next r.arbitrate ∧ answeredOk s r none ∧
          unchangedBut [.port, .sup, .moment] s r) ∧
      (s.sup.st = .running →
        ∃ r, exec (.supKick data) s = .next r.arbitrate ∧ answeredOk s r none ∧
          raises [⟨.supSequenceError, some 7, 10, none, s.tb.count, 1⟩] s r ∧
          unchangedBut [.port, .sup, .moment, .log, .irq] s r) ∧
      (s.sup.st = .armed →
        ∃ r, exec (.supKick data) s = .next r.arbitrate ∧ r.port = answered s.port .ok none ∧
          r.sup = { s.sup with st := .running, counter := 0, windowCount := 0, safeMode := false } ∧
          freeRunnersTake s.sup.safeMode s r ∧ r.moment.asked = [] ∧
          r.moment.caused = (if s.sup.safeMode then again s else []) ∧
          unchangedBut [.port, .sup, .moment, .lanes] s r)) ∧
    ∀ (s : State) (data : Word), s.port.waiting = none → s.accepting = true → s.urgentDue = false → s.power ≠ .retain →
      s.sup.st = .armed → s.sup.safeMode = true → s.nextDue ≠ none → s.moment.takes .host = true →
      (∀ n, idleFreeRunner (s.lane n) = true → s.outstanding (.take n) = false) →
      ∃ r, exec (.supKick data) s = .next r.arbitrate ∧ r.port = answered s.port .ok none ∧
        r.sup = { s.sup with st := .running, counter := 0, windowCount := 0, safeMode := false } ∧
        freeRunnersTake true s r ∧ r.moment.asked = s.moment.asked ∧ r.moment.caused = s.moment.caused ++ again s ∧
        unchangedBut [.port, .sup, .moment, .lanes] s r

/-- R27, R28, R42, R75, R76, R166, R180: outside RETAIN and with the lock clear, a write of TB_PRESCALE stores the prescaler,
clamped into 1 to 4,096, and restarts the prescale count. A write of SCRUB_CFG stores N and the two switches: enabling anew
restarts the interval count, disabling withdraws a raised request with its loss count, and an enabled Scrubber whose interval
count is already at N raises its request at once, unless the init sweep runs or a burst of its own is in progress. A write of
LN_CFG to a lane that is OFF or STOPPED stores the fields; where it changes the direction of a lane that owns, is bound to and
holds nothing, the lane is also OFF (NONE) or STOPPED, IDLE, its counters 0 and its next sequence number 0. A lane gives up
nothing, leaving INGRESS, if no assigned slot is its own and no egress lane is bound to it, and leaving EGRESS, if it is bound to no
lane and its submit queue and linger place are empty; where it would give up something, or moves, the write ends ERR STATE. -/
def Obligations.ConfigurationWrites : Prop :=
  (∀ (s : State) (data : Word), quiet s → s.power ≠ .retain → s.port.lock = false →
    (∃ r, exec (.tbPrescaleWrite data) s = .next r.arbitrate ∧ answeredOk s r none ∧
      r.tb = { s.tb with prescale := max 1 (min 4096 (data.toNat % 8192)), prescaleCount := 0 } ∧
      unchangedBut [.port, .sup, .moment, .tb] s r) ∧
      (let on := data.getLsbD 16
      let interval : BitVec 16 := if on ∧ s.scrub.enabled = false then 0 else s.scrub.interval
      let free := s.sweep.running = false ∧ ∀ g, s.arb.grant = some g → g.who ≠ .scrub
      ∃ r, exec (.scrubCfgWrite data) s = .next r.arbitrate ∧ answeredOk s r none ∧
        r.scrub = { s.scrub with
          n := data.setWidth 16, enabled := on, passEvent := data.getLsbD 17, interval := interval
          request := r.scrub.request } ∧
        (r.scrub.request = true ↔
          on = true ∧ (s.scrub.request = true ∨ free ∧ data.setWidth 16 ≤ interval)) ∧
        r.arb = { s.arb with
          lossCount := if s.scrub.request = true ∧ on = false then 0 else s.arb.lossCount } ∧
        unchangedBut [.port, .sup, .moment, .scrub, .arb] s r)) ∧
    (∀ (s : State) (n : LaneId) (data : Word), quiet s → s.power ≠ .retain → s.port.lock = false →
      (s.lane n).moving = false →
      let dir : Dir := [.none, .ingress, .egress, .egress].getD (data.toNat % 4) .none
      let cfg : LaneCfg :=
        ⟨dir, data.getLsbD 4, [.dropNew, .overwriteOldest, .stall, .stall].getD (data.toNat / 256 % 4) .dropNew,
          [.idle, .repeatLast, .emitFill, .emitFill].getD (data.toNat / 4096 % 4) .idle, data.getLsbD 16, data.getLsbD 17,
          data.getLsbD 18, data.getLsbD 19⟩
      (dir = (s.lane n).cfg.dir →
        ∃ r, exec (.lnCfgWrite n data) s = .next r.arbitrate ∧ answeredOk s r none ∧
          r.lane n = { s.lane n with cfg := cfg } ∧ otherLanes n s r ∧
          unchangedBut [.port, .sup, .moment, .lanes] s r) ∧
        (dir ≠ (s.lane n).cfg.dir → s.givesUpNothing n = true →
          ∃ r, exec (.lnCfgWrite n data) s = .next r.arbitrate ∧ answeredOk s r none ∧
            r.lane n = { s.lane n with
              cfg := cfg, st := if dir = .none then .off else .stopped, sub := .idle
              counters := ⟨0, 0, 0, 0, 0, 0, 0, 0, 0, 0, 0, 0, 0⟩, nextSeq := 0 } ∧
            otherLanes n s r ∧ unchangedBut [.port, .sup, .moment, .lanes] s r)) ∧
    (∀ (s : State) (n : LaneId), s.givesUpNothing n = true ↔
      ((s.lane n).cfg.dir = .ingress →
        (∀ i, (s.slot i).st ≠ .unassigned → (s.slot i).owner ≠ .lane n) ∧
          ∀ m, (s.lane m).cfg.dir = .egress → (s.lane m).binding ≠ some n) ∧
      ((s.lane n).cfg.dir = .egress →
        (s.lane n).binding = none ∧ (s.lane n).submitQ = [] ∧ (s.lane n).linger = none)) ∧
    ∀ (s : State) (n : LaneId) (data : Word), quiet s → s.power ≠ .retain → s.port.lock = false →
      ((s.lane n).moving = true ∨
        [Dir.none, .ingress, .egress, .egress].getD (data.toNat % 4) .none ≠ (s.lane n).cfg.dir ∧
          s.givesUpNothing n = false) →
      ∃ r, exec (.lnCfgWrite n data) s = .next r.arbitrate ∧
        refusedWith s r .state ⟨BitVec.ofNat 8 (0x80 + 0x10 * n.val), true, data⟩ ∧
        unchangedBut [.port, .sup, .log, .irq, .moment] s r

/-- R172, R173: a POWER_CTRL write that requests RUN ends OK in every state; on leaving RETAIN the counter of a supervisor that
is not OFF restarts from 0. One that requests DOZE ends OK in DOZE, and in RUN with every lane OFF or STOPPED. One that
requests RETAIN, with every lane OFF or STOPPED, no command queued, the write buffer empty and the sweep over, ends OK and
closes an open window silently; while a Scrubber grant is in progress it waits for the grant's end, which enters RETAIN; in RETAIN
it ends OK and changes nothing. A request for DOZE in RETAIN, or in RUN with a lane that moves, and one for RETAIN with a lane that
moves, a command queued, an entry in the write buffer, or the sweep running, ends ERR STATE. That the window is closed silently
where the write that enters RETAIN is itself its 16th transaction, at which R169 and R173 meet, is the model's choice, assumption
13. -/
def Obligations.PowerRequests : Prop :=
  ∀ (s : State) (data : Word), quiet s →
    (data.toNat % 4 = 0 →
      ∃ r, exec (.run data) s = .next r.arbitrate ∧ r.port = answered s.port .ok none ∧ r.power = .run ∧
        r.sup = counted
          (if s.power = .retain ∧ s.sup.st ≠ .off then { s.sup with counter := 0 } else s.sup) ∧
        r.moment = Moment.empty ∧ unchangedBut [.port, .sup, .moment, .power] s r) ∧
      (data.toNat % 4 = 1 → (s.power = .doze ∨ s.power = .run ∧ ∀ n, (s.lane n).moving = false) →
        ∃ r, exec (.doze data) s = .next r.arbitrate ∧ answeredOk s r none ∧ r.power = .doze ∧
          unchangedBut [.port, .sup, .moment, .power] s r) ∧
      (2 ≤ data.toNat % 4 → s.power ≠ .retain → (∀ n, (s.lane n).moving = false) → s.cmd.queue = [] →
        s.win.buffer = [] → s.sweep.running = false →
        ((∀ g, s.arb.grant = some g → g.who ≠ .scrub) →
          ∃ r, exec (.retain data) s = .next r.arbitrate ∧ r.port = answered s.port .ok none ∧ r.power = .retain ∧
            r.sup = (if s.sup.st = .armed then { s.sup with st := .running, windowCount := 0 } else s.sup) ∧
            r.moment = Moment.empty ∧ unchangedBut [.port, .sup, .moment, .power] s r) ∧
          ((∃ g, s.arb.grant = some g ∧ g.who = .scrub) →
            ∃ r, exec (.retain data) s = .next r.arbitrate ∧ r.port = holding s.port .retain ∧
              r.moment = Moment.empty ∧ unchangedBut [.port, .moment] s r)) ∧
      (2 ≤ data.toNat % 4 → s.power = .retain →
        ∃ r, exec (.retain data) s = .next r.arbitrate ∧ answeredOk s r none ∧ unchangedBut [.port, .sup, .moment] s r) ∧
      (data.toNat % 4 = 1 → (s.power = .retain ∨ s.power = .run ∧ ∃ n, (s.lane n).moving = true) →
        ∃ r, exec (.doze data) s = .next r.arbitrate ∧ refusedWith s r .state ⟨0x47, true, data⟩ ∧
          unchangedBut [.port, .sup, .log, .irq, .moment] s r) ∧
      (2 ≤ data.toNat % 4 → s.power ≠ .retain →
        ((∃ n, (s.lane n).moving = true) ∨ s.cmd.queue ≠ [] ∨ s.win.buffer ≠ [] ∨ s.sweep.running = true) →
        ∃ r, exec (.retain data) s = .next r.arbitrate ∧ refusedWith s r .state ⟨0x47, true, data⟩ ∧
          unchangedBut [.port, .sup, .log, .irq, .moment] s r)

/-! ## Commands at issue and at dispatch (chapters 4, 5, 6 and 8) -/

/-- R57, R133 to R136: outside RETAIN and the init sweep, with fewer than four commands queued and a log entry left, counting the
record of a window that its response closes, a write of CMD_ISSUE ends OK and appends an entry with its code, its tag and the
present parameters; the reserved count, which follows the queue, grows by 1; the dispatch is requested at once where the write
buffer is empty and no command is executing or waits for a grant to end, and the moment stays open to a grant's end, whose mark R57
puts behind the command (that it does is the model's choice, assumption 7). -/
def Obligations.IssueQueuesTheCommand : Prop :=
  ∀ (s : State) (data : Word), quiet s → s.power ≠ .retain → s.sweep.running = false → s.cmd.queue.length < 4 →
    s.log.records.length + s.reserved + closingRecord s < 32 →
    ∃ r, exec (.cmdIssue data) s = .next r.arbitrate ∧ r.port = answered s.port .ok none ∧ r.sup = counted s.sup ∧
      r.cmd = { s.cmd with
        queue := s.cmd.queue ++
          [⟨data.setWidth 8, (data >>> 8).setWidth 8, s.cmd.arg0, s.cmd.arg1, s.cmd.arg2, s.cmd.arg3⟩] } ∧
      r.reserved = s.reserved + 1 ∧
      r.moment =
        ⟨if s.eng.cmd = none ∧ s.cmd.haltDeferred = false ∧ s.win.buffer = [] then [.command] else [], [], s.opening .host,
          false⟩ ∧
      unchangedBut [.port, .sup, .moment, .cmd] s r

/-- R147, R135, R138: SYNC completes OK at its dispatch, and a code that names no command completes BAD_PARAM, both with value
0; the command leaves the queue and its completion record is raised, and nothing else changes. COMMAND_DISPATCH does what the row
of the command at the head does, whichever of the fifteen codes that is: two names of one dispatch, the model's reading of the
table (assumption 20). -/
def Obligations.SyncAndUnknownCodesComplete : Prop :=
  (∀ (s : State) (e : CmdEntry),
    (commandDue s e 0x23 →
      ∃ r, exec .sync s = .next r.arbitrate ∧ exec .commandDispatch s = .next r.arbitrate ∧
        completes s r e .ok 0 none [] ∧ unchangedBut [.cmd, .log, .irq, .moment] s r) ∧
      ∀ code : BitVec 8,
        code.toNat ∉ [1, 2, 3, 4, 5, 6, 16, 17, 18, 19, 20, 32, 33, 34, 35] → commandDue s e code →
        ∃ r, exec .unknownCommand s = .next r.arbitrate ∧ exec .commandDispatch s = .next r.arbitrate ∧
          completes s r e .badParam 0 none [] ∧ unchangedBut [.cmd, .log, .irq, .moment] s r) ∧
    ∀ (s : State) (e : CmdEntry) (code : BitVec 8) (row : Instr), commandDue s e code →
      (code, row) ∈
        [((1 : BitVec 8), Instr.slotAssign), (2, .slotUnassign), (3, .claim), (4, .alloc), (5, .release), (6, .submit),
          (16, .laneStart), (17, .laneStop), (18, .laneHalt), (19, .laneFlush), (20, .bind), (32, .copy), (33, .fill),
          (34, .measure), (35, .sync)] →
      ∃ t, exec row s = .next t ∧ exec .commandDispatch s = .next t

/-- R63 to R65: SLOT_ASSIGN. The first check of its table that fails gives the result, and the command has no other effect; with
none failing it completes OK, and the slot is FREE with the owner, base and capacity given, every other field cleared, at the
tail of its owner's free list. SLOT_UNASSIGN: LOCKED under the lock, BAD_PARAM above 63, BAD_STATE unless the slot is FREE or
QUARANTINED; otherwise OK: a FREE slot leaves its owner's free list from whatever position, every field of the record is
cleared and the slot is UNASSIGNED. -/
def Obligations.SlotsAreAssignedAndUnassigned : Prop :=
  (∀ (s : State) (e : CmdEntry), commandDue s e 0x01 →
    let base := e.arg2.toNat
    let cap := e.arg3.toNat
    let owner : Owner := [.none, .lane 0, .lane 1, .lane 2, .lane 3, .host].getD e.arg1.toNat .none
    ((s.port.lock = true → ∃ r, exec .slotAssign s = .next r.arbitrate ∧ onlyCompletes s r e .locked (slotNamed e.arg0)) ∧
      (s.port.lock = false →
        (63 < e.arg0.toNat ∨ owner = .none ∨ base % 64 ≠ 0 ∨ cap % 64 ≠ 0 ∨ cap < 64 ∨ 65536 < cap ∨
          s.memWords < base + cap) →
        ∃ r, exec .slotAssign s = .next r.arbitrate ∧ onlyCompletes s r e .badParam (slotNamed e.arg0))) ∧
      (s.port.lock = false → owner ≠ .none → base % 64 = 0 → cap % 64 = 0 → 64 ≤ cap → cap ≤ 65536 →
        base + cap ≤ s.memWords →
        ∀ i : SlotId, e.arg0.toNat = i.val →
          let overlap := ∃ j, (s.slot j).st ≠ .unassigned ∧ (s.slot j).base < base + cap ∧
            base < (s.slot j).base + (s.slot j).capacity
          ((s.slot i).st ≠ .unassigned →
            ∃ r, exec .slotAssign s = .next r.arbitrate ∧ onlyCompletes s r e .badState (some i)) ∧
          ((s.slot i).st = .unassigned →
            (∀ n, owner = .lane n → (s.lane n).cfg.dir ≠ .ingress →
              ∃ r, exec .slotAssign s = .next r.arbitrate ∧ onlyCompletes s r e .badState (some i)) ∧
            (∀ n, owner = .lane n → (s.lane n).cfg.dir = .ingress → 16 ≤ s.owned n →
              ∃ r, exec .slotAssign s = .next r.arbitrate ∧ onlyCompletes s r e .full (some i)) ∧
            ((∀ n, owner = .lane n → (s.lane n).cfg.dir = .ingress ∧ s.owned n < 16) →
              (overlap →
                ∃ r, exec .slotAssign s = .next r.arbitrate ∧ onlyCompletes s r e .overlap (some i)) ∧
              (¬ overlap →
                ∃ r, exec .slotAssign s = .next r.arbitrate ∧ completes s r e .ok 0 (some i) [] ∧
                  r.slot i = ⟨.free, owner, base, cap, 0, 0, 0, 0, SlotFlags.clear, none⟩ ∧ otherSlots i s r ∧
                  joins i owner s r ∧
                  unchangedBut [.cmd, .log, .irq, .moment, .slots, .hostFree, .lanes] s r))))) ∧
    (∀ (s : State) (e : CmdEntry), commandDue s e 0x02 →
      (s.port.lock = true →
        ∃ r, exec .slotUnassign s = .next r.arbitrate ∧ onlyCompletes s r e .locked (slotNamed e.arg0)) ∧
        (s.port.lock = false → 63 < e.arg0.toNat →
          ∃ r, exec .slotUnassign s = .next r.arbitrate ∧ onlyCompletes s r e .badParam none) ∧
        (s.port.lock = false → ∀ i : SlotId, e.arg0.toNat = i.val →
          ((s.slot i).st ≠ .free → (s.slot i).st ≠ .quarantined →
            ∃ r, exec .slotUnassign s = .next r.arbitrate ∧ onlyCompletes s r e .badState (some i)) ∧
          ((s.slot i).st = .free ∨ (s.slot i).st = .quarantined →
            ∃ r, exec .slotUnassign s = .next r.arbitrate ∧ completes s r e .ok 0 (some i) [] ∧
              r.slot i = ⟨.unassigned, .none, 0, 0, 0, 0, 0, 0, SlotFlags.clear, none⟩ ∧ otherSlots i s r ∧
              r.hostFree =
                (if (s.slot i).st = .free ∧ (s.slot i).owner = .host then s.hostFree.filter (· ≠ i) else s.hostFree) ∧
              (∀ n, r.lane n =
                if (s.slot i).st = .free ∧ (s.slot i).owner = .lane n then
                  { s.lane n with freeList := (s.lane n).freeList.filter (· ≠ i) }
                else s.lane n) ∧
              unchangedBut [.cmd, .log, .irq, .moment, .slots, .hostFree, .lanes] s r)))

/-- R63, R66, R67: CLAIM hands the head of an ingress lane's ready queue to the host, CLAIMED with its fields kept: BAD_PARAM
for a lane above 3 or not INGRESS, NOT_CONSUMER where an egress lane is bound to it, EMPTY with nothing ready. ALLOC hands the
head of the host free list, CLAIMED with every field but owner, base and capacity cleared, or completes EMPTY. The result
value of each is the slot index. Memory does not change. -/
def Obligations.ClaimAndAllocTakeTheHead : Prop :=
  (∀ (s : State) (e : CmdEntry), commandDue s e 0x03 →
    (3 < e.arg0.toNat → ∃ r, exec .claim s = .next r.arbitrate ∧ onlyCompletes s r e .badParam none) ∧
      ∀ n : LaneId, e.arg0.toNat = n.val →
        let bound := ∃ m, (s.lane m).cfg.dir = .egress ∧ (s.lane m).binding = some n
        ((s.lane n).cfg.dir ≠ .ingress →
          ∃ r, exec .claim s = .next r.arbitrate ∧ onlyCompletes s r e .badParam none) ∧
        ((s.lane n).cfg.dir = .ingress → bound →
          ∃ r, exec .claim s = .next r.arbitrate ∧ onlyCompletes s r e .notConsumer none) ∧
        ((s.lane n).cfg.dir = .ingress → ¬ bound → (s.lane n).readyQ = [] →
          ∃ r, exec .claim s = .next r.arbitrate ∧ onlyCompletes s r e .empty none) ∧
        ∀ i rest, (s.lane n).cfg.dir = .ingress → ¬ bound → (s.lane n).readyQ = i :: rest →
          ∃ r, exec .claim s = .next r.arbitrate ∧ completes s r e .ok i.val (some i) [] ∧
            r.slot i = { s.slot i with st := .claimed } ∧ otherSlots i s r ∧
            r.lane n = { s.lane n with readyQ := rest } ∧ otherLanes n s r ∧
            unchangedBut [.cmd, .log, .irq, .moment, .slots, .lanes] s r) ∧
    ∀ (s : State) (e : CmdEntry), commandDue s e 0x04 →
      (s.hostFree = [] → ∃ r, exec .alloc s = .next r.arbitrate ∧ onlyCompletes s r e .empty none) ∧
        ∀ i rest, s.hostFree = i :: rest →
          ∃ r, exec .alloc s = .next r.arbitrate ∧ completes s r e .ok i.val (some i) [] ∧ r.hostFree = rest ∧
            r.slot i = { s.slot i with
              st := .claimed, length := 0, seq := 0, repeats := 0, stamp := 0, flags := SlotFlags.clear
              stats := none } ∧
            otherSlots i s r ∧ unchangedBut [.cmd, .log, .irq, .moment, .slots, .hostFree] s r

/-- R52, R63, R68: RELEASE. BAD_PARAM above 63, BAD_STATE unless the slot is CLAIMED or QUARANTINED. A CLAIMED slot is returned:
QUARANTINED where ECC_BAD is set, and otherwise FREE at the tail of its owner's list, its fields kept. A QUARANTINED slot has
every flag cleared, loses its statistics, and is FREE at the tail of its owner's list. -/
def Obligations.ReleaseReturnsTheSlot : Prop :=
  ∀ (s : State) (e : CmdEntry), commandDue s e 0x05 →
    (63 < e.arg0.toNat → ∃ r, exec .release s = .next r.arbitrate ∧ onlyCompletes s r e .badParam none) ∧
      ∀ i : SlotId, e.arg0.toNat = i.val →
        ((s.slot i).st ≠ .claimed → (s.slot i).st ≠ .quarantined →
          ∃ r, exec .release s = .next r.arbitrate ∧ onlyCompletes s r e .badState (some i)) ∧
        ((s.slot i).st = .claimed → (s.slot i).flags.eccBad = true →
          ∃ r, exec .release s = .next r.arbitrate ∧ completes s r e .ok 0 (some i) [] ∧
            r.slot i = { s.slot i with st := .quarantined } ∧ otherSlots i s r ∧
            unchangedBut [.cmd, .log, .irq, .moment, .slots] s r) ∧
        ((s.slot i).st = .claimed → (s.slot i).flags.eccBad = false →
          ∃ r, exec .release s = .next r.arbitrate ∧ completes s r e .ok 0 (some i) [] ∧
            r.slot i = { s.slot i with st := .free } ∧ otherSlots i s r ∧ joins i (s.slot i).owner s r ∧
            unchangedBut [.cmd, .log, .irq, .moment, .slots, .hostFree, .lanes] s r) ∧
        ((s.slot i).st = .quarantined →
          ∃ r, exec .release s = .next r.arbitrate ∧ completes s r e .ok 0 (some i) [] ∧
            r.slot i = { s.slot i with st := .free, flags := SlotFlags.clear, stats := none } ∧ otherSlots i s r ∧
            joins i (s.slot i).owner s r ∧
            unchangedBut [.cmd, .log, .irq, .moment, .slots, .hostFree, .lanes] s r)

/-- R63, R69, R104: SUBMIT. Its checks in order; with none failing the slot is READY with the given length at the tail of the
lane's submit queue: its statistics stay only if the length does, and a host-owned slot is stamped and marked HOST_BUILT; an
idle free-running lane requests a take. -/
def Obligations.SubmitQueuesTheSlot : Prop :=
  ∀ (s : State) (e : CmdEntry), commandDue s e 0x06 →
    (63 < e.arg0.toNat → ∃ r, exec .submit s = .next r.arbitrate ∧ onlyCompletes s r e .badParam none) ∧
      ∀ i : SlotId, e.arg0.toNat = i.val →
        ((s.slot i).st ≠ .claimed →
          ∃ r, exec .submit s = .next r.arbitrate ∧ onlyCompletes s r e .badState (some i)) ∧
        ((s.slot i).st = .claimed → 3 < e.arg1.toNat →
          ∃ r, exec .submit s = .next r.arbitrate ∧ onlyCompletes s r e .badParam (some i)) ∧
        ((s.slot i).st = .claimed → ∀ n : LaneId, e.arg1.toNat = n.val →
          let bad := (s.lane n).cfg.dir ≠ .egress ∨ e.arg2.toNat = 0 ∨ (s.slot i).capacity < e.arg2.toNat
          (bad → ∃ r, exec .submit s = .next r.arbitrate ∧ onlyCompletes s r e .badParam (some i)) ∧
          (¬ bad → 8 ≤ (s.lane n).submitQ.length →
            ∃ r, exec .submit s = .next r.arbitrate ∧ onlyCompletes s r e .full (some i)) ∧
          (¬ bad → (s.lane n).submitQ.length < 8 →
            ∃ r, exec .submit s = .next r.arbitrate ∧ completes s r e .ok 0 (some i) [] ∧
              r.slot i = { s.slot i with
                st := .ready, length := e.arg2.toNat
                stats := if e.arg2.toNat = (s.slot i).length then (s.slot i).stats else none
                stamp := if (s.slot i).owner = .host then s.tb.count else (s.slot i).stamp
                flags := { (s.slot i).flags with
                  hostBuilt := (s.slot i).flags.hostBuilt || (s.slot i).owner == .host } } ∧
              otherSlots i s r ∧
              r.lane n = takesAgain { s.lane n with submitQ := (s.lane n).submitQ ++ [i] } ∧ otherLanes n s r ∧
              (idleFreeRunner (s.lane n) = true → r.outstanding (.take n) = true) ∧
              unchangedBut [.cmd, .log, .irq, .moment, .slots, .lanes] s r))

/-- R41, R77, R87, R104: LANE_START. BAD_STATE unless the lane is STOPPED and the part in RUN; BAD_CONFIG where the marks do not
satisfy their relation for the direction, or an INGRESS lane has policy STALL without BACKPRESSURE; otherwise OK: the lane is
RUNNING and IDLE with an empty FIFO, an ingress lane's stray report armed, and a free-running egress lane requests a take. -/
def Obligations.LaneStartChecksAndRuns : Prop :=
  ∀ (s : State) (e : CmdEntry), commandDue s e 0x10 →
    (3 < e.arg0.toNat → ∃ r, exec .laneStart s = .next r.arbitrate ∧ onlyCompletes s r e .badParam none) ∧
      ∀ n : LaneId, e.arg0.toNat = n.val →
        let l := s.lane n
        let marks :=
          l.cfg.dir = .ingress ∧ 1 ≤ l.markLo ∧ l.markLo ≤ l.markHi ∧ l.markHi ≤ 32 ∨
            l.cfg.dir = .egress ∧ l.markHi ≤ l.markLo ∧ l.markLo ≤ 24
        let policy := l.cfg.dir = .ingress → l.cfg.inPolicy = .stall → l.cfg.backpressure = true
        (l.st ≠ .stopped ∨ s.power ≠ .run →
          ∃ r, exec .laneStart s = .next r.arbitrate ∧ onlyCompletes s r e .badState none) ∧
        (l.st = .stopped → s.power = .run → ¬ (marks ∧ policy) →
          ∃ r, exec .laneStart s = .next r.arbitrate ∧ onlyCompletes s r e .badConfig none) ∧
        (l.st = .stopped → s.power = .run → marks → policy →
          ∃ r, exec .laneStart s = .next r.arbitrate ∧ completes s r e .ok 0 none [] ∧
            r.lane n = takesAgain { l with
              st := .running, sub := .idle, fifo := [], strayArmed := l.cfg.dir == .ingress || l.strayArmed } ∧
            (l.cfg.dir = .egress → l.cfg.triggered = false → r.outstanding (.take n) = true) ∧
            otherLanes n s r ∧ unchangedBut [.cmd, .log, .irq, .moment, .lanes] s r)

/-- R75, R78, R114: LANE_STOP. BAD_STATE on an OFF lane; OK without effect on a STOPPED or STOPPING one; a RUNNING lane within a
frame is STOPPING; at a frame boundary it is STOPPED at once, its outstanding take or allocate withdrawn, and raises
LANE_STOPPED; a frame it has begun that has no slot yet is counted dropped first, with reason 3. -/
def Obligations.LaneStopWaitsForTheBoundary : Prop :=
  ∀ (s : State) (e : CmdEntry), commandDue s e 0x11 →
    (3 < e.arg0.toNat → ∃ r, exec .laneStop s = .next r.arbitrate ∧ onlyCompletes s r e .badParam none) ∧
      ∀ n : LaneId, e.arg0.toNat = n.val →
        let l := s.lane n
        let boundary :=
          l.sub = .idle ∨ l.cfg.dir = .ingress ∧ l.sub = .stalled ∨ l.cfg.dir ≠ .ingress ∧ l.sub = .taking
        (l.st = .off → ∃ r, exec .laneStop s = .next r.arbitrate ∧ onlyCompletes s r e .badState none) ∧
        (l.st = .stopped ∨ l.st = .stopping →
          ∃ r, exec .laneStop s = .next r.arbitrate ∧ onlyCompletes s r e .ok none) ∧
        (l.st = .running → ¬ boundary →
          ∃ r, exec .laneStop s = .next r.arbitrate ∧ completes s r e .ok 0 none [] ∧
            r.lane n = { l with st := .stopping } ∧ otherLanes n s r ∧
            unchangedBut [.cmd, .log, .irq, .moment, .lanes] s r) ∧
        (l.st = .running → boundary → ¬ begunNoSlot s n →
          ∃ r, exec .laneStop s = .next r.arbitrate ∧
            completes s r e .ok 0 none [laneEvent s n .laneStopped none 0] ∧ r.lane n = stoppedForm l ∧
            r.outstanding (.take n) = false ∧ r.outstanding (.allocate n) = false ∧ otherLanes n s r ∧
            unchangedBut [.cmd, .log, .irq, .moment, .lanes] s r) ∧
        (l.st = .running → begunNoSlot s n →
          ∃ r, exec .laneStop s = .next r.arbitrate ∧
            completes s r e .ok 0 none
              [laneEvent s n .frameDropped none (l.frameSeq.toNat + 65536 * 3), laneEvent s n .laneStopped none 0] ∧
            r.lane n = { stoppedForm l with counters := { l.counters with dropped := plus l.counters.dropped 1 } } ∧
            r.outstanding (.take n) = false ∧ r.outstanding (.allocate n) = false ∧ otherLanes n s r ∧
            unchangedBut [.cmd, .log, .irq, .moment, .lanes] s r)

/-- R52, R70, R79, R86, R115, R137: LANE_HALT. BAD_STATE on an OFF lane, OK without effect on a STOPPED one; on a RUNNING or
STOPPING lane that holds no grant it halts the lane at once, and a STALLED lane that gets its slot back asks for its allocate again; where the lane holds the grant in progress it is only dispatched, and its
operation, when it is served at the grant's end, does the same. -/
def Obligations.LaneHaltStopsAtOnce : Prop :=
  (∀ (s : State) (e : CmdEntry), commandDue s e 0x12 →
    (3 < e.arg0.toNat → ∃ r, exec .laneHalt s = .next r.arbitrate ∧ onlyCompletes s r e .badParam none) ∧
      ∀ n : LaneId, e.arg0.toNat = n.val →
        let granted := ∃ g, s.arb.grant = some g ∧ (g.who = .ingress n ∨ g.who = .egress n)
        (¬ granted → (s.lane n).st = .off →
          ∃ r, exec .laneHalt s = .next r.arbitrate ∧ onlyCompletes s r e .badState none) ∧
        (¬ granted → (s.lane n).st = .stopped →
          ∃ r, exec .laneHalt s = .next r.arbitrate ∧ onlyCompletes s r e .ok none) ∧
        (¬ granted → (s.lane n).moving = true → ∃ r, exec .laneHalt s = .next r.arbitrate ∧ halts s r e n) ∧
        (granted →
          ∃ r, exec .laneHalt s = .next r.arbitrate ∧ r.cmd = { s.cmd with haltDeferred := true } ∧
            unchangedBut [.cmd, .moment] s r)) ∧
    ∀ (s : State) (e : CmdEntry) (n : LaneId), s.nextDue = some (.req .command) → s.cmd.haltDeferred = true →
      s.cmd.queue.head? = some e → e.arg0.toNat = n.val → (s.lane n).moving = true →
      ∃ r, exec .haltAtGrantEnd s = .next r.arbitrate ∧
        halts { s with cmd := { s.cmd with haltDeferred := false } } r e n

/-- R51, R52, R70, R86, R94, R102, R103, R116: LANE_FLUSH on a STOPPED lane completes OK and returns, in queue order, the slots of its
ready queue (INGRESS), or of its submit queue and then its linger slot (EGRESS), no slot being named twice (R53): each becomes
QUARANTINED where ECC_BAD is set, and FREE otherwise, and leaves the lane's queue or place; a STALLED lane that gets one back asks
for its allocate again; a lane not STOPPED gives BAD_STATE.
BIND: BAD_PARAM for a lane above 3; LOCKED under the lock; BAD_PARAM for a lane not EGRESS, a target above 4, or a target lane
not INGRESS; BAD_STATE unless the lane is STOPPED and no other egress lane is bound to the target; OK otherwise: the same
binding again changes nothing; a new one is stored and the linger slot is returned. -/
def Obligations.LanesAreFlushedAndBound : Prop :=
  (∀ (s : State) (e : CmdEntry), commandDue s e 0x13 →
    (3 < e.arg0.toNat → ∃ r, exec .laneFlush s = .next r.arbitrate ∧ onlyCompletes s r e .badParam none) ∧
      ∀ n : LaneId, e.arg0.toNat = n.val →
        let l := s.lane n
        let gone := if l.cfg.dir = .ingress then l.readyQ else l.submitQ ++ l.linger.toList
        (l.st ≠ .stopped → ∃ r, exec .laneFlush s = .next r.arbitrate ∧ onlyCompletes s r e .badState none) ∧
        (l.st = .stopped → gone.Nodup →
          ∃ r, exec .laneFlush s = .next r.arbitrate ∧ completes s r e .ok 0 none [] ∧
            (∀ i, r.slot i =
              if i ∈ gone then { s.slot i with st := if (s.slot i).flags.eccBad then .quarantined else .free }
              else s.slot i) ∧
            r.hostFree = s.hostFree ++
              gone.filter (fun i => !(s.slot i).flags.eccBad && (s.slot i).owner == .host) ∧
            (∀ m, r.lane m = { s.lane m with
              freeList := (s.lane m).freeList ++
                gone.filter (fun i => !(s.slot i).flags.eccBad && (s.slot i).owner == .lane m)
              readyQ := if m = n ∧ l.cfg.dir = .ingress then [] else (s.lane m).readyQ
              submitQ := if m = n ∧ l.cfg.dir ≠ .ingress then [] else (s.lane m).submitQ
              linger := if m = n ∧ l.cfg.dir ≠ .ingress then none else (s.lane m).linger }) ∧
            (∀ i m, i ∈ gone → (s.slot i).flags.eccBad = false → (s.slot i).owner = .lane m → wakes m s r) ∧
            unchangedBut [.cmd, .log, .irq, .moment, .slots, .hostFree, .lanes] s r)) ∧
    (∀ (s : State) (e : CmdEntry), commandDue s e 0x14 →
      (3 < e.arg0.toNat → ∃ r, exec .bind s = .next r.arbitrate ∧ onlyCompletes s r e .badParam none) ∧
        ∀ n : LaneId, e.arg0.toNat = n.val →
          let l := s.lane n
          let target : Option LaneId := if h : e.arg1.toNat < 4 then some ⟨e.arg1.toNat, h⟩ else none
          let kinds := l.cfg.dir = .egress ∧ e.arg1.toNat ≤ 4 ∧ ∀ m, target = some m → (s.lane m).cfg.dir = .ingress
          let states :=
            l.st = .stopped ∧
              ∀ m k, target = some m → k ≠ n → (s.lane k).cfg.dir = .egress → (s.lane k).binding ≠ some m
          (s.port.lock = true → ∃ r, exec .bind s = .next r.arbitrate ∧ onlyCompletes s r e .locked none) ∧
          (s.port.lock = false → ¬ kinds →
            ∃ r, exec .bind s = .next r.arbitrate ∧ onlyCompletes s r e .badParam none) ∧
          (s.port.lock = false → kinds → ¬ states →
            ∃ r, exec .bind s = .next r.arbitrate ∧ onlyCompletes s r e .badState none) ∧
          (s.port.lock = false → kinds → states →
            (l.binding = target → ∃ r, exec .bind s = .next r.arbitrate ∧ onlyCompletes s r e .ok none) ∧
            (l.binding ≠ target → l.linger = none →
              ∃ r, exec .bind s = .next r.arbitrate ∧ completes s r e .ok 0 none [] ∧
                r.lane n = { l with binding := target } ∧ otherLanes n s r ∧
                unchangedBut [.cmd, .log, .irq, .moment, .lanes] s r) ∧
            ∀ i, l.binding ≠ target → l.linger = some i →
              ∃ r, exec .bind s = .next r.arbitrate ∧ completes s r e .ok 0 none [] ∧
                (r.lane n).binding = target ∧ (r.lane n).linger = none ∧
                r.slot i = { s.slot i with st := if (s.slot i).flags.eccBad then .quarantined else .free } ∧
                otherSlots i s r ∧
                ((s.slot i).flags.eccBad = false →
                  joins i (s.slot i).owner (s.setLane n { l with binding := target, linger := none }) r) ∧
                ((s.slot i).flags.eccBad = true →
                  r.hostFree = s.hostFree ∧ r.lane n = { l with binding := target, linger := none } ∧ otherLanes n s r) ∧
                unchangedBut [.cmd, .log, .irq, .moment, .slots, .hostFree, .lanes] s r))

/-! ## The Copy Engine (chapter 8) -/

/-- R141 to R146: COPY, FILL and MEASURE at their dispatch. BAD_PARAM for a count of 0 or above 262,144, for a range beyond the
memory, and for a slot index above 63; DENIED where a closed slot meets a range; BAD_STATE unless the slot is CLAIMED; a slot
of length 0 is measured at once, with crc 0 and ALL_ZERO. Otherwise the engine executes the command with no words done: COPY
descending exactly when dst > src and dst < src + count, its first request a read, as MEASURE's is; FILL's is a write. -/
def Obligations.LongCommandsCheckAndStart : Prop :=
  (∀ (s : State) (e : CmdEntry), commandDue s e 0x20 →
    let src := e.arg0.toNat
    let dst := e.arg1.toNat
    let count := e.arg2.toNat
    let fits := 0 < count ∧ count ≤ 262144 ∧ src + count ≤ s.memWords ∧ dst + count ≤ s.memWords
    let open_ := s.rangeAccessible src count = true ∧ s.rangeAccessible dst count = true
    (¬ fits → ∃ r, exec .copy s = .next r.arbitrate ∧ onlyCompletes s r e .badParam none) ∧
      (fits → ¬ open_ → ∃ r, exec .copy s = .next r.arbitrate ∧ onlyCompletes s r e .denied none) ∧
      (fits → open_ →
        ∃ r, exec .copy s = .next r.arbitrate ∧
          r.eng = ⟨some (.copy src dst count), decide (src < dst ∧ dst < src + count), 0, .readWait, [], none, false⟩ ∧
          unchangedBut [.eng, .moment] s r)) ∧
    (∀ (s : State) (e : CmdEntry), commandDue s e 0x21 →
      let dst := e.arg0.toNat
      let count := e.arg1.toNat
      let fits := 0 < count ∧ count ≤ 262144 ∧ dst + count ≤ s.memWords
      (¬ fits → ∃ r, exec .fill s = .next r.arbitrate ∧ onlyCompletes s r e .badParam none) ∧
        (fits → s.rangeAccessible dst count = false →
          ∃ r, exec .fill s = .next r.arbitrate ∧ onlyCompletes s r e .denied none) ∧
        (fits → s.rangeAccessible dst count = true →
          ∃ r, exec .fill s = .next r.arbitrate ∧
            r.eng = ⟨some (.fill dst count e.arg2 e.arg3), false, 0, .writeWait, [], none, false⟩ ∧
            unchangedBut [.eng, .moment] s r)) ∧
    ∀ (s : State) (e : CmdEntry), commandDue s e 0x22 →
      (63 < e.arg0.toNat → ∃ r, exec .measure s = .next r.arbitrate ∧ onlyCompletes s r e .badParam none) ∧
        ∀ i : SlotId, e.arg0.toNat = i.val →
          ((s.slot i).st ≠ .claimed →
            ∃ r, exec .measure s = .next r.arbitrate ∧ onlyCompletes s r e .badState (some i)) ∧
          ((s.slot i).st = .claimed → (s.slot i).length = 0 →
            ∃ r, exec .measure s = .next r.arbitrate ∧ completes s r e .ok 0 (some i) [] ∧
              r.slot i = { s.slot i with stats := some ⟨0, 0, 0, true⟩ } ∧ otherSlots i s r ∧
              unchangedBut [.cmd, .log, .irq, .moment, .slots] s r) ∧
          ((s.slot i).st = .claimed → (s.slot i).length ≠ 0 →
            ∃ r, exec .measure s = .next r.arbitrate ∧
              r.eng = ⟨some (.measure i), false, 0, .readWait, [], some ⟨0xFFFFFFFF, 0, 0, false⟩, false⟩ ∧
              unchangedBut [.eng, .moment] s r)

/-- R148: outside RETAIN, a write of ENGINE_ABORT ends OK. With no long command executing, or an abort already pending, it has
no effect. With no grant of the command in progress and no burst held, the command completes ABORTED at once with the words
done; otherwise abort pending is set. -/
def Obligations.EngineAbortStopsOrWaits : Prop :=
  ∀ (s : State) (data : Word), quiet s → s.power ≠ .retain →
    let granted := ∃ g, s.arb.grant = some g ∧ g.who ∈ [.copyRead, .copyWrite, .fill, .measure]
    (s.eng.cmd = none ∨ s.eng.abortPending = true →
      ∃ r, exec (.engineAbort data) s = .next r.arbitrate ∧ answeredOk s r none ∧
        unchangedBut [.port, .sup, .moment] s r) ∧
      (∀ c e rest, s.eng.cmd = some c → s.eng.abortPending = false → s.cmd.queue = e :: rest → ¬ granted →
        s.eng.held = [] →
        ∃ r, exec (.engineAbort data) s = .next r.arbitrate ∧ r.port = answered s.port .ok none ∧
          r.sup = counted s.sup ∧ r.eng = ⟨none, false, 0, .idle, [], none, false⟩ ∧
          completes s r e .aborted s.eng.wordsDone (match c with
            | .measure i => some i
            | _ => none) [] ∧
          unchangedBut [.port, .sup, .moment, .eng, .cmd, .log, .irq] s r) ∧
      (s.eng.cmd ≠ none → s.eng.abortPending = false → (granted ∨ s.eng.held ≠ []) →
        ∃ r, exec (.engineAbort data) s = .next r.arbitrate ∧ answeredOk s r none ∧
          r.eng = { s.eng with abortPending := true } ∧ unchangedBut [.port, .sup, .moment, .eng] s r)

/-! ## The Slot Manager's operations for the lanes (chapters 4 to 6) -/

/-- R58, R93, R104: the publish of an ingress lane makes the slot in its current place READY at the tail of its ready queue, with
the statistics where the lane inspects, and offers it to the egress lane bound to it, which takes again if it is idle and
free-running (its take behind the requests made before: the model's choice, assumption 9). The counts and events follow the
slot's flags. A lane that was STOPPING is STOPPED; any other is IDLE, and its frame logic goes on to the words still in its
FIFO. -/
def Obligations.PublishMakesTheSlotReady : Prop :=
  ∀ (s : State) (n : LaneId) (i : SlotId), s.nextDue = some (.req (.publish n)) → (s.lane n).cur = some i →
    (s.lane n).cfg.dir = .ingress →
    let l := s.lane n
    let slot := s.slot i
    let ready : Slot := { slot with
      st := .ready, stats := match l.cfg.inspect, l.inspecting with
        | true, some x => some ⟨~~~x.crcReg, x.ones, x.leadZeros, !x.sawOne⟩
        | _, _ => slot.stats }
    let counters : Counters := { l.counters with
      published := plus l.counters.published 1
      truncated := if slot.flags.truncated then plus l.counters.truncated 1 else l.counters.truncated
      cut := if slot.flags.cut then plus l.counters.cut 1 else l.counters.cut }
    let events : List Event :=
      (if slot.flags.truncated then [laneEvent s n .frameTruncated (some i) slot.seq.toNat] else []) ++
      (if slot.flags.cut then [laneEvent s n .frameCut (some i) slot.seq.toNat] else []) ++
      (if l.cfg.frameEvents then
        [laneEvent s n .framePublished (some i) (slot.seq.toNat + 65536 * ((slot.length - 1) % 65536))] else [])
    ∃ r, exec (.publish n) s = .next r.arbitrate ∧ r.slot i = ready ∧ otherSlots i s r ∧ (r.lane n).cur = none ∧
      (r.lane n).readyQ = l.readyQ ++ [i] ∧ (r.lane n).counters.published = counters.published ∧
      (∀ m, m ≠ n → r.lane m = if s.boundTo n = some m then takesAgain (s.lane m) else s.lane m) ∧
      (∀ m, s.boundTo n = some m → idleFreeRunner (s.lane m) = true → r.outstanding (.take m) = true) ∧
      (l.fifo = [] → l.st ≠ .stopping →
        r.lane n = { l with
          cur := none, sub := .idle, inspecting := none, readyQ := l.readyQ ++ [i], counters := counters } ∧
        raises events s r) ∧
      (l.st = .stopping →
        r.lane n = { stoppedForm l with cur := none, readyQ := l.readyQ ++ [i], counters := counters } ∧
        raises (events ++ [laneEvent s n .laneStopped none 0]) s r) ∧
      (l.st ≠ .stopping →
        ∃ t, t.slot i = ready ∧ otherSlots i s t ∧
          t.lane n = { l with
            cur := none, sub := .idle, inspecting := none, readyQ := l.readyQ ++ [i], counters := counters } ∧
          (∀ m, m ≠ n → t.lane m = if s.boundTo n = some m then takesAgain (s.lane m) else s.lane m) ∧
          raises events s t ∧ t.moment.asked = (requestsLeft s).1 ∧
          t.moment.caused = (requestsLeft s).2 ++
            (match s.boundTo n with
              | none => []
              | some m =>
                if idleFreeRunner (s.lane m) ∧ .take m ∉ (requestsLeft s).1 ∧ .take m ∉ (requestsLeft s).2 then [.take m]
                else []) ∧
          unchangedBut [.slots, .lanes, .log, .irq, .moment] s t ∧ goesOn .causing n t r) ∧
      unchangedBut [.slots, .lanes, .log, .irq, .moment] s r

/-- R60, R107, R110, R112, R117: the take of an egress lane, outside safe mode, takes the head of its submit queue, else the head
of the ready queue of the lane it is bound to, else under REPEAT_LAST its linger slot, whose repeats count and REPEATED flag
move; the slot is DRAINING in the current place, and the lane SENDING with nothing fetched or sent, its check decided by
CRC_CHECK and the slot's statistics. With no source, and always in safe mode, the lane's policy, or the safe policy, starts a
fill frame or leaves the lane IDLE. -/
def Obligations.TakeChoosesTheSource : Prop :=
  ∀ (s : State) (n : LaneId), s.nextDue = some (.req (.take n)) →
    let l := s.lane n
    let sending (l : Lane) (i : SlotId) (slot : Slot) : Lane := { l with
      cur := some i, sub := .sending, fifo := [], fetched := 0, sent := 0, frameLen := slot.length
      checking := if l.cfg.crcCheck = true ∧ slot.stats ≠ none then some 0xFFFFFFFF else none }
    let noReady := ∀ m, l.binding = some m → (s.lane m).readyQ = []
    (∀ i rest, s.sup.safeMode = false → l.submitQ = i :: rest →
      ∃ r, exec (.take n) s = .next r.arbitrate ∧ r.slot i = { s.slot i with st := .draining } ∧ otherSlots i s r ∧
        r.lane n = sending { l with submitQ := rest } i (s.slot i) ∧ otherLanes n s r ∧
        unchangedBut [.slots, .lanes, .moment] s r) ∧
      (∀ m i rest, s.sup.safeMode = false → l.submitQ = [] → l.binding = some m → m ≠ n →
        (s.lane m).readyQ = i :: rest →
        ∃ r, exec (.take n) s = .next r.arbitrate ∧ r.slot i = { s.slot i with st := .draining } ∧ otherSlots i s r ∧
          r.lane n = sending l i (s.slot i) ∧ r.lane m = { s.lane m with readyQ := rest } ∧
          (∀ k, k ≠ n → k ≠ m → r.lane k = s.lane k) ∧ unchangedBut [.slots, .lanes, .moment] s r) ∧
      (∀ i, s.sup.safeMode = false → l.submitQ = [] → noReady → l.cfg.egPolicy = .repeatLast → l.linger = some i →
        ∃ r, exec (.take n) s = .next r.arbitrate ∧
          r.slot i = { s.slot i with
            st := .draining, repeats := plus (s.slot i).repeats 1, flags := { (s.slot i).flags with repeated := true } } ∧
          otherSlots i s r ∧
          r.lane n = sending
            { l with linger := none, counters := { l.counters with repeated := plus l.counters.repeated 1 } } i
            (s.slot i) ∧
          otherLanes n s r ∧
          raises (if l.cfg.frameEvents then
            [laneEvent s n .frameRepeated (some i)
              ((s.slot i).seq.toNat + 65536 * (plus (s.slot i).repeats 1).toNat)] else []) s r ∧
          unchangedBut [.slots, .lanes, .log, .irq, .moment] s r) ∧
      (s.sup.safeMode = true ∨
          l.submitQ = [] ∧ noReady ∧ (l.cfg.egPolicy = .repeatLast → l.linger = none) →
        let fill := if s.sup.safeMode then s.sup.safeFill = true else l.cfg.egPolicy = .emitFill
        (fill → ∃ r, exec (.take n) s = .next r.arbitrate ∧
          r.lane n = { l with sub := .sendingFill, fillSent := 0, fifo := [] } ∧ otherLanes n s r ∧
          unchangedBut [.lanes, .moment] s r) ∧
        (¬ fill → ∃ r, exec (.take n) s = .next r.arbitrate ∧ r.lane n = { l with sub := .idle } ∧ otherLanes n s r ∧
          unchangedBut [.lanes, .moment] s r))

/-- R52, R59, R112, R113: the return of an egress lane, with a finished slot i. Where the check was made and the crc of the words
sent differs from the slot's, CRC_MISMATCH is set, counted and raised. Under REPEAT_LAST with ECC_BAD clear the slot lingers,
and the slot that lingered before is returned; otherwise it is returned itself, the linger place left as it is. The frame is
counted sent, FRAME_SENT is raised where the lane reports frames, and the lane is IDLE and, free-running, takes again, or is
STOPPED where it was STOPPING. -/
def Obligations.ReturnDisposesOfTheSlot : Prop :=
  ∀ (s : State) (n : LaneId) (i : SlotId), s.nextDue = some (.req (.ret n)) → (s.lane n).cur = some i →
    (s.lane n).cfg.dir = .egress →
    let l := s.lane n
    let slot := s.slot i
    let crc : Word := ~~~(l.checking.getD 0)
    let failed : Bool := match l.checking, slot.stats with
      | some _, some st => crc != st.crc
      | _, _ => false
    let flags : SlotFlags := { slot.flags with crcMismatch := slot.flags.crcMismatch || failed }
    let counted : Lane := { l with
      cur := none
      counters := { l.counters with
        sent := plus l.counters.sent 1
        crcMismatch := if failed then plus l.counters.crcMismatch 1 else l.counters.crcMismatch } }
    let after (l : Lane) : Lane := if l.st = .stopping then stoppedForm l else takesAgain { l with sub := .idle }
    let events : List Event :=
      (if failed then [laneEvent s n .crcMismatch (some i) crc.toNat] else []) ++
      (if l.cfg.frameEvents then
        [laneEvent s n .frameSent (some i) (slot.seq.toNat + 65536 * ((slot.length - 1) % 65536))] else []) ++
      (if l.st = .stopping then [laneEvent s n .laneStopped none 0] else [])
    let common (r : State) : Prop :=
      exec (.ret n) s = .next r.arbitrate ∧ raises events s r ∧
        (idleFreeRunner { l with sub := .idle } = true → r.outstanding (.take n) = true) ∧
        unchangedBut [.slots, .hostFree, .lanes, .log, .irq, .moment] s r
    (l.cfg.egPolicy = .repeatLast → slot.flags.eccBad = false →
      (l.linger = none →
        ∃ r, common r ∧ r.slot i = { slot with st := .linger, flags := flags } ∧ otherSlots i s r ∧
          r.lane n = after { counted with linger := some i } ∧ otherLanes n s r ∧ r.hostFree = s.hostFree) ∧
      ∀ j, l.linger = some j → j ≠ i →
        ∃ r, common r ∧ r.slot i = { slot with st := .linger, flags := flags } ∧
          r.slot j = { s.slot j with st := if (s.slot j).flags.eccBad then .quarantined else .free } ∧
          (∀ k, k ≠ i → k ≠ j → r.slot k = s.slot k) ∧
          ((s.slot j).flags.eccBad = false →
            joins j (s.slot j).owner (s.setLane n (after { counted with linger := some i })) r) ∧
          ((s.slot j).flags.eccBad = true →
            r.lane n = after { counted with linger := some i } ∧ otherLanes n s r ∧ r.hostFree = s.hostFree)) ∧
      (l.cfg.egPolicy ≠ .repeatLast ∨ slot.flags.eccBad = true →
        ∃ r, common r ∧ otherSlots i s r ∧
          r.slot i = { slot with st := if slot.flags.eccBad then .quarantined else .free, flags := flags } ∧
          (slot.flags.eccBad = false → joins i slot.owner (s.setLane n (after counted)) r) ∧
          (slot.flags.eccBad = true → r.lane n = after counted ∧ otherLanes n s r ∧ r.hostFree = s.hostFree))

/-- R48, R61, R85, R86: the allocate of an ingress lane with the SOF entry at its FIFO head. The head of the lane's free
list, or under OVERWRITE_OLDEST with that list empty the head of its ready queue with ECC_BAD clear, is FILLING in the
current place with the frame's number and stamp and every other field cleared, and the lane RECEIVING; a reuse is counted and
raised. With no slot, STALL leaves the lane STALLED, reported once, or, where it was STOPPING, STOPPED with the frame counted
and raised as dropped with reason 3; any other policy drops the frame: its SOF entry leaves the FIFO, the lane is DISCARDING,
the drop is counted and raised with reason 1, and then the frame logic goes on to the words behind it (in this order: the
model's choice, assumption 39). -/
def Obligations.AllocateFillsStallsOrDrops : Prop :=
  ∀ (s : State) (n : LaneId) (head : FifoEntry) (more : List FifoEntry), s.nextDue = some (.req (.allocate n)) →
    (s.lane n).cfg.dir = .ingress → (s.lane n).fifo = head :: more →
    let l := s.lane n
    let filling (i : SlotId) : Slot := { s.slot i with
      st := .filling, length := 0, seq := l.frameSeq, repeats := 0, stamp := l.frameStamp, flags := SlotFlags.clear
      stats := none }
    let receiving (i : SlotId) (l : Lane) : Lane := { l with
      cur := some i, sub := .receiving, fifo := { head with acted := true } :: more
      inspecting := if l.cfg.inspect then some ⟨0xFFFFFFFF, 0, 0, false⟩ else none }
    let reuse := l.freeList = [] ∧ l.cfg.inPolicy = .overwriteOldest ∧
      ∃ i rest, l.readyQ = i :: rest ∧ (s.slot i).flags.eccBad = false
    (∀ i rest, l.freeList = i :: rest → 0 < (s.slot i).capacity →
      ∃ r, exec (.allocate n) s = .next r.arbitrate ∧ r.slot i = filling i ∧ otherSlots i s r ∧
        r.lane n = receiving i { l with freeList := rest } ∧ otherLanes n s r ∧
        unchangedBut [.slots, .lanes, .moment] s r) ∧
      (∀ i rest, l.freeList = [] → l.cfg.inPolicy = .overwriteOldest → l.readyQ = i :: rest →
        (s.slot i).flags.eccBad = false → 0 < (s.slot i).capacity →
        ∃ r, exec (.allocate n) s = .next r.arbitrate ∧ r.slot i = filling i ∧ otherSlots i s r ∧
          r.lane n = receiving i
            { l with
              readyQ := rest, counters := { l.counters with overwritten := plus l.counters.overwritten 1 } } ∧
          otherLanes n s r ∧
          raises [laneEvent s n .frameOverwritten (some i)
            ((s.slot i).seq.toNat + 65536 * l.frameSeq.toNat)] s r ∧
          unchangedBut [.slots, .lanes, .log, .irq, .moment] s r) ∧
      (l.freeList = [] → l.cfg.inPolicy = .stall → l.st ≠ .stopping →
        ∃ r, exec (.allocate n) s = .next r.arbitrate ∧ r.lane n = { l with sub := .stalled } ∧ otherLanes n s r ∧
          raises (if l.sub = .stalled then [] else [laneEvent s n .slotStarved none l.frameSeq.toNat]) s r ∧
          unchangedBut [.lanes, .log, .irq, .moment] s r) ∧
      (l.freeList = [] → l.cfg.inPolicy = .stall → l.st = .stopping →
        ∃ r, exec (.allocate n) s = .next r.arbitrate ∧
          r.lane n =
            stoppedForm { l with counters := { l.counters with dropped := plus l.counters.dropped 1 } } ∧
          otherLanes n s r ∧ r.outstanding (.allocate n) = false ∧
          raises (laneEvent s n .frameDropped none (l.frameSeq.toNat + 65536 * 3) ::
            (if l.sub = .stalled then [] else [laneEvent s n .slotStarved none l.frameSeq.toNat]) ++
            [laneEvent s n .laneStopped none 0]) s r ∧
          unchangedBut [.lanes, .log, .irq, .moment] s r) ∧
      (l.freeList = [] → l.cfg.inPolicy ≠ .stall → ¬ reuse →
        ∃ r, exec (.allocate n) s = .next r.arbitrate ∧
          (r.lane n).counters.dropped = plus l.counters.dropped 1 ∧ (r.lane n).freeList = [] ∧
          (r.lane n).readyQ = l.readyQ ∧ otherLanes n s r ∧
          (more = [] →
            r.lane n = { l with
              sub := .discarding, fifo := [], counters := { l.counters with dropped := plus l.counters.dropped 1 } } ∧
            raises [laneEvent s n .frameDropped none (l.frameSeq.toNat + 65536)] s r) ∧
          (∃ t, t.lane n = { l with
              sub := .discarding, fifo := more
              counters := { l.counters with dropped := plus l.counters.dropped 1 } } ∧
            otherLanes n s t ∧ raises [laneEvent s n .frameDropped none (l.frameSeq.toNat + 65536)] s t ∧
            t.moment.asked = (requestsLeft s).1 ∧ t.moment.caused = (requestsLeft s).2 ∧
            unchangedBut [.lanes, .log, .irq, .moment] s t ∧ goesOn .causing n t r) ∧
          (l.cur = none → unchangedBut [.lanes, .log, .irq, .moment] s r))

/-! ## Read outcomes and their reports (chapter 2) -/

/-- R18: an undisturbed word reads clean, with the word last written; a word with one flipped bit among its 39 reads corrected,
with the word last written; a word with two reads uncorrectable, with its 32 stored data bits as they stand. -/
def Obligations.ReadOutcomesFollowTheFlips : Prop :=
  ∀ (w : Word) (i j : Fin 39),
    let one : BitVec 39 := 1#39 <<< i.val
    let two : BitVec 39 := one ||| 1#39 <<< j.val
    ((⟨w, 0⟩ : Cell).outcome = .clean ∧ (⟨w, 0⟩ : Cell).delivered = w) ∧
      ((⟨w, one⟩ : Cell).outcome = .corrected ∧ (⟨w, one⟩ : Cell).delivered = w) ∧
      (i ≠ j → (⟨w, two⟩ : Cell).outcome = .uncorrectable ∧
        ∀ b : Fin 32, (⟨w, two⟩ : Cell).delivered.getLsbD b.val =
          (w.getLsbD b.val != (b.val == i.val || b.val == j.val)))

/-- R19 to R24, R62: what a grant's reads report. The counts grow by the corrected and the uncorrectable words, saturating; the
last uncorrectable word is latched with its reader; every assigned slot that holds a corrected word is ECC_FIXED, every one
that holds an uncorrectable word ECC_BAD, and of the latter the FREE and LINGER ones leave their list or place and are
QUARANTINED; ECC_CORRECTED is raised while the report is armed, which disarms it, and then ECC_UNCORRECTABLE, each with the
first word concerned. -/
def Obligations.ReadsAreCountedMarkedAndReported : Prop :=
  ∀ (s : State) (reader : Reader) (rs : List WordRead),
    let corrected := rs.filter fun w => w.outcome == .corrected
    let bad := rs.filter fun w => w.outcome == .uncorrectable
    let holds (ws : List WordRead) (i : SlotId) : Bool :=
      (s.slot i).st != .unassigned &&
        ws.any fun w =>
          decide ((s.slot i).base ≤ w.addr) && decide (w.addr < (s.slot i).base + (s.slot i).capacity)
    let source : BitVec 8 := match reader with
      | .lane n => BitVec.ofNat 8 n.val
      | .window => 5
      | .engine => 7
      | .scrubber => 9
    let event (kind : Kind) (slot : Option SlotId) (detail : Nat) : Event :=
      ⟨kind, some 5, source, slot, s.tb.count, BitVec.ofNat 32 detail⟩
    let events : List Event :=
      (match corrected with
        | [] => []
        | w :: _ =>
          if s.ecc.reportArmed then [event .eccCorrected (slotList.find? (holds [w])) w.addr] else []) ++
      (match bad with
        | [] => []
        | w :: _ =>
          [event .eccUncorrectable (slotList.find? (holds [w])) (w.addr ||| 1048576 * bad.length)])
    let r := s.eccReport reader rs
    r.ecc.corrCount = plus s.ecc.corrCount corrected.length ∧ r.ecc.uncorrCount = plus s.ecc.uncorrCount bad.length ∧
      r.ecc.last = (match bad.getLast? with
        | none => s.ecc.last
        | some w => ⟨true, w.addr, reader⟩) ∧
      r.ecc.reportArmed = (s.ecc.reportArmed && corrected.isEmpty) ∧
      (∀ i, r.slot i = { s.slot i with
        st := if holds bad i ∧ ((s.slot i).st = .free ∨ (s.slot i).st = .linger) then .quarantined else (s.slot i).st
        flags := { (s.slot i).flags with
          eccFixed := (s.slot i).flags.eccFixed || holds corrected i
          eccBad := (s.slot i).flags.eccBad || holds bad i } }) ∧
      r.hostFree = s.hostFree.filter
        (fun i => !(holds bad i && (s.slot i).st == .free && (s.slot i).owner == .host)) ∧
      (∀ m, r.lane m = { s.lane m with
        freeList := (s.lane m).freeList.filter
          (fun i => !(holds bad i && (s.slot i).st == .free && (s.slot i).owner == .lane m))
        linger := (s.lane m).linger.filter (fun i => !(holds bad i && (s.slot i).st == .linger)) }) ∧
      raises events s r ∧ unchangedBut [.ecc, .slots, .hostFree, .lanes, .log, .irq] s r

/-! ## Grant ends (R33) -/

/-- R33, R34, R88, R91, R98: the end of an ingress grant of k words from a, the memory in its canonical form: memory holds the
first k FIFO words there, each sound, and no other word changes; the slot grows by k; they leave the FIFO and enter the running
statistics; a LOSS marker among them sets WORDS_LOST, raised the first time; and the grant is over, so that a LANE_HALT that
waited for it is due. A run that held an EOF requests the publish; after any other the frame logic goes on to the words still
in the FIFO. -/
def Obligations.IngressGrantWritesTheFrame : Prop :=
  ∀ (s : State) (n : LaneId) (i : SlotId) (a k : Nat), calm s → Memory.wf s.mem = true →
    s.arb.grant = some ⟨.ingress n, a, k⟩ → a + k ≤ s.memWords → (s.lane n).cfg.dir = .ingress →
    (s.lane n).cur = some i → k ≤ (s.lane n).fifo.length →
    let l := s.lane n
    let run := l.fifo.take k
    let lost := run.any FifoEntry.loss
    ∃ t r, exec .ingressGrantEnd s = .next r.arbitrate ∧
      ((∀ (j : Nat) (e : FifoEntry), j < k → l.fifo[j]? = some e → t.mem.read (a + j) = ⟨e.data, 0⟩) ∧
        otherWords a k s t ∧ t.arb = { s.arb with grant := none } ∧
        t.lane n = { l with
          fifo := l.fifo.drop k, inspecting := l.inspecting.map fun x => x.addAll (run.map FifoEntry.data) } ∧
        otherLanes n s t ∧
        t.slot i = { s.slot i with
          length := (s.slot i).length + k
          flags := { (s.slot i).flags with wordsLost := (s.slot i).flags.wordsLost || lost } } ∧
        otherSlots i s t ∧
        raises (if lost = true ∧ (s.slot i).flags.wordsLost = false then
          [laneEvent s n .wordsLost (some i) (s.slot i).seq.toNat] else []) s t ∧
        (haltWaits s n → t.moment.asked = [.command]) ∧ (¬ haltWaits s n → t.moment.asked = []) ∧ t.moment.caused = [] ∧
        unchangedBut [.mem, .arb, .slots, .lanes, .log, .irq, .moment] s t) ∧
      (run.any FifoEntry.eof = true →
        r.moment.asked = .publish n :: t.moment.asked ∧ r.moment.caused = [] ∧ unchangedBut [.moment] t r) ∧
      (run.any FifoEntry.eof = false → goesOn .asking n t r) ∧
      r.mem = t.mem ∧ r.arb = { s.arb with grant := none } ∧ otherLanes n s r ∧ otherSlots i s r ∧
      unchangedBut [.mem, .arb, .slots, .lanes, .log, .irq, .moment] s r

/-- R33, R110, R115: the end of an egress grant of k words from a: the words delivered enter the lane's FIFO in order, each marked
ERR if it read uncorrectable, and fetched grows by k; the outcomes are reported, the grant is over, so that a LANE_HALT that
waited for it is due (R115), and nothing else changes. -/
def Obligations.EgressGrantFetchesTheFrame : Prop :=
  ∀ (s : State) (n : LaneId) (a k : Nat) (flips : List Flip), calm s → s.arb.grant = some ⟨.egress n, a, k⟩ →
    a + k ≤ s.memWords →
    let m := s.mem.disturb s.memWords flips
    let rs := m.readWords a k
    let t := afterReads s m (.lane n) rs
    ∃ r, exec (.egressGrantEnd flips) s = .next r.arbitrate ∧
      r.lane n = { t.lane n with
        fifo := (t.lane n).fifo ++
          rs.map fun w => ⟨w.data, false, false, false, false, w.outcome == .uncorrectable, 0⟩
        fetched := (t.lane n).fetched + k } ∧
      otherLanes n t r ∧ r.arb = { s.arb with grant := none } ∧
      (haltWaits s n → r.moment.asked = [.command]) ∧ (¬ haltWaits s n → r.moment.asked = []) ∧ r.moment.caused = [] ∧
      unchangedBut [.lanes, .arb, .moment] t r

/-- R33, R125 to R127: the end of a window write grant of k words from a, the memory in its canonical form, puts the oldest k
entries of the write buffer into memory, sound, and takes them out of the buffer; no other word changes; a waiting write with
room now is checked and posted, or ends ERR DENIED; a read that waited for the drain is checked and issued once the buffer is
empty, before a command that the emptied buffer lets go, which is only requested (the model's choice: assumption 16). The end
of a window read grant gives the response: OK with the data delivered, the pointer moving on, or ERR ECC for an uncorrectable
word. -/
def Obligations.WindowGrantsWriteAndRead : Prop :=
  (∀ (s : State) (a k : Nat), calm s → Memory.wf s.mem = true → s.arb.grant = some ⟨.winWrite, a, k⟩ → a + k ≤ s.memWords →
    k ≤ s.win.buffer.length →
    let rest := s.win.buffer.drop k
    let wrote (r : State) : Prop :=
      exec .windowWriteGrantEnd s = .next r.arbitrate ∧
        (∀ (j : Nat) (x : Nat × Word), j < k → s.win.buffer[j]? = some x → r.mem.read (a + j) = ⟨x.2, 0⟩) ∧
        otherWords a k s r ∧ r.arb = { s.arb with grant := none } ∧
        (r.dispatchable = true → r.outstanding .command = true)
    ((∀ p d, s.port.waiting ≠ some (.winWrite p d)) → (∀ p, s.win.stage ≠ .awaitDrain p) →
      ∃ r, wrote r ∧ r.win = { s.win with buffer := rest } ∧ unchangedBut [.mem, .arb, .win, .moment] s r) ∧
      (∀ p d, s.port.waiting = some (.winWrite p d) → rest.length < 4 → s.hostAccessible (s.win.ptr p) = true →
        ∃ r, wrote r ∧ r.win = (match p with
            | .a => { s.win with
                buffer := rest ++ [(s.win.ptrA, d)], ptrA := advanced s.memWords s.win.ptrA s.win.strideA }
            | .b => { s.win with
                buffer := rest ++ [(s.win.ptrB, d)], ptrB := advanced s.memWords s.win.ptrB s.win.strideB }) ∧
          r.port = { s.port with waiting := none, stallCount := 0, resp := .ok, rdata := none } ∧
          r.sup = counted s.sup ∧ unchangedBut [.mem, .arb, .win, .moment, .port, .sup] s r) ∧
      (∀ p d, s.port.waiting = some (.winWrite p d) → rest.length < 4 → s.hostAccessible (s.win.ptr p) = false →
        ∃ r, wrote r ∧ r.win = { s.win with buffer := rest } ∧
          r.port = { s.port with
            waiting := none, stallCount := 0, resp := .err, rdata := none
            err := latched s.port.err .denied ⟨winDataAddr p, true, d⟩ } ∧
          r.sup = counted s.sup ∧ raises [hostErrorEvent s .denied ⟨winDataAddr p, true, d⟩] s r ∧
          unchangedBut [.mem, .arb, .win, .moment, .port, .sup, .log, .irq] s r) ∧
      ∀ p, s.port.waiting = some (.winRead p) → s.win.stage = .awaitDrain p →
        (rest ≠ [] → ∃ r, wrote r ∧ r.win = { s.win with buffer := rest } ∧
          unchangedBut [.mem, .arb, .win, .moment] s r) ∧
        (rest = [] → s.hostAccessible (s.win.ptr p) = true →
          ∃ r, wrote r ∧ r.win = { s.win with buffer := [], stage := .issued p } ∧
            unchangedBut [.mem, .arb, .win, .moment] s r) ∧
        (rest = [] → s.hostAccessible (s.win.ptr p) = false →
          ∃ r, wrote r ∧ r.win = { s.win with buffer := [], stage := .none } ∧
            r.port = { s.port with
              waiting := none, stallCount := 0, resp := .err, rdata := some 0
              err := latched s.port.err .denied ⟨winDataAddr p, false, 0⟩ } ∧
            r.sup = counted s.sup ∧ raises [hostErrorEvent s .denied ⟨winDataAddr p, false, 0⟩] s r ∧
            unchangedBut [.mem, .arb, .win, .moment, .port, .sup, .log, .irq] s r)) ∧
    ∀ (s : State) (p : Ptr) (a : Nat) (flips : List Flip), calm s → s.arb.grant = some ⟨.winRead, a, 1⟩ →
      a + 1 ≤ s.memWords → s.win.stage = .granted p →
      let m := s.mem.disturb s.memWords flips
      let w := m.read a
      let t := afterReads s m .window [⟨a, w.outcome, w.delivered⟩]
      (w.outcome ≠ .uncorrectable →
        ∃ r, exec (.windowReadGrantEnd flips) s = .next r.arbitrate ∧
          r.port = { s.port with waiting := none, stallCount := 0, resp := .ok, rdata := some w.delivered } ∧
          r.sup = counted s.sup ∧ r.arb = { s.arb with grant := none } ∧
          r.win = (match p with
            | .a => { s.win with stage := .none, ptrA := advanced s.memWords s.win.ptrA s.win.strideA }
            | .b => { s.win with stage := .none, ptrB := advanced s.memWords s.win.ptrB s.win.strideB }) ∧
          unchangedBut [.port, .sup, .arb, .win, .moment] t r) ∧
        (w.outcome = .uncorrectable →
          ∃ r, exec (.windowReadGrantEnd flips) s = .next r.arbitrate ∧
            r.port = { s.port with
              waiting := none, stallCount := 0, resp := .err, rdata := some 0
              err := latched s.port.err .ecc ⟨winDataAddr p, false, 0⟩ } ∧
            r.sup = counted s.sup ∧ r.arb = { s.arb with grant := none } ∧ r.win = { s.win with stage := .none } ∧
            raises [hostErrorEvent t .ecc ⟨winDataAddr p, false, 0⟩] t r ∧
            unchangedBut [.port, .sup, .arb, .win, .moment, .log, .irq] t r)

/-- R33, R141, R143 to R145, R148: the grants of COPY and FILL. A COPY read grant without an uncorrectable word hands its words
to the engine, whose write request follows; with one, the command completes ECC_FAULT with that word's address and nothing is
written. With the memory in its canonical form, a COPY write grant puts the held words, a FILL grant pattern + index × step,
into the k words from a, sound, and no other word changes; with every word done the command completes OK with the count, with
an abort pending it completes ABORTED with the words done, and otherwise its next request follows. -/
def Obligations.CopyAndFillGrants : Prop :=
  (∀ (s : State) (src dst count a k : Nat) (flips : List Flip) (e : CmdEntry) (more : List CmdEntry), calm s →
    s.arb.grant = some ⟨.copyRead, a, k⟩ → a + k ≤ s.memWords → s.eng.cmd = some (.copy src dst count) →
    s.cmd.queue = e :: more →
    let m := s.mem.disturb s.memWords flips
    let rs := m.readWords a k
    let t := afterReads s m .engine rs
    let bad := rs.filter fun w => w.outcome == .uncorrectable
    (bad = [] → ∃ r, exec (.copyReadGrantEnd flips) s = .next r.arbitrate ∧
      r.eng = { s.eng with phase := .writeWait, held := rs.map WordRead.data } ∧
      r.arb = { s.arb with grant := none } ∧ unchangedBut [.eng, .arb, .moment] t r) ∧
      ∀ w ws, bad = w :: ws → ∃ r, exec (.copyReadGrantEnd flips) s = .next r.arbitrate ∧
        r.eng = ⟨none, false, 0, .idle, [], none, false⟩ ∧ r.arb = { s.arb with grant := none } ∧
        completes t r e .eccFault w.addr none [] ∧ unchangedBut [.eng, .arb, .moment, .cmd, .log, .irq] t r) ∧
    ∀ (s : State) (c : LongCmd) (a k total : Nat) (e : CmdEntry) (more : List CmdEntry) (fills : Bool), calm s →
      Memory.wf s.mem = true → s.arb.grant = some ⟨if fills then .fill else .copyWrite, a, k⟩ → a + k ≤ s.memWords → s.eng.cmd = some c →
      s.cmd.queue = e :: more →
      (match c with
        | .copy _ _ count => fills = false ∧ k ≤ s.eng.held.length ∧ count = total
        | .fill _ count _ _ => fills = true ∧ count = total
        | .measure _ => False) →
      let row : Instr := if fills then .fillGrantEnd else .copyWriteGrantEnd
      let done := s.eng.wordsDone + k
      let word (j : Nat) : Option Word := match c with
        | .fill _ _ pattern step => some (pattern + BitVec.ofNat 32 (s.eng.wordsDone + j) * step)
        | _ => s.eng.held[j]?
      ∃ r, exec row s = .next r.arbitrate ∧ r.arb = { s.arb with grant := none } ∧
        (∀ j w, j < k → word j = some w → r.mem.read (a + j) = ⟨w, 0⟩) ∧ otherWords a k s r ∧
        (if total ≤ done then
          r.eng = ⟨none, false, 0, .idle, [], none, false⟩ ∧ completes s r e .ok done none []
        else if s.eng.abortPending then
          r.eng = ⟨none, false, 0, .idle, [], none, false⟩ ∧ completes s r e .aborted done none []
        else
          r.eng = { s.eng with
            wordsDone := done, held := [], phase := if fills then .writeWait else .readWait } ∧
          unchangedBut [.mem, .arb, .eng, .moment] s r) ∧
        unchangedBut [.mem, .arb, .eng, .moment, .cmd, .log, .irq] s r

/-- R33, R96, R97, R98, R138, R146, R148: a MEASURE grant without an uncorrectable word takes its words into the running statistics; with every
word of the slot taken, the finished statistics go into the slot and the command completes OK with the words done; with an
abort pending it completes ABORTED; otherwise the next read follows. With an uncorrectable word the slot loses its statistics
and the command completes ECC_FAULT with that word's address.

The Frame Inspector. The bits of a word are taken from bit 31 down, and words in their order. For each bit the CRC register is
shifted left, and combined with 0x04C11DB7 where its most significant bit and the input bit differ; the ones are the bits equal to
1; the leading zeros are the bits before the first 1, over all the words of the frame; a frame has seen a 1 where a word of it holds
one. From the empty sequence on, with the register all ones, the finished statistics of any words are the register inverted, the
count, the leading zeros, and ALL_ZERO where no bit is 1. -/
def Obligations.MeasureGrants : Prop :=
  (let bits (ws : List Word) : List Bool := ws.flatMap fun w => (List.range 32).map fun k => w.getLsbD (31 - k)
    let shifted (reg : Word) (b : Bool) : Word :=
      if reg.getLsbD 31 = b then reg <<< 1 else (reg <<< 1) ^^^ 0x04C11DB7#32
    (∀ reg w : Word, crcWord reg w = (bits [w]).foldl shifted reg) ∧
      (∀ (x : RunningStats) (ws : List Word), x.addAll ws =
        { crcReg := (bits ws).foldl shifted x.crcReg
          ones := x.ones + (bits ws).count true
          leadZeros := x.leadZeros + (if x.sawOne then 0 else ((bits ws).takeWhile not).length)
          sawOne := x.sawOne || (bits ws).contains true }) ∧
      ∀ ws : List Word,
        statsOf ws =
          ⟨~~~((bits ws).foldl shifted 0xFFFFFFFF#32), (bits ws).count true, ((bits ws).takeWhile not).length,
            !(bits ws).contains true⟩) ∧
  ∀ (s : State) (i : SlotId) (x : RunningStats) (a k : Nat) (flips : List Flip) (e : CmdEntry) (more : List CmdEntry),
    calm s → s.arb.grant = some ⟨.measure, a, k⟩ → a + k ≤ s.memWords → s.eng.cmd = some (.measure i) →
    s.eng.stats = some x → s.cmd.queue = e :: more →
    let m := s.mem.disturb s.memWords flips
    let rs := m.readWords a k
    let t := afterReads s m .engine rs
    let bad := rs.filter fun w => w.outcome == .uncorrectable
    let done := s.eng.wordsDone + k
    let y := x.addAll (rs.map WordRead.data)
    let idle : Engine := ⟨none, false, 0, .idle, [], none, false⟩
    let row : Instr := .measureGrantEnd flips
    (∀ w ws, bad = w :: ws → ∃ r, exec row s = .next r.arbitrate ∧ r.eng = idle ∧
      r.slot i = { t.slot i with stats := none } ∧ otherSlots i t r ∧ completes t r e .eccFault w.addr (some i) [] ∧
      r.arb = { s.arb with grant := none } ∧ unchangedBut [.eng, .arb, .slots, .moment, .cmd, .log, .irq] t r) ∧
      (bad = [] → (s.slot i).length ≤ done → ∃ r, exec row s = .next r.arbitrate ∧ r.eng = idle ∧
        r.slot i = { t.slot i with stats := some ⟨~~~y.crcReg, y.ones, y.leadZeros, !y.sawOne⟩ } ∧ otherSlots i t r ∧
        completes t r e .ok done (some i) [] ∧ r.arb = { s.arb with grant := none } ∧
        unchangedBut [.eng, .arb, .slots, .moment, .cmd, .log, .irq] t r) ∧
      (bad = [] → done < (s.slot i).length → s.eng.abortPending = true →
        ∃ r, exec row s = .next r.arbitrate ∧ r.eng = idle ∧ completes t r e .aborted done (some i) [] ∧
          r.arb = { s.arb with grant := none } ∧ unchangedBut [.eng, .arb, .moment, .cmd, .log, .irq] t r) ∧
      (bad = [] → done < (s.slot i).length → s.eng.abortPending = false →
        ∃ r, exec row s = .next r.arbitrate ∧
          r.eng = { s.eng with wordsDone := done, held := [], stats := some y, phase := .readWait } ∧
          r.arb = { s.arb with grant := none } ∧ unchangedBut [.eng, .arb, .moment] t r)

/-- R2, R25, R28 to R30, R44, R172, R173: the end of a Scrubber grant writes every corrected word back, so that it reads as
sound with the data delivered, and changes no other word (for a memory in its canonical form); it reports its reads, moves
the position on by 8 modulo the memory size, adds to the pass tallies, and at a wrap raises SCRUB_PASS with them, if enabled,
and clears them; the interval restarts, with N = 0 the next request is raised at once, and a RETAIN request that waited for
the grant is answered OK: the part enters RETAIN, which closes an open window silently, also where this response is the
window's 16th transaction (the model's choice, assumption 13). SCRUB_REQUEST raises the request of a Scrubber whose interval
has reached N. INIT_DONE ends the init sweep: every word from the sweep's address up reads 0 (that the row writes all the
words that the sweep had not reached is the model's choice, assumption 11), INITIALIZED is set and the event raised, and an
enabled Scrubber whose interval count is already at N raises its request. -/
def Obligations.ScrubberAndSweepGoOn : Prop :=
  (∀ (s : State) (a k : Nat) (flips : List Flip), calm s → s.arb.grant = some ⟨.scrub, a, k⟩ → a + k ≤ s.memWords →
    let m := s.mem.disturb s.memWords flips
    let rs := m.readWords a k
    let corrected := rs.filter fun w => w.outcome == .corrected
    let bad := rs.filter fun w => w.outcome == .uncorrectable
    let t := afterReads s (m.writeBack rs) .scrubber rs
    let pos := (s.scrub.pos + 8) % s.memWords
    let corr := plus s.scrub.corrTally corrected.length
    let uncorr := plus s.scrub.uncorrTally bad.length
    let events : List Event :=
      if pos = 0 ∧ s.scrub.passEvent = true then
        [⟨.scrubPass, some 5, 9, none, s.tb.count, BitVec.ofNat 32 (corr.toNat + 65536 * uncorr.toNat)⟩] else []
    let scrubbed (r : State) : Prop :=
      exec (.scrubGrantEnd flips) s = .next r.arbitrate ∧ r.arb = { s.arb with grant := none } ∧
        r.scrub = { s.scrub with
          pos := pos, interval := 0, corrTally := if pos = 0 then 0 else corr
          uncorrTally := if pos = 0 then 0 else uncorr
          request := s.scrub.request || (s.scrub.enabled && !s.sweep.running && s.power != .retain && s.scrub.n == 0) } ∧
        raises events t r ∧
        (Memory.wf s.mem = true →
          (∀ w ∈ corrected, r.mem.read w.addr = ⟨w.data, 0⟩) ∧
            ∀ b, (∀ w ∈ corrected, w.addr ≠ b) → r.mem.read b = m.read b)
    (s.port.waiting ≠ some .retain →
      ∃ r, scrubbed r ∧ unchangedBut [.arb, .scrub, .log, .irq, .moment] t r) ∧
      (s.port.waiting = some .retain →
        ∃ r, scrubbed r ∧ r.power = .retain ∧
          r.port = { s.port with waiting := none, stallCount := 0, resp := .ok, rdata := none } ∧
          r.sup = (if s.sup.st = .armed then { s.sup with st := .running, windowCount := 0 } else s.sup) ∧
          unchangedBut [.arb, .scrub, .log, .irq, .moment, .power, .port, .sup] t r)) ∧
    (∀ s : State, s.nextDue = some (.req .scrubRequest) →
      ∃ r, exec .scrubRequest s = .next r.arbitrate ∧
        r.scrub = { s.scrub with
          request := s.scrub.request || (s.scrubCounting && decide (s.scrub.n ≤ s.scrub.interval)) } ∧
        unchangedBut [.scrub, .moment] s r) ∧
    ∀ s : State, calm s → s.sweep.running = true →
      ∃ r, exec .initDone s = .next r.arbitrate ∧ r.sweep = ⟨false, 0, true⟩ ∧
        (∀ a, s.sweep.next ≤ a → a < s.memWords → r.mem.read a = ⟨0, 0⟩) ∧
        (∀ a, a < s.sweep.next ∨ s.memWords ≤ a → r.mem.read a = s.mem.read a) ∧
        raises [⟨.initDone, some 5, 8, none, s.tb.count, BitVec.ofNat 32 s.memWords⟩] s r ∧
        r.scrub = { s.scrub with request := r.scrub.request } ∧
        (r.scrub.request = true ↔ s.scrub.request = true ∨
          s.scrub.enabled = true ∧ s.power ≠ .retain ∧ (∀ g, s.arb.grant = some g → g.who ≠ .scrub) ∧
            s.scrub.n ≤ s.scrub.interval) ∧
        unchangedBut [.mem, .sweep, .log, .irq, .scrub, .moment] s r

/-! ## Streams (chapters 5 and 6) -/

/-- R75, R81 to R92: a word offered to a lane. With Ln_READY false, or to a STOPPED lane, it changes nothing; to a full FIFO
in must-accept mode it is lost: counted, and loss-pending set; otherwise it enters the FIFO with its markers, the pending LOSS
marker, and the stamp of an SOF word. In RECEIVING, behind an entry that a grant will write, that is all; in IDLE with an
empty FIFO an SOF word begins a frame, which takes the next sequence number and requests an allocate, and any other word is a
stray: counted, and raised while the stray report is armed. In every case the frame logic goes on from the FIFO with the word at
its tail. The lane drives Ln_READY accordingly: true in must-accept mode, with BACKPRESSURE while it moves and its FIFO holds fewer
than 32 entries, and false on a lane that is OFF and while RSTN is low.

The frame logic handles one entry at the head after another, until there is nothing to handle: the lane is not a moving
ingress lane, its FIFO is empty, a publish or allocate of it is outstanding, the entry is one that a grant will write, or the
lane is STALLED. The LOSS marker of a handled entry sets WORDS_LOST on the slot in hand, raised the first time. In IDLE a STOPPING
lane stops, an SOF begins a frame, and any other entry is a stray. In RECEIVING an unacted SOF, and in DISCARDING with a slot any
SOF, cuts the frame: CUT, with the publish requested and the entry still at the head. In RECEIVING with a full slot any other
entry is removed: TRUNCATED, and on to DISCARDING unless it is the EOF. In DISCARDING with a slot any other entry is removed. An
EOF so removed requests the publish. In DISCARDING without a slot an SOF leads to IDLE, an entry with EOF is removed and leads to
IDLE, where a STOPPING lane stops, and any other is removed. -/
def Obligations.ArrivingWords : Prop :=
  (∀ (s : State) (n : LaneId) (data : Word) (sof eof : Bool), calm s →
    let l := s.lane n
    let row := exec (.wordArrival n data sof eof) s
    let ready := l.cfg.dir = .ingress ∧ l.st ≠ .off ∧
      (l.cfg.backpressure = true → l.moving = true ∧ l.fifo.length < 32)
    let entry : FifoEntry := ⟨data, sof, eof, l.lossPending, false, false, if sof then s.tb.count else 0⟩
    (¬ ready ∨ l.moving = false → ∃ r, row = .next r.arbitrate ∧ unchangedBut [.moment] s r ∧ r.moment.asked = []) ∧
      (ready → l.moving = true → 32 ≤ l.fifo.length →
        ∃ r, row = .next r.arbitrate ∧
          r.lane n = { l with
            lossPending := true, counters := { l.counters with wordsLost := plus l.counters.wordsLost 1 } } ∧
          otherLanes n s r ∧ unchangedBut [.moment, .lanes] s r) ∧
      (∀ i h more, ready → l.moving = true → l.fifo.length < 32 → l.sub = .receiving → l.cur = some i →
        (s.slot i).length < (s.slot i).capacity → l.fifo = h :: more → (h.sof = false ∨ h.acted = true) →
        ∃ r, row = .next r.arbitrate ∧ r.lane n = { l with fifo := l.fifo ++ [entry], lossPending := false } ∧
          otherLanes n s r ∧ unchangedBut [.moment, .lanes] s r) ∧
      (ready → l.st = .running → l.sub = .idle → l.cur = none → l.fifo = [] → sof = true →
        ∃ r, row = .next r.arbitrate ∧
          r.lane n = { l with
            fifo := [{ entry with loss := false }], lossPending := false, frameSeq := l.nextSeq
            frameStamp := s.tb.count, nextSeq := l.nextSeq + 1, strayArmed := true } ∧
          otherLanes n s r ∧ r.outstanding (.allocate n) = true ∧ unchangedBut [.moment, .lanes] s r) ∧
      (ready → l.st = .running → l.sub = .idle → l.cur = none → l.fifo = [] → sof = false →
        ∃ r, row = .next r.arbitrate ∧
          r.lane n = { l with
            lossPending := false, strayArmed := false
            counters := { l.counters with strayWords := plus l.counters.strayWords 1 } } ∧
          otherLanes n s r ∧
          raises (if l.strayArmed then [laneEvent s n .strayWords none data.toNat] else []) s r ∧
          unchangedBut [.moment, .lanes, .log, .irq] s r) ∧
      (ready → l.moving = true → l.fifo.length < 32 →
        ∃ t r, row = .next r.arbitrate ∧
          (t.lane n = { l with fifo := l.fifo ++ [entry], lossPending := false } ∧ otherLanes n s t ∧
            t.moment.asked = [] ∧ t.moment.caused = [] ∧ unchangedBut [.moment, .lanes] s t) ∧
          goesOn .asking n t r) ∧
      (l.cfg.dir = .ingress → s.streamOut n = ⟨some (decide ready), none, none, none, none, none⟩)) ∧
    (∀ (s : State) (n : LaneId), (s.lane n).cfg.dir = .none ∨ s.rst.pinHeld = true →
      (s.streamOut n).ready = some false ∧ (s.streamOut n).valid = some false) ∧
    (∀ (v : Voice) (n : LaneId) (s : State), s.frameLogic v n = match s.handleHead v n with
      | none => s
      | some t => t.frameLogic v n) ∧
    ∀ (s : State) (v : Voice) (n : LaneId),
      let l := s.lane n
      let handles := l.cfg.dir = .ingress ∧ l.moving = true ∧ s.outstanding (.publish n) = false ∧
        s.outstanding (.allocate n) = false
      (¬ handles ∨ l.fifo = [] → s.handleHead v n = none) ∧
        ∀ h more, handles → l.fifo = h :: more →
          let head : Lane := { l with fifo := { h with loss := false } :: more }
          let tail : Lane := { l with fifo := more }
          let unacted := h.sof = true ∧ h.acted = false
          (l.sub = .idle → l.st = .stopping →
            ∃ t, s.handleHead v n = some t ∧ t.lane n = stoppedForm l ∧ otherLanes n s t ∧
              t.outstanding (.take n) = false ∧ t.outstanding (.allocate n) = false ∧
              raises [laneEvent s n .laneStopped none 0] s t ∧ unchangedBut [.lanes, .log, .irq, .moment] s t) ∧
          (l.sub = .idle → l.st = .running → l.cur = none → h.sof = true →
            ∃ t, s.handleHead v n = some t ∧
              t.lane n = { head with
                frameSeq := l.nextSeq, frameStamp := h.stamp, nextSeq := l.nextSeq + 1, strayArmed := true } ∧
              otherLanes n s t ∧ t.outstanding (.allocate n) = true ∧ unchangedBut [.lanes, .moment] s t) ∧
          (l.sub = .idle → l.st = .running → l.cur = none → h.sof = false →
            ∃ t, s.handleHead v n = some t ∧
              t.lane n = { tail with
                strayArmed := false
                counters := { l.counters with strayWords := plus l.counters.strayWords 1 } } ∧
              otherLanes n s t ∧
              raises (if l.strayArmed then [laneEvent s n .strayWords none h.data.toNat] else []) s t ∧
              unchangedBut [.lanes, .log, .irq] s t) ∧
          (∀ i, l.cur = some i →
            let flags : SlotFlags := { (s.slot i).flags with wordsLost := (s.slot i).flags.wordsLost || h.loss }
            let marked (t : State) : Prop :=
              s.handleHead v n = some t ∧ otherLanes n s t ∧ otherSlots i s t ∧
                raises (if h.loss = true ∧ (s.slot i).flags.wordsLost = false then
                  [laneEvent s n .wordsLost (some i) (s.slot i).seq.toNat] else []) s t ∧
                unchangedBut [.slots, .lanes, .log, .irq, .moment] s t
            (l.sub = .receiving ∧ unacted ∨ l.sub = .discarding ∧ h.sof = true →
              ∃ t, marked t ∧ t.lane n = head ∧ t.slot i = { s.slot i with flags := { flags with cut := true } } ∧
                t.outstanding (.publish n) = true) ∧
            (l.sub = .receiving → ¬ unacted → (s.slot i).length < (s.slot i).capacity → s.handleHead v n = none) ∧
            (l.sub = .receiving → ¬ unacted → (s.slot i).capacity ≤ (s.slot i).length →
              ∃ t, marked t ∧ t.lane n = { tail with sub := if h.eof then .receiving else .discarding } ∧
                t.slot i = { s.slot i with flags := { flags with truncated := true } } ∧
                t.outstanding (.publish n) = h.eof) ∧
            (l.sub = .discarding → h.sof = false →
              ∃ t, marked t ∧ t.lane n = tail ∧ t.slot i = { s.slot i with flags := flags } ∧
                t.outstanding (.publish n) = h.eof)) ∧
          (l.sub = .discarding → l.cur = none → h.sof = true →
            ∃ t, s.handleHead v n = some t ∧ t.lane n = { l with sub := .idle } ∧ otherLanes n s t ∧
              unchangedBut [.lanes] s t) ∧
          (l.sub = .discarding → l.cur = none → h.sof = false → (h.eof = false ∨ l.st ≠ .stopping) →
            ∃ t, s.handleHead v n = some t ∧ t.lane n = { tail with sub := if h.eof then .idle else .discarding } ∧
              otherLanes n s t ∧ unchangedBut [.lanes] s t) ∧
          (l.sub = .discarding → l.cur = none → h.sof = false → h.eof = true → l.st = .stopping →
            ∃ t, s.handleHead v n = some t ∧ t.lane n = stoppedForm l ∧ otherLanes n s t ∧
              t.outstanding (.take n) = false ∧ t.outstanding (.allocate n) = false ∧
              raises [laneEvent s n .laneStopped none 0] s t ∧ unchangedBut [.lanes, .log, .irq, .moment] s t) ∧
          (l.sub ∉ [.idle, .receiving, .discarding] ∨ l.sub = .receiving ∧ l.cur = none → s.handleHead v n = none)

/-- R100, R105, R106, R109, R110: a ready partner takes the word an egress lane offers; with none offered nothing happens. The
word leaves the FIFO, is counted sent and, under the CRC check, taken in; an ERR word is counted; the last word of the frame
leaves the lane CLOSING with its return requested. A fill word is counted, and the last ends the fill frame: counted, raised
where the lane reports frames, and the lane is IDLE and, free-running, takes again, or STOPPED where it was STOPPING. A rising
edge of Ln_TRIG starts a take on a triggered lane that is RUNNING and IDLE, is counted and raised as missed on one that is
otherwise RUNNING or STOPPING, and has no effect elsewhere.

The lane's outputs: with a word offered, Ln_VALID true, the word, and the markers of the first word, of the last, and of an
uncorrectable one; without one, Ln_VALID false; and on a STOPPED lane the markers false and Ln_D 0 besides. -/
def Obligations.SendingAndTriggers : Prop :=
  ∀ (s : State) (n : LaneId), calm s →
    let l := s.lane n
    let sends := l.cfg.dir = .egress ∧ l.moving = true
    let sentRow := exec (.wordSent n) s
    ((¬ sends ∨ l.sub ≠ .sendingFill ∧ (l.sub ≠ .sending ∨ l.fifo = []) →
      ∃ r, sentRow = .next r.arbitrate ∧ unchangedBut [.moment] s r ∧ r.moment.asked = []) ∧
      (∀ e more, sends → l.sub = .sending → l.fifo = e :: more →
        let last := l.sent + 1 = l.frameLen
        ∃ r, sentRow = .next r.arbitrate ∧
          r.lane n = { l with
            fifo := more, sent := l.sent + 1, checking := l.checking.map fun c => crcWord c e.data
            sub := if last then .closing else .sending
            counters := { l.counters with
              eccWords := if e.err then plus l.counters.eccWords 1 else l.counters.eccWords } } ∧
          otherLanes n s r ∧ (r.outstanding (.ret n) = true ↔ last) ∧ unchangedBut [.moment, .lanes] s r) ∧
      (sends → l.sub = .sendingFill → l.fillSent + 1 ≠ l.fillLen.toNat + 1 →
        ∃ r, sentRow = .next r.arbitrate ∧ r.lane n = { l with fillSent := l.fillSent + 1 } ∧ otherLanes n s r ∧
          unchangedBut [.moment, .lanes] s r) ∧
      (sends → l.sub = .sendingFill → l.fillSent + 1 = l.fillLen.toNat + 1 →
        let counted : Lane := { l with
          fillSent := l.fillSent + 1, counters := { l.counters with fills := plus l.counters.fills 1 } }
        ∃ r, sentRow = .next r.arbitrate ∧
          r.lane n =
            (if l.st = .stopping then stoppedForm counted else takesAgain { counted with sub := .idle }) ∧
          otherLanes n s r ∧
          (l.st ≠ .stopping → idleFreeRunner { counted with sub := .idle } = true → r.outstanding (.take n) = true) ∧
          raises ((if l.cfg.frameEvents then [laneEvent s n .fillSent none (l.fillLen.toNat + 1)] else []) ++
            (if l.st = .stopping then [laneEvent s n .laneStopped none 0] else [])) s r ∧
          unchangedBut [.moment, .lanes, .log, .irq] s r)) ∧
      (∀ level : Bool,
        let edge := level = true ∧ l.trig = false
        let edgeRow := exec (.triggerEdge n level) s
        (¬ (edge ∧ sends ∧ l.cfg.triggered = true) →
          ∃ t, edgeRow = .next t ∧ t.lane n = { l with trig := level } ∧ otherLanes n s t ∧
            unchangedBut [.moment, .lanes] s t) ∧
        (edge → sends → l.cfg.triggered = true → l.st = .running → l.sub = .idle →
          ∃ t, edgeRow = .next t ∧ t.lane n = { l with trig := true, sub := .taking } ∧ otherLanes n s t ∧
            t.outstanding (.take n) = true ∧ unchangedBut [.moment, .lanes] s t) ∧
        (edge → sends → l.cfg.triggered = true → ¬ (l.st = .running ∧ l.sub = .idle) →
          ∃ t, edgeRow = .next t ∧
            t.lane n = { l with
              trig := true, counters := { l.counters with triggersMissed := plus l.counters.triggersMissed 1 } } ∧
            otherLanes n s t ∧ raises [laneEvent s n .triggerMissed l.cur (wordsOut l)] s t ∧
            unchangedBut [.moment, .lanes, .log, .irq] s t)) ∧
      (∀ e more, sends → l.sub = .sending → l.fifo = e :: more →
        s.streamOut n =
          ⟨none, some true, some (l.sent == 0), some (l.sent + 1 == l.frameLen), some e.err, some e.data⟩) ∧
      (sends → l.sub = .sendingFill →
        s.streamOut n =
          ⟨none, some true, some (l.fillSent == 0), some (l.fillSent == l.fillLen.toNat), some false, some l.fillWord⟩) ∧
      (sends → (l.sub = .sending → l.fifo = []) → l.sub ≠ .sendingFill → (s.streamOut n).valid = some false) ∧
      (l.cfg.dir = .egress → l.moving = false →
        s.streamOut n = ⟨none, some false, some false, some false, some false, some 0⟩)

/-! ## Resets (chapter 10) -/

/-- R8, R45, R74, R167, R174, R176, R177: with no request asserted meanwhile, a power-on reset, and a pin reset at the fall of
RSTN, leave every field at its default: the lock clear, TB_COUNT 0; the power-on reset loses memory and starts the init sweep,
and clears the supervisor reset count; the pin reset keeps memory, but for the words a cut grant had written, keeps the count,
and restarts a sweep that had not ended. Of a write grant cut after some accesses, exactly so many of its words, from its
first, are in memory, each sound; of a Scrubber's, so many words have been read, and those corrected written back; and no other
word changes. The supervisor takes its state from SUPEN, and RESET_RECORD is written, as the power-on reset completes, or when
RSTN returns high. The model's choices: memory lists nothing at once after a power-on reset, and so reads 0 before the sweep
has come there (assumption 4); a power-on reset is taken with RSTN high (assumption 22); fields that the manual gives no reset
value are 0, none or deasserted (assumption 24). A request that the host holds asserted through the reset is accepted as it completes,
and does then what its access does (R8). -/
def Obligations.PowerOnAndPinReset : Prop :=
  (∀ (s : State) (supen : Bool), s.port.askedFor = none →
    ∃ r, exec (.powerOnReset supen) s = .next r.arbitrate ∧ resetDefaults s r ∧ r.mem = [] ∧ r.sweep = ⟨true, 0, false⟩ ∧
      r.port.lock = false ∧ r.port.err = ⟨none, 0, false, false, 0⟩ ∧ r.irq.flags = 0 ∧ r.tb.count = 0 ∧
      r.sup.st = (if supen then .running else .off) ∧ r.sup.counter = 0 ∧ r.sup.safeMode = false ∧
      r.rst = ⟨.por, 0, false, false, false⟩ ∧ resetRecorded r) ∧
    (∀ (s : State) (cut : Nat), s.rst.pinHeld = false → (∀ g, s.arb.grant = some g → g.addr + g.count ≤ s.memWords) →
      ∃ t, exec (.pinReset cut) s = .next t ∧ resetDefaults s t ∧
        t.mem = (match s.arb.grant with
          | none => s.mem
          | some g => s.memoryAfter g (min cut g.count)) ∧
        (Memory.wf s.mem = true → ∀ g, s.arb.grant = some g →
          let k := min cut g.count
          let word (j : Nat) : Option Word := match g.who, s.eng.cmd with
            | .ingress n, _ => (s.lane n).fifo[j]?.map FifoEntry.data
            | .winWrite, _ => s.win.buffer[j]?.map Prod.snd
            | .copyWrite, _ => s.eng.held[j]?
            | .fill, some (.fill _ _ pattern step) => some (pattern + BitVec.ofNat 32 (s.eng.wordsDone + j) * step)
            | _, _ => none
          (∀ b, b < g.addr ∨ g.addr + k ≤ b → t.mem.read b = s.mem.read b) ∧
            ∀ j < k, t.mem.read (g.addr + j) =
              match word j with
              | some w => ⟨w, 0⟩
              | none =>
                let old := s.mem.read (g.addr + j)
                if g.who = .scrub ∧ old.outcome = .corrected then ⟨old.delivered, 0⟩ else old) ∧
        t.sweep = (if s.sweep.initialized then s.sweep else ⟨true, 0, false⟩) ∧ t.port.lock = false ∧
        t.port.err = ⟨none, 0, false, false, 0⟩ ∧ t.irq.flags = 0 ∧ t.tb.count = 0 ∧ t.sup.safeMode = false ∧
        t.rst = ⟨.pin, s.rst.supCount, true, false, false⟩ ∧ t.port.askedFor = s.port.askedFor) ∧
    (∀ (s : State) (supen : Bool), s.rst.pinHeld = true → s.port.askedFor = none →
      ∃ r, exec (.rstnRelease supen) s = .next r.arbitrate ∧ r.rst = { s.rst with pinHeld := false } ∧
        r.sup = { s.sup with st := if supen then .running else .off, counter := 0 } ∧ resetRecorded r ∧
        r.log = { s.log with records := r.log.records, nextSeq := r.log.nextSeq } ∧
        unchangedBut [.rst, .sup, .log] s r) ∧
    ∀ (s : State) (supen : Bool) (a : Access), s.port.askedFor = some a →
      let free : State := { s with port := { s.port with askedFor := none } }
      (∃ r, exec (.powerOnReset supen) free = .next r.arbitrate ∧ resetRecorded r ∧ quiet r ∧
        exec (.powerOnReset supen) s = exec (accessRow a) r) ∧
        (s.rst.pinHeld = true → s.rst.supDue = false → s.rst.softDue = false → s.moment = Moment.empty →
          s.port.waiting = none →
          ∃ r, exec (.rstnRelease supen) free = .next r.arbitrate ∧ resetRecorded r ∧ quiet r ∧
            exec (.rstnRelease supen) s = exec (accessRow a) r)

/-- R8, R9, R10, R174 to R177: with no request asserted meanwhile, a supervisor or soft reset that is due leaves every field at
its default but the memory and its sweep, the lock and TB_COUNT, which it keeps; a soft reset also keeps the supervisor's
state, counter, window and safe mode, while a supervisor reset leaves it RUNNING from 0 and adds 1 to the supervisor reset
count; where both are due the supervisor reset counts. RESET_RECORD is written. A waiting transaction ends ERR RESET, latched,
and its HOST_ERROR sets the HOST flag alone, the log enables being off. A request that the host holds asserted through the reset is
accepted as it completes, and does then what its access does. -/
def Obligations.SupervisorAndSoftReset : Prop :=
  (∀ s : State, s.nextDue = some .reset → s.port.askedFor = none →
    let row : Instr := if s.rst.supDue then .supervisorReset else .softReset
    let fresh (w : Option Wait) (r : State) : Prop :=
      exec row s = .next r.arbitrate ∧ resetDefaults s r ∧ r.mem = s.mem ∧ r.sweep = s.sweep ∧
        r.port.lock = s.port.lock ∧ r.tb.count = s.tb.count ∧ resetRecorded r ∧
        (if s.rst.supDue then
          r.rst = ⟨.sup, BitVec.ofNat 8 (min 255 (s.rst.supCount.toNat + 1)), false, false, false⟩ ∧
            r.sup.st = .running ∧ r.sup.counter = 0 ∧ r.sup.safeMode = false ∧ r.sup.windowCount = 0
        else
          r.rst = ⟨.soft, s.rst.supCount, false, false, false⟩ ∧ r.sup.st = s.sup.st ∧
            r.sup.counter = s.sup.counter ∧ r.sup.safeMode = s.sup.safeMode ∧
            (w = none → r.sup.windowCount = s.sup.windowCount))
    (s.port.waiting = none →
      ∃ r, fresh none r ∧ r.port.err = ⟨none, 0, false, false, 0⟩ ∧ r.irq.flags = 0) ∧
      ∀ w, s.port.waiting = some w →
        ∃ r, fresh (some w) r ∧ r.port.resp = .err ∧
          r.port.err = ⟨some .reset, w.access.addr, w.access.write, false, 1⟩ ∧ r.irq.flags = 64) ∧
    ∀ (s : State) (a : Access), s.nextDue = some .reset → s.port.waiting = none → s.port.askedFor = some a →
      let row : Instr := if s.rst.supDue then .supervisorReset else .softReset
      ∃ r, exec row { s with port := { s.port with askedFor := none } } = .next r.arbitrate ∧ resetRecorded r ∧ quiet r ∧
        exec row s = exec (accessRow a) r

/-! ## Constant and plain registers -/

/-- R181: DEV_ID and DEV_CAPS read the part's constants in every state of a port that takes requests, in every power state and
during the init sweep: PART, REVISION 1, the memory size that every other rule uses, and the tiers; a write ends ERR READ_ONLY;
and no command, a reset included, changes the part that they name. -/
def Obligations.IdentityRegistersAreConstants : Prop :=
  (∀ (s : State) (data : Word), quiet s →
    let id : Word := match s.part with
      | .bso2404 => 0xB5012404
      | .bso2408 => 0xB5012408
    let caps : Word := match s.part with
      | .bso2404 => 0x04220000
      | .bso2408 => 0x04440000
    s.memWords = caps.toNat % 1048576 ∧
      (∃ r, exec (.registerRead 0x00) s = .next r.arbitrate ∧ answeredOk s r (some id) ∧
        unchangedBut [.port, .sup, .moment] s r) ∧
      (∃ r, exec (.registerRead 0x01) s = .next r.arbitrate ∧ answeredOk s r (some caps) ∧
        unchangedBut [.port, .sup, .moment] s r) ∧
      ∀ addr ∈ [(0x00 : BitVec 8), 0x01],
        ∃ r, exec (.registerWrite addr data) s = .next r.arbitrate ∧ refusedWith s r .readOnly ⟨addr, true, data⟩ ∧
          unchangedBut [.port, .sup, .log, .irq, .moment] s r) ∧
    ∀ (c : Instr) (s t : State), exec c s = .next t → t.part = s.part

/-- R121: outside RETAIN, a read of WIN_PTR returns the pointer and a read of WIN_STRIDE the stride in the low 8 bits, 0 above; a
write of WIN_PTR below the memory size stores the pointer and ends OK, and any larger value ends ERR BAD_ADDRESS, the pointer
keeping its value; a write of WIN_STRIDE stores the low 8 bits, a number from −128 to 127, and ends OK whatever the value; no
entry of the write buffer changes. In RETAIN every access of the four registers ends ERR POWER. -/
def Obligations.PointerAndStrideRegisters : Prop :=
  let ptrs (p : Ptr) : BitVec 8 := match p with
    | .a => 0x10
    | .b => 0x13
  let strides (p : Ptr) : BitVec 8 := match p with
    | .a => 0x11
    | .b => 0x14
  ∀ (s : State) (data : Word) (p : Ptr), quiet s →
    (s.power ≠ .retain →
      (∃ r, exec (.registerRead (ptrs p)) s = .next r.arbitrate ∧
        answeredOk s r (some (BitVec.ofNat 32 (s.win.ptr p))) ∧ unchangedBut [.port, .sup, .moment] s r) ∧
      (∃ r, exec (.registerRead (strides p)) s = .next r.arbitrate ∧
        answeredOk s r (some ((s.win.stride p).setWidth 32)) ∧ unchangedBut [.port, .sup, .moment] s r) ∧
      (data.toNat < s.memWords →
        ∃ r, exec (.registerWrite (ptrs p) data) s = .next r.arbitrate ∧ answeredOk s r none ∧
          r.win = (match p with
            | .a => { s.win with ptrA := data.toNat }
            | .b => { s.win with ptrB := data.toNat }) ∧ unchangedBut [.port, .sup, .moment, .win] s r) ∧
      (s.memWords ≤ data.toNat →
        ∃ r, exec (.registerWrite (ptrs p) data) s = .next r.arbitrate ∧
          refusedWith s r .badAddress ⟨ptrs p, true, data⟩ ∧
          unchangedBut [.port, .sup, .log, .irq, .moment] s r) ∧
      ∃ r, exec (.registerWrite (strides p) data) s = .next r.arbitrate ∧ answeredOk s r none ∧
        r.win = (match p with
          | .a => { s.win with strideA := data.setWidth 8 }
          | .b => { s.win with strideB := data.setWidth 8 }) ∧
        -128 ≤ (r.win.stride p).toInt ∧ (r.win.stride p).toInt ≤ 127 ∧
        unchangedBut [.port, .sup, .moment, .win] s r) ∧
      (s.power = .retain →
        ∀ addr ∈ [ptrs p, strides p],
          (∃ r, exec (.registerRead addr) s = .next r.arbitrate ∧ refusedWith s r .power ⟨addr, false, 0⟩ ∧
            unchangedBut [.port, .sup, .log, .irq, .moment] s r) ∧
          ∃ r, exec (.registerWrite addr data) s = .next r.arbitrate ∧ refusedWith s r .power ⟨addr, true, data⟩ ∧
            unchangedBut [.port, .sup, .log, .irq, .moment] s r)
end

