-- ==== Sys2Proof/Laws/State.lean ====
section
/-! SUPPORT. The small lemmas of the state's updates: for each plain update and each group of the state, what the update
leaves; and what lanes and slots read as after a lane or a slot is set. -/

namespace Sys2Proof.Laws

open Sys2Proof.Machine

/-! ## Lanes and slots read back -/

@[simp] theorem lane_setLane_same (s : State) (n : LaneId) (l : Lane) : (s.setLane n l).lane n = l := by
  change (s.lanes.set n.val l n.isLt)[n.val] = l
  simp

theorem lane_setLane_other (s : State) (n m : LaneId) (l : Lane) (h : m ≠ n) : (s.setLane n l).lane m = s.lane m := by
  have : n.val ≠ m.val := fun e => h (Fin.ext e.symm)
  change (s.lanes.set n.val l n.isLt)[m.val] = s.lanes[m.val]
  simp [this]

@[simp] theorem lane_updLane_same (s : State) (n : LaneId) (f : Lane → Lane) : (s.updLane n f).lane n = f (s.lane n) :=
  lane_setLane_same s n _

theorem lane_updLane_other (s : State) (n m : LaneId) (f : Lane → Lane) (h : m ≠ n) :
    (s.updLane n f).lane m = s.lane m := lane_setLane_other s n m _ h

@[simp] theorem slot_setSlot_same (s : State) (i : SlotId) (r : Slot) : (s.setSlot i r).slot i = r := by
  change (s.slots.set i.val r i.isLt)[i.val] = r
  simp

theorem slot_setSlot_other (s : State) (i j : SlotId) (r : Slot) (h : j ≠ i) : (s.setSlot i r).slot j = s.slot j := by
  have : i.val ≠ j.val := fun e => h (Fin.ext e.symm)
  change (s.slots.set i.val r i.isLt)[j.val] = s.slots[j.val]
  simp [this]

@[simp] theorem slot_updSlot_same (s : State) (i : SlotId) (f : Slot → Slot) : (s.updSlot i f).slot i = f (s.slot i) :=
  slot_setSlot_same s i _

theorem slot_updSlot_other (s : State) (i j : SlotId) (f : Slot → Slot) (h : j ≠ i) :
    (s.updSlot i f).slot j = s.slot j := slot_setSlot_other s i j _ h

@[simp] theorem lane_setSlot (s : State) (i : SlotId) (r : Slot) (n : LaneId) : (s.setSlot i r).lane n = s.lane n := rfl

@[simp] theorem lane_updSlot (s : State) (i : SlotId) (f : Slot → Slot) (n : LaneId) :
    (s.updSlot i f).lane n = s.lane n := rfl

@[simp] theorem slot_setLane (s : State) (n : LaneId) (l : Lane) (i : SlotId) : (s.setLane n l).slot i = s.slot i := rfl

@[simp] theorem slot_updLane (s : State) (n : LaneId) (f : Lane → Lane) (i : SlotId) :
    (s.updLane n f).slot i = s.slot i := rfl

/-! ## State.setLane -/

@[simp] theorem setLane_part (s : State) (n : LaneId) (l : Lane) : (s.setLane n l).part = s.part := rfl
@[simp] theorem setLane_pending (s : State) (n : LaneId) (l : Lane) : (s.setLane n l).pending = s.pending := rfl
@[simp] theorem setLane_port (s : State) (n : LaneId) (l : Lane) : (s.setLane n l).port = s.port := rfl
@[simp] theorem setLane_mem (s : State) (n : LaneId) (l : Lane) : (s.setLane n l).mem = s.mem := rfl
@[simp] theorem setLane_sweep (s : State) (n : LaneId) (l : Lane) : (s.setLane n l).sweep = s.sweep := rfl
@[simp] theorem setLane_ecc (s : State) (n : LaneId) (l : Lane) : (s.setLane n l).ecc = s.ecc := rfl
@[simp] theorem setLane_scrub (s : State) (n : LaneId) (l : Lane) : (s.setLane n l).scrub = s.scrub := rfl
@[simp] theorem setLane_arb (s : State) (n : LaneId) (l : Lane) : (s.setLane n l).arb = s.arb := rfl
@[simp] theorem setLane_slots (s : State) (n : LaneId) (l : Lane) : (s.setLane n l).slots = s.slots := rfl
@[simp] theorem setLane_hostFree (s : State) (n : LaneId) (l : Lane) : (s.setLane n l).hostFree = s.hostFree := rfl
@[simp] theorem setLane_slotPort (s : State) (n : LaneId) (l : Lane) : (s.setLane n l).slotPort = s.slotPort := rfl
@[simp] theorem setLane_win (s : State) (n : LaneId) (l : Lane) : (s.setLane n l).win = s.win := rfl
@[simp] theorem setLane_cmd (s : State) (n : LaneId) (l : Lane) : (s.setLane n l).cmd = s.cmd := rfl
@[simp] theorem setLane_eng (s : State) (n : LaneId) (l : Lane) : (s.setLane n l).eng = s.eng := rfl
@[simp] theorem setLane_log (s : State) (n : LaneId) (l : Lane) : (s.setLane n l).log = s.log := rfl
@[simp] theorem setLane_irq (s : State) (n : LaneId) (l : Lane) : (s.setLane n l).irq = s.irq := rfl
@[simp] theorem setLane_tb (s : State) (n : LaneId) (l : Lane) : (s.setLane n l).tb = s.tb := rfl
@[simp] theorem setLane_sup (s : State) (n : LaneId) (l : Lane) : (s.setLane n l).sup = s.sup := rfl
@[simp] theorem setLane_power (s : State) (n : LaneId) (l : Lane) : (s.setLane n l).power = s.power := rfl
@[simp] theorem setLane_rst (s : State) (n : LaneId) (l : Lane) : (s.setLane n l).rst = s.rst := rfl
@[simp] theorem setLane_moment (s : State) (n : LaneId) (l : Lane) : (s.setLane n l).moment = s.moment := rfl

/-! ## State.updLane -/

@[simp] theorem updLane_part (s : State) (n : LaneId) (f : Lane → Lane) : (s.updLane n f).part = s.part := rfl
@[simp] theorem updLane_pending (s : State) (n : LaneId) (f : Lane → Lane) : (s.updLane n f).pending = s.pending := rfl
@[simp] theorem updLane_port (s : State) (n : LaneId) (f : Lane → Lane) : (s.updLane n f).port = s.port := rfl
@[simp] theorem updLane_mem (s : State) (n : LaneId) (f : Lane → Lane) : (s.updLane n f).mem = s.mem := rfl
@[simp] theorem updLane_sweep (s : State) (n : LaneId) (f : Lane → Lane) : (s.updLane n f).sweep = s.sweep := rfl
@[simp] theorem updLane_ecc (s : State) (n : LaneId) (f : Lane → Lane) : (s.updLane n f).ecc = s.ecc := rfl
@[simp] theorem updLane_scrub (s : State) (n : LaneId) (f : Lane → Lane) : (s.updLane n f).scrub = s.scrub := rfl
@[simp] theorem updLane_arb (s : State) (n : LaneId) (f : Lane → Lane) : (s.updLane n f).arb = s.arb := rfl
@[simp] theorem updLane_slots (s : State) (n : LaneId) (f : Lane → Lane) : (s.updLane n f).slots = s.slots := rfl
@[simp] theorem updLane_hostFree (s : State) (n : LaneId) (f : Lane → Lane) : (s.updLane n f).hostFree = s.hostFree := rfl
@[simp] theorem updLane_slotPort (s : State) (n : LaneId) (f : Lane → Lane) : (s.updLane n f).slotPort = s.slotPort := rfl
@[simp] theorem updLane_win (s : State) (n : LaneId) (f : Lane → Lane) : (s.updLane n f).win = s.win := rfl
@[simp] theorem updLane_cmd (s : State) (n : LaneId) (f : Lane → Lane) : (s.updLane n f).cmd = s.cmd := rfl
@[simp] theorem updLane_eng (s : State) (n : LaneId) (f : Lane → Lane) : (s.updLane n f).eng = s.eng := rfl
@[simp] theorem updLane_log (s : State) (n : LaneId) (f : Lane → Lane) : (s.updLane n f).log = s.log := rfl
@[simp] theorem updLane_irq (s : State) (n : LaneId) (f : Lane → Lane) : (s.updLane n f).irq = s.irq := rfl
@[simp] theorem updLane_tb (s : State) (n : LaneId) (f : Lane → Lane) : (s.updLane n f).tb = s.tb := rfl
@[simp] theorem updLane_sup (s : State) (n : LaneId) (f : Lane → Lane) : (s.updLane n f).sup = s.sup := rfl
@[simp] theorem updLane_power (s : State) (n : LaneId) (f : Lane → Lane) : (s.updLane n f).power = s.power := rfl
@[simp] theorem updLane_rst (s : State) (n : LaneId) (f : Lane → Lane) : (s.updLane n f).rst = s.rst := rfl
@[simp] theorem updLane_moment (s : State) (n : LaneId) (f : Lane → Lane) : (s.updLane n f).moment = s.moment := rfl

/-! ## State.count -/

@[simp] theorem count_part (s : State) (n : LaneId) (f : Counters → Counters) : (s.count n f).part = s.part := rfl
@[simp] theorem count_pending (s : State) (n : LaneId) (f : Counters → Counters) : (s.count n f).pending = s.pending := rfl
@[simp] theorem count_port (s : State) (n : LaneId) (f : Counters → Counters) : (s.count n f).port = s.port := rfl
@[simp] theorem count_mem (s : State) (n : LaneId) (f : Counters → Counters) : (s.count n f).mem = s.mem := rfl
@[simp] theorem count_sweep (s : State) (n : LaneId) (f : Counters → Counters) : (s.count n f).sweep = s.sweep := rfl
@[simp] theorem count_ecc (s : State) (n : LaneId) (f : Counters → Counters) : (s.count n f).ecc = s.ecc := rfl
@[simp] theorem count_scrub (s : State) (n : LaneId) (f : Counters → Counters) : (s.count n f).scrub = s.scrub := rfl
@[simp] theorem count_arb (s : State) (n : LaneId) (f : Counters → Counters) : (s.count n f).arb = s.arb := rfl
@[simp] theorem count_slots (s : State) (n : LaneId) (f : Counters → Counters) : (s.count n f).slots = s.slots := rfl
@[simp] theorem count_hostFree (s : State) (n : LaneId) (f : Counters → Counters) : (s.count n f).hostFree = s.hostFree := rfl
@[simp] theorem count_slotPort (s : State) (n : LaneId) (f : Counters → Counters) : (s.count n f).slotPort = s.slotPort := rfl
@[simp] theorem count_win (s : State) (n : LaneId) (f : Counters → Counters) : (s.count n f).win = s.win := rfl
@[simp] theorem count_cmd (s : State) (n : LaneId) (f : Counters → Counters) : (s.count n f).cmd = s.cmd := rfl
@[simp] theorem count_eng (s : State) (n : LaneId) (f : Counters → Counters) : (s.count n f).eng = s.eng := rfl
@[simp] theorem count_log (s : State) (n : LaneId) (f : Counters → Counters) : (s.count n f).log = s.log := rfl
@[simp] theorem count_irq (s : State) (n : LaneId) (f : Counters → Counters) : (s.count n f).irq = s.irq := rfl
@[simp] theorem count_tb (s : State) (n : LaneId) (f : Counters → Counters) : (s.count n f).tb = s.tb := rfl
@[simp] theorem count_sup (s : State) (n : LaneId) (f : Counters → Counters) : (s.count n f).sup = s.sup := rfl
@[simp] theorem count_power (s : State) (n : LaneId) (f : Counters → Counters) : (s.count n f).power = s.power := rfl
@[simp] theorem count_rst (s : State) (n : LaneId) (f : Counters → Counters) : (s.count n f).rst = s.rst := rfl
@[simp] theorem count_moment (s : State) (n : LaneId) (f : Counters → Counters) : (s.count n f).moment = s.moment := rfl

/-! ## State.setSlot -/

@[simp] theorem setSlot_part (s : State) (i : SlotId) (r : Slot) : (s.setSlot i r).part = s.part := rfl
@[simp] theorem setSlot_pending (s : State) (i : SlotId) (r : Slot) : (s.setSlot i r).pending = s.pending := rfl
@[simp] theorem setSlot_port (s : State) (i : SlotId) (r : Slot) : (s.setSlot i r).port = s.port := rfl
@[simp] theorem setSlot_mem (s : State) (i : SlotId) (r : Slot) : (s.setSlot i r).mem = s.mem := rfl
@[simp] theorem setSlot_sweep (s : State) (i : SlotId) (r : Slot) : (s.setSlot i r).sweep = s.sweep := rfl
@[simp] theorem setSlot_ecc (s : State) (i : SlotId) (r : Slot) : (s.setSlot i r).ecc = s.ecc := rfl
@[simp] theorem setSlot_scrub (s : State) (i : SlotId) (r : Slot) : (s.setSlot i r).scrub = s.scrub := rfl
@[simp] theorem setSlot_arb (s : State) (i : SlotId) (r : Slot) : (s.setSlot i r).arb = s.arb := rfl
@[simp] theorem setSlot_hostFree (s : State) (i : SlotId) (r : Slot) : (s.setSlot i r).hostFree = s.hostFree := rfl
@[simp] theorem setSlot_slotPort (s : State) (i : SlotId) (r : Slot) : (s.setSlot i r).slotPort = s.slotPort := rfl
@[simp] theorem setSlot_lanes (s : State) (i : SlotId) (r : Slot) : (s.setSlot i r).lanes = s.lanes := rfl
@[simp] theorem setSlot_win (s : State) (i : SlotId) (r : Slot) : (s.setSlot i r).win = s.win := rfl
@[simp] theorem setSlot_cmd (s : State) (i : SlotId) (r : Slot) : (s.setSlot i r).cmd = s.cmd := rfl
@[simp] theorem setSlot_eng (s : State) (i : SlotId) (r : Slot) : (s.setSlot i r).eng = s.eng := rfl
@[simp] theorem setSlot_log (s : State) (i : SlotId) (r : Slot) : (s.setSlot i r).log = s.log := rfl
@[simp] theorem setSlot_irq (s : State) (i : SlotId) (r : Slot) : (s.setSlot i r).irq = s.irq := rfl
@[simp] theorem setSlot_tb (s : State) (i : SlotId) (r : Slot) : (s.setSlot i r).tb = s.tb := rfl
@[simp] theorem setSlot_sup (s : State) (i : SlotId) (r : Slot) : (s.setSlot i r).sup = s.sup := rfl
@[simp] theorem setSlot_power (s : State) (i : SlotId) (r : Slot) : (s.setSlot i r).power = s.power := rfl
@[simp] theorem setSlot_rst (s : State) (i : SlotId) (r : Slot) : (s.setSlot i r).rst = s.rst := rfl
@[simp] theorem setSlot_moment (s : State) (i : SlotId) (r : Slot) : (s.setSlot i r).moment = s.moment := rfl

/-! ## State.updSlot -/

@[simp] theorem updSlot_part (s : State) (i : SlotId) (f : Slot → Slot) : (s.updSlot i f).part = s.part := rfl
@[simp] theorem updSlot_pending (s : State) (i : SlotId) (f : Slot → Slot) : (s.updSlot i f).pending = s.pending := rfl
@[simp] theorem updSlot_port (s : State) (i : SlotId) (f : Slot → Slot) : (s.updSlot i f).port = s.port := rfl
@[simp] theorem updSlot_mem (s : State) (i : SlotId) (f : Slot → Slot) : (s.updSlot i f).mem = s.mem := rfl
@[simp] theorem updSlot_sweep (s : State) (i : SlotId) (f : Slot → Slot) : (s.updSlot i f).sweep = s.sweep := rfl
@[simp] theorem updSlot_ecc (s : State) (i : SlotId) (f : Slot → Slot) : (s.updSlot i f).ecc = s.ecc := rfl
@[simp] theorem updSlot_scrub (s : State) (i : SlotId) (f : Slot → Slot) : (s.updSlot i f).scrub = s.scrub := rfl
@[simp] theorem updSlot_arb (s : State) (i : SlotId) (f : Slot → Slot) : (s.updSlot i f).arb = s.arb := rfl
@[simp] theorem updSlot_hostFree (s : State) (i : SlotId) (f : Slot → Slot) : (s.updSlot i f).hostFree = s.hostFree := rfl
@[simp] theorem updSlot_slotPort (s : State) (i : SlotId) (f : Slot → Slot) : (s.updSlot i f).slotPort = s.slotPort := rfl
@[simp] theorem updSlot_lanes (s : State) (i : SlotId) (f : Slot → Slot) : (s.updSlot i f).lanes = s.lanes := rfl
@[simp] theorem updSlot_win (s : State) (i : SlotId) (f : Slot → Slot) : (s.updSlot i f).win = s.win := rfl
@[simp] theorem updSlot_cmd (s : State) (i : SlotId) (f : Slot → Slot) : (s.updSlot i f).cmd = s.cmd := rfl
@[simp] theorem updSlot_eng (s : State) (i : SlotId) (f : Slot → Slot) : (s.updSlot i f).eng = s.eng := rfl
@[simp] theorem updSlot_log (s : State) (i : SlotId) (f : Slot → Slot) : (s.updSlot i f).log = s.log := rfl
@[simp] theorem updSlot_irq (s : State) (i : SlotId) (f : Slot → Slot) : (s.updSlot i f).irq = s.irq := rfl
@[simp] theorem updSlot_tb (s : State) (i : SlotId) (f : Slot → Slot) : (s.updSlot i f).tb = s.tb := rfl
@[simp] theorem updSlot_sup (s : State) (i : SlotId) (f : Slot → Slot) : (s.updSlot i f).sup = s.sup := rfl
@[simp] theorem updSlot_power (s : State) (i : SlotId) (f : Slot → Slot) : (s.updSlot i f).power = s.power := rfl
@[simp] theorem updSlot_rst (s : State) (i : SlotId) (f : Slot → Slot) : (s.updSlot i f).rst = s.rst := rfl
@[simp] theorem updSlot_moment (s : State) (i : SlotId) (f : Slot → Slot) : (s.updSlot i f).moment = s.moment := rfl

/-! ## State.withdraw -/

@[simp] theorem withdraw_part (s : State) (r : Req) : (s.withdraw r).part = s.part := rfl
@[simp] theorem withdraw_pending (s : State) (r : Req) : (s.withdraw r).pending = s.pending := rfl
@[simp] theorem withdraw_port (s : State) (r : Req) : (s.withdraw r).port = s.port := rfl
@[simp] theorem withdraw_mem (s : State) (r : Req) : (s.withdraw r).mem = s.mem := rfl
@[simp] theorem withdraw_sweep (s : State) (r : Req) : (s.withdraw r).sweep = s.sweep := rfl
@[simp] theorem withdraw_ecc (s : State) (r : Req) : (s.withdraw r).ecc = s.ecc := rfl
@[simp] theorem withdraw_scrub (s : State) (r : Req) : (s.withdraw r).scrub = s.scrub := rfl
@[simp] theorem withdraw_arb (s : State) (r : Req) : (s.withdraw r).arb = s.arb := rfl
@[simp] theorem withdraw_slots (s : State) (r : Req) : (s.withdraw r).slots = s.slots := rfl
@[simp] theorem withdraw_hostFree (s : State) (r : Req) : (s.withdraw r).hostFree = s.hostFree := rfl
@[simp] theorem withdraw_slotPort (s : State) (r : Req) : (s.withdraw r).slotPort = s.slotPort := rfl
@[simp] theorem withdraw_lanes (s : State) (r : Req) : (s.withdraw r).lanes = s.lanes := rfl
@[simp] theorem withdraw_win (s : State) (r : Req) : (s.withdraw r).win = s.win := rfl
@[simp] theorem withdraw_cmd (s : State) (r : Req) : (s.withdraw r).cmd = s.cmd := rfl
@[simp] theorem withdraw_eng (s : State) (r : Req) : (s.withdraw r).eng = s.eng := rfl
@[simp] theorem withdraw_log (s : State) (r : Req) : (s.withdraw r).log = s.log := rfl
@[simp] theorem withdraw_irq (s : State) (r : Req) : (s.withdraw r).irq = s.irq := rfl
@[simp] theorem withdraw_tb (s : State) (r : Req) : (s.withdraw r).tb = s.tb := rfl
@[simp] theorem withdraw_sup (s : State) (r : Req) : (s.withdraw r).sup = s.sup := rfl
@[simp] theorem withdraw_power (s : State) (r : Req) : (s.withdraw r).power = s.power := rfl
@[simp] theorem withdraw_rst (s : State) (r : Req) : (s.withdraw r).rst = s.rst := rfl

/-! ## State.append -/

@[simp] theorem append_part (s : State) (e : Event) : (s.append e).part = s.part := rfl
@[simp] theorem append_pending (s : State) (e : Event) : (s.append e).pending = s.pending := rfl
@[simp] theorem append_port (s : State) (e : Event) : (s.append e).port = s.port := rfl
@[simp] theorem append_mem (s : State) (e : Event) : (s.append e).mem = s.mem := rfl
@[simp] theorem append_sweep (s : State) (e : Event) : (s.append e).sweep = s.sweep := rfl
@[simp] theorem append_ecc (s : State) (e : Event) : (s.append e).ecc = s.ecc := rfl
@[simp] theorem append_scrub (s : State) (e : Event) : (s.append e).scrub = s.scrub := rfl
@[simp] theorem append_arb (s : State) (e : Event) : (s.append e).arb = s.arb := rfl
@[simp] theorem append_slots (s : State) (e : Event) : (s.append e).slots = s.slots := rfl
@[simp] theorem append_hostFree (s : State) (e : Event) : (s.append e).hostFree = s.hostFree := rfl
@[simp] theorem append_slotPort (s : State) (e : Event) : (s.append e).slotPort = s.slotPort := rfl
@[simp] theorem append_lanes (s : State) (e : Event) : (s.append e).lanes = s.lanes := rfl
@[simp] theorem append_win (s : State) (e : Event) : (s.append e).win = s.win := rfl
@[simp] theorem append_cmd (s : State) (e : Event) : (s.append e).cmd = s.cmd := rfl
@[simp] theorem append_eng (s : State) (e : Event) : (s.append e).eng = s.eng := rfl
@[simp] theorem append_irq (s : State) (e : Event) : (s.append e).irq = s.irq := rfl
@[simp] theorem append_tb (s : State) (e : Event) : (s.append e).tb = s.tb := rfl
@[simp] theorem append_sup (s : State) (e : Event) : (s.append e).sup = s.sup := rfl
@[simp] theorem append_power (s : State) (e : Event) : (s.append e).power = s.power := rfl
@[simp] theorem append_rst (s : State) (e : Event) : (s.append e).rst = s.rst := rfl
@[simp] theorem append_moment (s : State) (e : Event) : (s.append e).moment = s.moment := rfl

/-! ## State.lose -/

@[simp] theorem lose_part (s : State) : s.lose.part = s.part := rfl
@[simp] theorem lose_pending (s : State) : s.lose.pending = s.pending := rfl
@[simp] theorem lose_port (s : State) : s.lose.port = s.port := rfl
@[simp] theorem lose_mem (s : State) : s.lose.mem = s.mem := rfl
@[simp] theorem lose_sweep (s : State) : s.lose.sweep = s.sweep := rfl
@[simp] theorem lose_ecc (s : State) : s.lose.ecc = s.ecc := rfl
@[simp] theorem lose_scrub (s : State) : s.lose.scrub = s.scrub := rfl
@[simp] theorem lose_arb (s : State) : s.lose.arb = s.arb := rfl
@[simp] theorem lose_slots (s : State) : s.lose.slots = s.slots := rfl
@[simp] theorem lose_hostFree (s : State) : s.lose.hostFree = s.hostFree := rfl
@[simp] theorem lose_slotPort (s : State) : s.lose.slotPort = s.slotPort := rfl
@[simp] theorem lose_lanes (s : State) : s.lose.lanes = s.lanes := rfl
@[simp] theorem lose_win (s : State) : s.lose.win = s.win := rfl
@[simp] theorem lose_cmd (s : State) : s.lose.cmd = s.cmd := rfl
@[simp] theorem lose_eng (s : State) : s.lose.eng = s.eng := rfl
@[simp] theorem lose_irq (s : State) : s.lose.irq = s.irq := rfl
@[simp] theorem lose_tb (s : State) : s.lose.tb = s.tb := rfl
@[simp] theorem lose_sup (s : State) : s.lose.sup = s.sup := rfl
@[simp] theorem lose_power (s : State) : s.lose.power = s.power := rfl
@[simp] theorem lose_rst (s : State) : s.lose.rst = s.rst := rfl
@[simp] theorem lose_moment (s : State) : s.lose.moment = s.moment := rfl

/-! ## State.endTransaction -/

@[simp] theorem endTransaction_part (s : State) (x : Resp) (d : Option Word) : (s.endTransaction x d).part = s.part := rfl
@[simp] theorem endTransaction_pending (s : State) (x : Resp) (d : Option Word) : (s.endTransaction x d).pending = s.pending := rfl
@[simp] theorem endTransaction_mem (s : State) (x : Resp) (d : Option Word) : (s.endTransaction x d).mem = s.mem := rfl
@[simp] theorem endTransaction_sweep (s : State) (x : Resp) (d : Option Word) : (s.endTransaction x d).sweep = s.sweep := rfl
@[simp] theorem endTransaction_ecc (s : State) (x : Resp) (d : Option Word) : (s.endTransaction x d).ecc = s.ecc := rfl
@[simp] theorem endTransaction_scrub (s : State) (x : Resp) (d : Option Word) : (s.endTransaction x d).scrub = s.scrub := rfl
@[simp] theorem endTransaction_arb (s : State) (x : Resp) (d : Option Word) : (s.endTransaction x d).arb = s.arb := rfl
@[simp] theorem endTransaction_slots (s : State) (x : Resp) (d : Option Word) : (s.endTransaction x d).slots = s.slots := rfl
@[simp] theorem endTransaction_hostFree (s : State) (x : Resp) (d : Option Word) : (s.endTransaction x d).hostFree = s.hostFree := rfl
@[simp] theorem endTransaction_slotPort (s : State) (x : Resp) (d : Option Word) : (s.endTransaction x d).slotPort = s.slotPort := rfl
@[simp] theorem endTransaction_lanes (s : State) (x : Resp) (d : Option Word) : (s.endTransaction x d).lanes = s.lanes := rfl
@[simp] theorem endTransaction_win (s : State) (x : Resp) (d : Option Word) : (s.endTransaction x d).win = s.win := rfl
@[simp] theorem endTransaction_cmd (s : State) (x : Resp) (d : Option Word) : (s.endTransaction x d).cmd = s.cmd := rfl
@[simp] theorem endTransaction_eng (s : State) (x : Resp) (d : Option Word) : (s.endTransaction x d).eng = s.eng := rfl
@[simp] theorem endTransaction_log (s : State) (x : Resp) (d : Option Word) : (s.endTransaction x d).log = s.log := rfl
@[simp] theorem endTransaction_irq (s : State) (x : Resp) (d : Option Word) : (s.endTransaction x d).irq = s.irq := rfl
@[simp] theorem endTransaction_tb (s : State) (x : Resp) (d : Option Word) : (s.endTransaction x d).tb = s.tb := rfl
@[simp] theorem endTransaction_sup (s : State) (x : Resp) (d : Option Word) : (s.endTransaction x d).sup = s.sup := rfl
@[simp] theorem endTransaction_power (s : State) (x : Resp) (d : Option Word) : (s.endTransaction x d).power = s.power := rfl
@[simp] theorem endTransaction_rst (s : State) (x : Resp) (d : Option Word) : (s.endTransaction x d).rst = s.rst := rfl
@[simp] theorem endTransaction_moment (s : State) (x : Resp) (d : Option Word) : (s.endTransaction x d).moment = s.moment := rfl

/-! ## State.openMoment -/

@[simp] theorem openMoment_part (s : State) (xs : List Source) : (s.openMoment xs).part = s.part := rfl
@[simp] theorem openMoment_pending (s : State) (xs : List Source) : (s.openMoment xs).pending = s.pending := rfl
@[simp] theorem openMoment_port (s : State) (xs : List Source) : (s.openMoment xs).port = s.port := rfl
@[simp] theorem openMoment_mem (s : State) (xs : List Source) : (s.openMoment xs).mem = s.mem := rfl
@[simp] theorem openMoment_sweep (s : State) (xs : List Source) : (s.openMoment xs).sweep = s.sweep := rfl
@[simp] theorem openMoment_ecc (s : State) (xs : List Source) : (s.openMoment xs).ecc = s.ecc := rfl
@[simp] theorem openMoment_scrub (s : State) (xs : List Source) : (s.openMoment xs).scrub = s.scrub := rfl
@[simp] theorem openMoment_arb (s : State) (xs : List Source) : (s.openMoment xs).arb = s.arb := rfl
@[simp] theorem openMoment_slots (s : State) (xs : List Source) : (s.openMoment xs).slots = s.slots := rfl
@[simp] theorem openMoment_hostFree (s : State) (xs : List Source) : (s.openMoment xs).hostFree = s.hostFree := rfl
@[simp] theorem openMoment_slotPort (s : State) (xs : List Source) : (s.openMoment xs).slotPort = s.slotPort := rfl
@[simp] theorem openMoment_lanes (s : State) (xs : List Source) : (s.openMoment xs).lanes = s.lanes := rfl
@[simp] theorem openMoment_win (s : State) (xs : List Source) : (s.openMoment xs).win = s.win := rfl
@[simp] theorem openMoment_cmd (s : State) (xs : List Source) : (s.openMoment xs).cmd = s.cmd := rfl
@[simp] theorem openMoment_eng (s : State) (xs : List Source) : (s.openMoment xs).eng = s.eng := rfl
@[simp] theorem openMoment_log (s : State) (xs : List Source) : (s.openMoment xs).log = s.log := rfl
@[simp] theorem openMoment_irq (s : State) (xs : List Source) : (s.openMoment xs).irq = s.irq := rfl
@[simp] theorem openMoment_tb (s : State) (xs : List Source) : (s.openMoment xs).tb = s.tb := rfl
@[simp] theorem openMoment_sup (s : State) (xs : List Source) : (s.openMoment xs).sup = s.sup := rfl
@[simp] theorem openMoment_power (s : State) (xs : List Source) : (s.openMoment xs).power = s.power := rfl
@[simp] theorem openMoment_rst (s : State) (xs : List Source) : (s.openMoment xs).rst = s.rst := rfl

/-! ## State.setStage -/

@[simp] theorem setStage_part (s : State) (x : ReadStage) : (s.setStage x).part = s.part := rfl
@[simp] theorem setStage_pending (s : State) (x : ReadStage) : (s.setStage x).pending = s.pending := rfl
@[simp] theorem setStage_port (s : State) (x : ReadStage) : (s.setStage x).port = s.port := rfl
@[simp] theorem setStage_mem (s : State) (x : ReadStage) : (s.setStage x).mem = s.mem := rfl
@[simp] theorem setStage_sweep (s : State) (x : ReadStage) : (s.setStage x).sweep = s.sweep := rfl
@[simp] theorem setStage_ecc (s : State) (x : ReadStage) : (s.setStage x).ecc = s.ecc := rfl
@[simp] theorem setStage_scrub (s : State) (x : ReadStage) : (s.setStage x).scrub = s.scrub := rfl
@[simp] theorem setStage_arb (s : State) (x : ReadStage) : (s.setStage x).arb = s.arb := rfl
@[simp] theorem setStage_slots (s : State) (x : ReadStage) : (s.setStage x).slots = s.slots := rfl
@[simp] theorem setStage_hostFree (s : State) (x : ReadStage) : (s.setStage x).hostFree = s.hostFree := rfl
@[simp] theorem setStage_slotPort (s : State) (x : ReadStage) : (s.setStage x).slotPort = s.slotPort := rfl
@[simp] theorem setStage_lanes (s : State) (x : ReadStage) : (s.setStage x).lanes = s.lanes := rfl
@[simp] theorem setStage_cmd (s : State) (x : ReadStage) : (s.setStage x).cmd = s.cmd := rfl
@[simp] theorem setStage_eng (s : State) (x : ReadStage) : (s.setStage x).eng = s.eng := rfl
@[simp] theorem setStage_log (s : State) (x : ReadStage) : (s.setStage x).log = s.log := rfl
@[simp] theorem setStage_irq (s : State) (x : ReadStage) : (s.setStage x).irq = s.irq := rfl
@[simp] theorem setStage_tb (s : State) (x : ReadStage) : (s.setStage x).tb = s.tb := rfl
@[simp] theorem setStage_sup (s : State) (x : ReadStage) : (s.setStage x).sup = s.sup := rfl
@[simp] theorem setStage_power (s : State) (x : ReadStage) : (s.setStage x).power = s.power := rfl
@[simp] theorem setStage_rst (s : State) (x : ReadStage) : (s.setStage x).rst = s.rst := rfl
@[simp] theorem setStage_moment (s : State) (x : ReadStage) : (s.setStage x).moment = s.moment := rfl

/-! ## State.advance -/

@[simp] theorem advance_part (s : State) (p : Ptr) : (s.advance p).part = s.part := by cases p <;> rfl
@[simp] theorem advance_pending (s : State) (p : Ptr) : (s.advance p).pending = s.pending := by cases p <;> rfl
@[simp] theorem advance_port (s : State) (p : Ptr) : (s.advance p).port = s.port := by cases p <;> rfl
@[simp] theorem advance_mem (s : State) (p : Ptr) : (s.advance p).mem = s.mem := by cases p <;> rfl
@[simp] theorem advance_sweep (s : State) (p : Ptr) : (s.advance p).sweep = s.sweep := by cases p <;> rfl
@[simp] theorem advance_ecc (s : State) (p : Ptr) : (s.advance p).ecc = s.ecc := by cases p <;> rfl
@[simp] theorem advance_scrub (s : State) (p : Ptr) : (s.advance p).scrub = s.scrub := by cases p <;> rfl
@[simp] theorem advance_arb (s : State) (p : Ptr) : (s.advance p).arb = s.arb := by cases p <;> rfl
@[simp] theorem advance_slots (s : State) (p : Ptr) : (s.advance p).slots = s.slots := by cases p <;> rfl
@[simp] theorem advance_hostFree (s : State) (p : Ptr) : (s.advance p).hostFree = s.hostFree := by cases p <;> rfl
@[simp] theorem advance_slotPort (s : State) (p : Ptr) : (s.advance p).slotPort = s.slotPort := by cases p <;> rfl
@[simp] theorem advance_lanes (s : State) (p : Ptr) : (s.advance p).lanes = s.lanes := by cases p <;> rfl
@[simp] theorem advance_cmd (s : State) (p : Ptr) : (s.advance p).cmd = s.cmd := by cases p <;> rfl
@[simp] theorem advance_eng (s : State) (p : Ptr) : (s.advance p).eng = s.eng := by cases p <;> rfl
@[simp] theorem advance_log (s : State) (p : Ptr) : (s.advance p).log = s.log := by cases p <;> rfl
@[simp] theorem advance_irq (s : State) (p : Ptr) : (s.advance p).irq = s.irq := by cases p <;> rfl
@[simp] theorem advance_tb (s : State) (p : Ptr) : (s.advance p).tb = s.tb := by cases p <;> rfl
@[simp] theorem advance_sup (s : State) (p : Ptr) : (s.advance p).sup = s.sup := by cases p <;> rfl
@[simp] theorem advance_power (s : State) (p : Ptr) : (s.advance p).power = s.power := by cases p <;> rfl
@[simp] theorem advance_rst (s : State) (p : Ptr) : (s.advance p).rst = s.rst := by cases p <;> rfl
@[simp] theorem advance_moment (s : State) (p : Ptr) : (s.advance p).moment = s.moment := by cases p <;> rfl

/-! ## State.startWait -/

@[simp] theorem startWait_part (s : State) (w : Wait) : (s.startWait w).part = s.part := rfl
@[simp] theorem startWait_pending (s : State) (w : Wait) : (s.startWait w).pending = s.pending := rfl
@[simp] theorem startWait_mem (s : State) (w : Wait) : (s.startWait w).mem = s.mem := rfl
@[simp] theorem startWait_sweep (s : State) (w : Wait) : (s.startWait w).sweep = s.sweep := rfl
@[simp] theorem startWait_ecc (s : State) (w : Wait) : (s.startWait w).ecc = s.ecc := rfl
@[simp] theorem startWait_scrub (s : State) (w : Wait) : (s.startWait w).scrub = s.scrub := rfl
@[simp] theorem startWait_arb (s : State) (w : Wait) : (s.startWait w).arb = s.arb := rfl
@[simp] theorem startWait_slots (s : State) (w : Wait) : (s.startWait w).slots = s.slots := rfl
@[simp] theorem startWait_hostFree (s : State) (w : Wait) : (s.startWait w).hostFree = s.hostFree := rfl
@[simp] theorem startWait_slotPort (s : State) (w : Wait) : (s.startWait w).slotPort = s.slotPort := rfl
@[simp] theorem startWait_lanes (s : State) (w : Wait) : (s.startWait w).lanes = s.lanes := rfl
@[simp] theorem startWait_win (s : State) (w : Wait) : (s.startWait w).win = s.win := rfl
@[simp] theorem startWait_cmd (s : State) (w : Wait) : (s.startWait w).cmd = s.cmd := rfl
@[simp] theorem startWait_eng (s : State) (w : Wait) : (s.startWait w).eng = s.eng := rfl
@[simp] theorem startWait_log (s : State) (w : Wait) : (s.startWait w).log = s.log := rfl
@[simp] theorem startWait_irq (s : State) (w : Wait) : (s.startWait w).irq = s.irq := rfl
@[simp] theorem startWait_tb (s : State) (w : Wait) : (s.startWait w).tb = s.tb := rfl
@[simp] theorem startWait_sup (s : State) (w : Wait) : (s.startWait w).sup = s.sup := rfl
@[simp] theorem startWait_power (s : State) (w : Wait) : (s.startWait w).power = s.power := rfl
@[simp] theorem startWait_rst (s : State) (w : Wait) : (s.startWait w).rst = s.rst := rfl
@[simp] theorem startWait_moment (s : State) (w : Wait) : (s.startWait w).moment = s.moment := rfl

/-! ## State.accepted -/

@[simp] theorem accepted_part (s : State) : s.accepted.part = s.part := rfl
@[simp] theorem accepted_pending (s : State) : s.accepted.pending = s.pending := rfl
@[simp] theorem accepted_mem (s : State) : s.accepted.mem = s.mem := rfl
@[simp] theorem accepted_sweep (s : State) : s.accepted.sweep = s.sweep := rfl
@[simp] theorem accepted_ecc (s : State) : s.accepted.ecc = s.ecc := rfl
@[simp] theorem accepted_scrub (s : State) : s.accepted.scrub = s.scrub := rfl
@[simp] theorem accepted_arb (s : State) : s.accepted.arb = s.arb := rfl
@[simp] theorem accepted_slots (s : State) : s.accepted.slots = s.slots := rfl
@[simp] theorem accepted_hostFree (s : State) : s.accepted.hostFree = s.hostFree := rfl
@[simp] theorem accepted_slotPort (s : State) : s.accepted.slotPort = s.slotPort := rfl
@[simp] theorem accepted_lanes (s : State) : s.accepted.lanes = s.lanes := rfl
@[simp] theorem accepted_win (s : State) : s.accepted.win = s.win := rfl
@[simp] theorem accepted_cmd (s : State) : s.accepted.cmd = s.cmd := rfl
@[simp] theorem accepted_eng (s : State) : s.accepted.eng = s.eng := rfl
@[simp] theorem accepted_log (s : State) : s.accepted.log = s.log := rfl
@[simp] theorem accepted_irq (s : State) : s.accepted.irq = s.irq := rfl
@[simp] theorem accepted_tb (s : State) : s.accepted.tb = s.tb := rfl
@[simp] theorem accepted_sup (s : State) : s.accepted.sup = s.sup := rfl
@[simp] theorem accepted_power (s : State) : s.accepted.power = s.power := rfl
@[simp] theorem accepted_rst (s : State) : s.accepted.rst = s.rst := rfl
@[simp] theorem accepted_moment (s : State) : s.accepted.moment = s.moment := rfl

/-! ## State.closeGrant -/

@[simp] theorem closeGrant_part (s : State) : s.closeGrant.part = s.part := rfl
@[simp] theorem closeGrant_pending (s : State) : s.closeGrant.pending = s.pending := rfl
@[simp] theorem closeGrant_port (s : State) : s.closeGrant.port = s.port := rfl
@[simp] theorem closeGrant_mem (s : State) : s.closeGrant.mem = s.mem := rfl
@[simp] theorem closeGrant_sweep (s : State) : s.closeGrant.sweep = s.sweep := rfl
@[simp] theorem closeGrant_ecc (s : State) : s.closeGrant.ecc = s.ecc := rfl
@[simp] theorem closeGrant_scrub (s : State) : s.closeGrant.scrub = s.scrub := rfl
@[simp] theorem closeGrant_slots (s : State) : s.closeGrant.slots = s.slots := rfl
@[simp] theorem closeGrant_hostFree (s : State) : s.closeGrant.hostFree = s.hostFree := rfl
@[simp] theorem closeGrant_slotPort (s : State) : s.closeGrant.slotPort = s.slotPort := rfl
@[simp] theorem closeGrant_lanes (s : State) : s.closeGrant.lanes = s.lanes := rfl
@[simp] theorem closeGrant_win (s : State) : s.closeGrant.win = s.win := rfl
@[simp] theorem closeGrant_cmd (s : State) : s.closeGrant.cmd = s.cmd := rfl
@[simp] theorem closeGrant_eng (s : State) : s.closeGrant.eng = s.eng := rfl
@[simp] theorem closeGrant_log (s : State) : s.closeGrant.log = s.log := rfl
@[simp] theorem closeGrant_irq (s : State) : s.closeGrant.irq = s.irq := rfl
@[simp] theorem closeGrant_tb (s : State) : s.closeGrant.tb = s.tb := rfl
@[simp] theorem closeGrant_sup (s : State) : s.closeGrant.sup = s.sup := rfl
@[simp] theorem closeGrant_power (s : State) : s.closeGrant.power = s.power := rfl
@[simp] theorem closeGrant_rst (s : State) : s.closeGrant.rst = s.rst := rfl
@[simp] theorem closeGrant_moment (s : State) : s.closeGrant.moment = s.moment := rfl

/-! ## State.restartSup -/

@[simp] theorem restartSup_part (s : State) : s.restartSup.part = s.part := rfl
@[simp] theorem restartSup_pending (s : State) : s.restartSup.pending = s.pending := rfl
@[simp] theorem restartSup_port (s : State) : s.restartSup.port = s.port := rfl
@[simp] theorem restartSup_mem (s : State) : s.restartSup.mem = s.mem := rfl
@[simp] theorem restartSup_sweep (s : State) : s.restartSup.sweep = s.sweep := rfl
@[simp] theorem restartSup_ecc (s : State) : s.restartSup.ecc = s.ecc := rfl
@[simp] theorem restartSup_scrub (s : State) : s.restartSup.scrub = s.scrub := rfl
@[simp] theorem restartSup_arb (s : State) : s.restartSup.arb = s.arb := rfl
@[simp] theorem restartSup_slots (s : State) : s.restartSup.slots = s.slots := rfl
@[simp] theorem restartSup_hostFree (s : State) : s.restartSup.hostFree = s.hostFree := rfl
@[simp] theorem restartSup_slotPort (s : State) : s.restartSup.slotPort = s.slotPort := rfl
@[simp] theorem restartSup_lanes (s : State) : s.restartSup.lanes = s.lanes := rfl
@[simp] theorem restartSup_win (s : State) : s.restartSup.win = s.win := rfl
@[simp] theorem restartSup_cmd (s : State) : s.restartSup.cmd = s.cmd := rfl
@[simp] theorem restartSup_eng (s : State) : s.restartSup.eng = s.eng := rfl
@[simp] theorem restartSup_log (s : State) : s.restartSup.log = s.log := rfl
@[simp] theorem restartSup_irq (s : State) : s.restartSup.irq = s.irq := rfl
@[simp] theorem restartSup_tb (s : State) : s.restartSup.tb = s.tb := rfl
@[simp] theorem restartSup_power (s : State) : s.restartSup.power = s.power := rfl
@[simp] theorem restartSup_rst (s : State) : s.restartSup.rst = s.rst := rfl
@[simp] theorem restartSup_moment (s : State) : s.restartSup.moment = s.moment := rfl

/-! ## State.startLong -/

@[simp] theorem startLong_part (s : State) (c : LongCmd) (d : Bool) (p : Phase) (x : Option RunningStats) : (s.startLong c d p x).part = s.part := rfl
@[simp] theorem startLong_pending (s : State) (c : LongCmd) (d : Bool) (p : Phase) (x : Option RunningStats) : (s.startLong c d p x).pending = s.pending := rfl
@[simp] theorem startLong_port (s : State) (c : LongCmd) (d : Bool) (p : Phase) (x : Option RunningStats) : (s.startLong c d p x).port = s.port := rfl
@[simp] theorem startLong_mem (s : State) (c : LongCmd) (d : Bool) (p : Phase) (x : Option RunningStats) : (s.startLong c d p x).mem = s.mem := rfl
@[simp] theorem startLong_sweep (s : State) (c : LongCmd) (d : Bool) (p : Phase) (x : Option RunningStats) : (s.startLong c d p x).sweep = s.sweep := rfl
@[simp] theorem startLong_ecc (s : State) (c : LongCmd) (d : Bool) (p : Phase) (x : Option RunningStats) : (s.startLong c d p x).ecc = s.ecc := rfl
@[simp] theorem startLong_scrub (s : State) (c : LongCmd) (d : Bool) (p : Phase) (x : Option RunningStats) : (s.startLong c d p x).scrub = s.scrub := rfl
@[simp] theorem startLong_arb (s : State) (c : LongCmd) (d : Bool) (p : Phase) (x : Option RunningStats) : (s.startLong c d p x).arb = s.arb := rfl
@[simp] theorem startLong_slots (s : State) (c : LongCmd) (d : Bool) (p : Phase) (x : Option RunningStats) : (s.startLong c d p x).slots = s.slots := rfl
@[simp] theorem startLong_hostFree (s : State) (c : LongCmd) (d : Bool) (p : Phase) (x : Option RunningStats) : (s.startLong c d p x).hostFree = s.hostFree := rfl
@[simp] theorem startLong_slotPort (s : State) (c : LongCmd) (d : Bool) (p : Phase) (x : Option RunningStats) : (s.startLong c d p x).slotPort = s.slotPort := rfl
@[simp] theorem startLong_lanes (s : State) (c : LongCmd) (d : Bool) (p : Phase) (x : Option RunningStats) : (s.startLong c d p x).lanes = s.lanes := rfl
@[simp] theorem startLong_win (s : State) (c : LongCmd) (d : Bool) (p : Phase) (x : Option RunningStats) : (s.startLong c d p x).win = s.win := rfl
@[simp] theorem startLong_cmd (s : State) (c : LongCmd) (d : Bool) (p : Phase) (x : Option RunningStats) : (s.startLong c d p x).cmd = s.cmd := rfl
@[simp] theorem startLong_log (s : State) (c : LongCmd) (d : Bool) (p : Phase) (x : Option RunningStats) : (s.startLong c d p x).log = s.log := rfl
@[simp] theorem startLong_irq (s : State) (c : LongCmd) (d : Bool) (p : Phase) (x : Option RunningStats) : (s.startLong c d p x).irq = s.irq := rfl
@[simp] theorem startLong_tb (s : State) (c : LongCmd) (d : Bool) (p : Phase) (x : Option RunningStats) : (s.startLong c d p x).tb = s.tb := rfl
@[simp] theorem startLong_sup (s : State) (c : LongCmd) (d : Bool) (p : Phase) (x : Option RunningStats) : (s.startLong c d p x).sup = s.sup := rfl
@[simp] theorem startLong_power (s : State) (c : LongCmd) (d : Bool) (p : Phase) (x : Option RunningStats) : (s.startLong c d p x).power = s.power := rfl
@[simp] theorem startLong_rst (s : State) (c : LongCmd) (d : Bool) (p : Phase) (x : Option RunningStats) : (s.startLong c d p x).rst = s.rst := rfl
@[simp] theorem startLong_moment (s : State) (c : LongCmd) (d : Bool) (p : Phase) (x : Option RunningStats) : (s.startLong c d p x).moment = s.moment := rfl

/-! ## State.countDone -/

@[simp] theorem countDone_part (s : State) (k : Nat) : (s.countDone k).part = s.part := rfl
@[simp] theorem countDone_pending (s : State) (k : Nat) : (s.countDone k).pending = s.pending := rfl
@[simp] theorem countDone_port (s : State) (k : Nat) : (s.countDone k).port = s.port := rfl
@[simp] theorem countDone_mem (s : State) (k : Nat) : (s.countDone k).mem = s.mem := rfl
@[simp] theorem countDone_sweep (s : State) (k : Nat) : (s.countDone k).sweep = s.sweep := rfl
@[simp] theorem countDone_ecc (s : State) (k : Nat) : (s.countDone k).ecc = s.ecc := rfl
@[simp] theorem countDone_scrub (s : State) (k : Nat) : (s.countDone k).scrub = s.scrub := rfl
@[simp] theorem countDone_arb (s : State) (k : Nat) : (s.countDone k).arb = s.arb := rfl
@[simp] theorem countDone_slots (s : State) (k : Nat) : (s.countDone k).slots = s.slots := rfl
@[simp] theorem countDone_hostFree (s : State) (k : Nat) : (s.countDone k).hostFree = s.hostFree := rfl
@[simp] theorem countDone_slotPort (s : State) (k : Nat) : (s.countDone k).slotPort = s.slotPort := rfl
@[simp] theorem countDone_lanes (s : State) (k : Nat) : (s.countDone k).lanes = s.lanes := rfl
@[simp] theorem countDone_win (s : State) (k : Nat) : (s.countDone k).win = s.win := rfl
@[simp] theorem countDone_cmd (s : State) (k : Nat) : (s.countDone k).cmd = s.cmd := rfl
@[simp] theorem countDone_log (s : State) (k : Nat) : (s.countDone k).log = s.log := rfl
@[simp] theorem countDone_irq (s : State) (k : Nat) : (s.countDone k).irq = s.irq := rfl
@[simp] theorem countDone_tb (s : State) (k : Nat) : (s.countDone k).tb = s.tb := rfl
@[simp] theorem countDone_sup (s : State) (k : Nat) : (s.countDone k).sup = s.sup := rfl
@[simp] theorem countDone_power (s : State) (k : Nat) : (s.countDone k).power = s.power := rfl
@[simp] theorem countDone_rst (s : State) (k : Nat) : (s.countDone k).rst = s.rst := rfl
@[simp] theorem countDone_moment (s : State) (k : Nat) : (s.countDone k).moment = s.moment := rfl

/-! ## State.holdBurst -/

@[simp] theorem holdBurst_part (s : State) (rs : List WordRead) : (s.holdBurst rs).part = s.part := rfl
@[simp] theorem holdBurst_pending (s : State) (rs : List WordRead) : (s.holdBurst rs).pending = s.pending := rfl
@[simp] theorem holdBurst_port (s : State) (rs : List WordRead) : (s.holdBurst rs).port = s.port := rfl
@[simp] theorem holdBurst_mem (s : State) (rs : List WordRead) : (s.holdBurst rs).mem = s.mem := rfl
@[simp] theorem holdBurst_sweep (s : State) (rs : List WordRead) : (s.holdBurst rs).sweep = s.sweep := rfl
@[simp] theorem holdBurst_ecc (s : State) (rs : List WordRead) : (s.holdBurst rs).ecc = s.ecc := rfl
@[simp] theorem holdBurst_scrub (s : State) (rs : List WordRead) : (s.holdBurst rs).scrub = s.scrub := rfl
@[simp] theorem holdBurst_arb (s : State) (rs : List WordRead) : (s.holdBurst rs).arb = s.arb := rfl
@[simp] theorem holdBurst_slots (s : State) (rs : List WordRead) : (s.holdBurst rs).slots = s.slots := rfl
@[simp] theorem holdBurst_hostFree (s : State) (rs : List WordRead) : (s.holdBurst rs).hostFree = s.hostFree := rfl
@[simp] theorem holdBurst_slotPort (s : State) (rs : List WordRead) : (s.holdBurst rs).slotPort = s.slotPort := rfl
@[simp] theorem holdBurst_lanes (s : State) (rs : List WordRead) : (s.holdBurst rs).lanes = s.lanes := rfl
@[simp] theorem holdBurst_win (s : State) (rs : List WordRead) : (s.holdBurst rs).win = s.win := rfl
@[simp] theorem holdBurst_cmd (s : State) (rs : List WordRead) : (s.holdBurst rs).cmd = s.cmd := rfl
@[simp] theorem holdBurst_log (s : State) (rs : List WordRead) : (s.holdBurst rs).log = s.log := rfl
@[simp] theorem holdBurst_irq (s : State) (rs : List WordRead) : (s.holdBurst rs).irq = s.irq := rfl
@[simp] theorem holdBurst_tb (s : State) (rs : List WordRead) : (s.holdBurst rs).tb = s.tb := rfl
@[simp] theorem holdBurst_sup (s : State) (rs : List WordRead) : (s.holdBurst rs).sup = s.sup := rfl
@[simp] theorem holdBurst_power (s : State) (rs : List WordRead) : (s.holdBurst rs).power = s.power := rfl
@[simp] theorem holdBurst_rst (s : State) (rs : List WordRead) : (s.holdBurst rs).rst = s.rst := rfl
@[simp] theorem holdBurst_moment (s : State) (rs : List WordRead) : (s.holdBurst rs).moment = s.moment := rfl

/-! ## State.wroteGrant -/

@[simp] theorem wroteGrant_part (s : State) (g : Grant) : (s.wroteGrant g).part = s.part := rfl
@[simp] theorem wroteGrant_pending (s : State) (g : Grant) : (s.wroteGrant g).pending = s.pending := rfl
@[simp] theorem wroteGrant_port (s : State) (g : Grant) : (s.wroteGrant g).port = s.port := rfl
@[simp] theorem wroteGrant_sweep (s : State) (g : Grant) : (s.wroteGrant g).sweep = s.sweep := rfl
@[simp] theorem wroteGrant_ecc (s : State) (g : Grant) : (s.wroteGrant g).ecc = s.ecc := rfl
@[simp] theorem wroteGrant_scrub (s : State) (g : Grant) : (s.wroteGrant g).scrub = s.scrub := rfl
@[simp] theorem wroteGrant_arb (s : State) (g : Grant) : (s.wroteGrant g).arb = s.arb := rfl
@[simp] theorem wroteGrant_slots (s : State) (g : Grant) : (s.wroteGrant g).slots = s.slots := rfl
@[simp] theorem wroteGrant_hostFree (s : State) (g : Grant) : (s.wroteGrant g).hostFree = s.hostFree := rfl
@[simp] theorem wroteGrant_slotPort (s : State) (g : Grant) : (s.wroteGrant g).slotPort = s.slotPort := rfl
@[simp] theorem wroteGrant_lanes (s : State) (g : Grant) : (s.wroteGrant g).lanes = s.lanes := rfl
@[simp] theorem wroteGrant_win (s : State) (g : Grant) : (s.wroteGrant g).win = s.win := rfl
@[simp] theorem wroteGrant_cmd (s : State) (g : Grant) : (s.wroteGrant g).cmd = s.cmd := rfl
@[simp] theorem wroteGrant_eng (s : State) (g : Grant) : (s.wroteGrant g).eng = s.eng := rfl
@[simp] theorem wroteGrant_log (s : State) (g : Grant) : (s.wroteGrant g).log = s.log := rfl
@[simp] theorem wroteGrant_irq (s : State) (g : Grant) : (s.wroteGrant g).irq = s.irq := rfl
@[simp] theorem wroteGrant_tb (s : State) (g : Grant) : (s.wroteGrant g).tb = s.tb := rfl
@[simp] theorem wroteGrant_sup (s : State) (g : Grant) : (s.wroteGrant g).sup = s.sup := rfl
@[simp] theorem wroteGrant_power (s : State) (g : Grant) : (s.wroteGrant g).power = s.power := rfl
@[simp] theorem wroteGrant_rst (s : State) (g : Grant) : (s.wroteGrant g).rst = s.rst := rfl
@[simp] theorem wroteGrant_moment (s : State) (g : Grant) : (s.wroteGrant g).moment = s.moment := rfl

/-! ## State.disturbed -/

@[simp] theorem disturbed_part (s : State) (fs : List Flip) : (s.disturbed fs).part = s.part := rfl
@[simp] theorem disturbed_pending (s : State) (fs : List Flip) : (s.disturbed fs).pending = s.pending := rfl
@[simp] theorem disturbed_port (s : State) (fs : List Flip) : (s.disturbed fs).port = s.port := rfl
@[simp] theorem disturbed_sweep (s : State) (fs : List Flip) : (s.disturbed fs).sweep = s.sweep := rfl
@[simp] theorem disturbed_ecc (s : State) (fs : List Flip) : (s.disturbed fs).ecc = s.ecc := rfl
@[simp] theorem disturbed_scrub (s : State) (fs : List Flip) : (s.disturbed fs).scrub = s.scrub := rfl
@[simp] theorem disturbed_arb (s : State) (fs : List Flip) : (s.disturbed fs).arb = s.arb := rfl
@[simp] theorem disturbed_slots (s : State) (fs : List Flip) : (s.disturbed fs).slots = s.slots := rfl
@[simp] theorem disturbed_hostFree (s : State) (fs : List Flip) : (s.disturbed fs).hostFree = s.hostFree := rfl
@[simp] theorem disturbed_slotPort (s : State) (fs : List Flip) : (s.disturbed fs).slotPort = s.slotPort := rfl
@[simp] theorem disturbed_lanes (s : State) (fs : List Flip) : (s.disturbed fs).lanes = s.lanes := rfl
@[simp] theorem disturbed_win (s : State) (fs : List Flip) : (s.disturbed fs).win = s.win := rfl
@[simp] theorem disturbed_cmd (s : State) (fs : List Flip) : (s.disturbed fs).cmd = s.cmd := rfl
@[simp] theorem disturbed_eng (s : State) (fs : List Flip) : (s.disturbed fs).eng = s.eng := rfl
@[simp] theorem disturbed_log (s : State) (fs : List Flip) : (s.disturbed fs).log = s.log := rfl
@[simp] theorem disturbed_irq (s : State) (fs : List Flip) : (s.disturbed fs).irq = s.irq := rfl
@[simp] theorem disturbed_tb (s : State) (fs : List Flip) : (s.disturbed fs).tb = s.tb := rfl
@[simp] theorem disturbed_sup (s : State) (fs : List Flip) : (s.disturbed fs).sup = s.sup := rfl
@[simp] theorem disturbed_power (s : State) (fs : List Flip) : (s.disturbed fs).power = s.power := rfl
@[simp] theorem disturbed_rst (s : State) (fs : List Flip) : (s.disturbed fs).rst = s.rst := rfl
@[simp] theorem disturbed_moment (s : State) (fs : List Flip) : (s.disturbed fs).moment = s.moment := rfl

/-! ## State.recordReset -/

@[simp] theorem recordReset_part (s : State) : s.recordReset.part = s.part := rfl
@[simp] theorem recordReset_pending (s : State) : s.recordReset.pending = s.pending := rfl
@[simp] theorem recordReset_port (s : State) : s.recordReset.port = s.port := rfl
@[simp] theorem recordReset_mem (s : State) : s.recordReset.mem = s.mem := rfl
@[simp] theorem recordReset_sweep (s : State) : s.recordReset.sweep = s.sweep := rfl
@[simp] theorem recordReset_ecc (s : State) : s.recordReset.ecc = s.ecc := rfl
@[simp] theorem recordReset_scrub (s : State) : s.recordReset.scrub = s.scrub := rfl
@[simp] theorem recordReset_arb (s : State) : s.recordReset.arb = s.arb := rfl
@[simp] theorem recordReset_slots (s : State) : s.recordReset.slots = s.slots := rfl
@[simp] theorem recordReset_hostFree (s : State) : s.recordReset.hostFree = s.hostFree := rfl
@[simp] theorem recordReset_slotPort (s : State) : s.recordReset.slotPort = s.slotPort := rfl
@[simp] theorem recordReset_lanes (s : State) : s.recordReset.lanes = s.lanes := rfl
@[simp] theorem recordReset_win (s : State) : s.recordReset.win = s.win := rfl
@[simp] theorem recordReset_cmd (s : State) : s.recordReset.cmd = s.cmd := rfl
@[simp] theorem recordReset_eng (s : State) : s.recordReset.eng = s.eng := rfl
@[simp] theorem recordReset_irq (s : State) : s.recordReset.irq = s.irq := rfl
@[simp] theorem recordReset_tb (s : State) : s.recordReset.tb = s.tb := rfl
@[simp] theorem recordReset_sup (s : State) : s.recordReset.sup = s.sup := rfl
@[simp] theorem recordReset_power (s : State) : s.recordReset.power = s.power := rfl
@[simp] theorem recordReset_rst (s : State) : s.recordReset.rst = s.rst := rfl
@[simp] theorem recordReset_moment (s : State) : s.recordReset.moment = s.moment := rfl

/-! ## State.sampleSupen -/

@[simp] theorem sampleSupen_part (s : State) (b : Bool) : (s.sampleSupen b).part = s.part := rfl
@[simp] theorem sampleSupen_pending (s : State) (b : Bool) : (s.sampleSupen b).pending = s.pending := rfl
@[simp] theorem sampleSupen_port (s : State) (b : Bool) : (s.sampleSupen b).port = s.port := rfl
@[simp] theorem sampleSupen_mem (s : State) (b : Bool) : (s.sampleSupen b).mem = s.mem := rfl
@[simp] theorem sampleSupen_sweep (s : State) (b : Bool) : (s.sampleSupen b).sweep = s.sweep := rfl
@[simp] theorem sampleSupen_ecc (s : State) (b : Bool) : (s.sampleSupen b).ecc = s.ecc := rfl
@[simp] theorem sampleSupen_scrub (s : State) (b : Bool) : (s.sampleSupen b).scrub = s.scrub := rfl
@[simp] theorem sampleSupen_arb (s : State) (b : Bool) : (s.sampleSupen b).arb = s.arb := rfl
@[simp] theorem sampleSupen_slots (s : State) (b : Bool) : (s.sampleSupen b).slots = s.slots := rfl
@[simp] theorem sampleSupen_hostFree (s : State) (b : Bool) : (s.sampleSupen b).hostFree = s.hostFree := rfl
@[simp] theorem sampleSupen_slotPort (s : State) (b : Bool) : (s.sampleSupen b).slotPort = s.slotPort := rfl
@[simp] theorem sampleSupen_lanes (s : State) (b : Bool) : (s.sampleSupen b).lanes = s.lanes := rfl
@[simp] theorem sampleSupen_win (s : State) (b : Bool) : (s.sampleSupen b).win = s.win := rfl
@[simp] theorem sampleSupen_cmd (s : State) (b : Bool) : (s.sampleSupen b).cmd = s.cmd := rfl
@[simp] theorem sampleSupen_eng (s : State) (b : Bool) : (s.sampleSupen b).eng = s.eng := rfl
@[simp] theorem sampleSupen_log (s : State) (b : Bool) : (s.sampleSupen b).log = s.log := rfl
@[simp] theorem sampleSupen_irq (s : State) (b : Bool) : (s.sampleSupen b).irq = s.irq := rfl
@[simp] theorem sampleSupen_tb (s : State) (b : Bool) : (s.sampleSupen b).tb = s.tb := rfl
@[simp] theorem sampleSupen_power (s : State) (b : Bool) : (s.sampleSupen b).power = s.power := rfl
@[simp] theorem sampleSupen_rst (s : State) (b : Bool) : (s.sampleSupen b).rst = s.rst := rfl
@[simp] theorem sampleSupen_moment (s : State) (b : Bool) : (s.sampleSupen b).moment = s.moment := rfl

end Sys2Proof.Laws
end

