-- ==== Sys2Proof/Laws/Frames.lean ====
section
/-! SUPPORT. The frame of each shared operation: the groups of the state that it can change, said once. -/

set_option Elab.async false

namespace Sys2Proof.Laws

open Sys2Proof.Machine Sys2Proof.Safety

/-! ## Putting frames together -/

theorem frame_refl (fs : List Field) (s : State) : unchangedBut fs s s := by
  intro f _; cases f <;> rfl

theorem frame_trans {fs : List Field} {s t u : State} (h : unchangedBut fs s t) (k : unchangedBut fs t u) :
    unchangedBut fs s u := by
  intro f hf
  have h := h f hf
  have k := k f hf
  cases f <;> exact Eq.trans k h

theorem frame_mono {fs gs : List Field} {s t : State} (h : unchangedBut fs s t) (hs : fs ⊆ gs) : unchangedBut gs s t :=
  fun f hf => h f fun hm => hf (hs hm)

/-- One frame after another. -/
theorem frame_comp {fs gs hs : List Field} {s t u : State} (h : unchangedBut fs s t) (k : unchangedBut gs t u)
    (hf : fs ⊆ hs := by decide) (hg : gs ⊆ hs := by decide) : unchangedBut hs s u :=
  frame_trans (frame_mono h hf) (frame_mono k hg)

theorem frame_foldl {α : Type} {fs : List Field} (f : State → α → State) (h : ∀ s a, unchangedBut fs s (f s a))
    (as : List α) : ∀ s, unchangedBut fs s (as.foldl f s) := by
  induction as with
  | nil => exact fun s => frame_refl fs s
  | cons a as ih => exact fun s => frame_trans (h s a) (ih _)

/-- A group outside a frame, read off. -/
theorem frame_mem {fs : List Field} {s t : State} (h : unchangedBut fs s t) (hf : Field.mem ∉ fs := by decide) :
    t.mem = s.mem := h .mem hf

/-! ## Plain updates -/

theorem updLane_frame (s : State) (n : LaneId) (g : Lane → Lane) : unchangedBut [.lanes] s (s.updLane n g) := by
  intro f hf; cases f <;> first | rfl | exact absurd (by decide) hf

theorem count_frame (s : State) (n : LaneId) (g : Counters → Counters) : unchangedBut [.lanes] s (s.count n g) := by
  intro f hf; cases f <;> first | rfl | exact absurd (by decide) hf

theorem setSlot_frame (s : State) (i : SlotId) (r : Slot) : unchangedBut [.slots] s (s.setSlot i r) := by
  intro f hf; cases f <;> first | rfl | exact absurd (by decide) hf

theorem updSlot_frame (s : State) (i : SlotId) (g : Slot → Slot) : unchangedBut [.slots] s (s.updSlot i g) := by
  intro f hf; cases f <;> first | rfl | exact absurd (by decide) hf

theorem withdraw_frame (s : State) (r : Req) : unchangedBut [.moment] s (s.withdraw r) := by
  intro f hf; cases f <;> first | rfl | exact absurd (by decide) hf

theorem append_frame (s : State) (e : Event) : unchangedBut [.log] s (s.append e) := by
  intro f hf; cases f <;> first | rfl | exact absurd (by decide) hf

theorem lose_frame (s : State) : unchangedBut [.log] s s.lose := by
  intro f hf; cases f <;> first | rfl | exact absurd (by decide) hf

theorem endTransaction_frame (s : State) (x : Resp) (d : Option Word) : unchangedBut [.port] s (s.endTransaction x d) := by
  intro f hf; cases f <;> first | rfl | exact absurd (by decide) hf

theorem setStage_frame (s : State) (x : ReadStage) : unchangedBut [.win] s (s.setStage x) := by
  intro f hf; cases f <;> first | rfl | exact absurd (by decide) hf

theorem startWait_frame (s : State) (w : Wait) : unchangedBut [.port] s (s.startWait w) := by
  intro f hf; cases f <;> first | rfl | exact absurd (by decide) hf

theorem advance_frame (s : State) (p : Ptr) : unchangedBut [.win] s (s.advance p) := by
  cases p <;> (intro f hf; cases f <;> first | rfl | exact absurd (by decide) hf)

/-! ## Requests, events, responses -/

theorem ask_frame (s : State) (r : Req) : unchangedBut [.moment] s (s.ask r) := by
  unfold State.ask; split <;> (intro f hf; cases f <;> first | rfl | exact absurd (by decide) hf)

theorem cause_frame (s : State) (r : Req) : unchangedBut [.moment] s (s.cause r) := by
  unfold State.cause; split <;> (intro f hf; cases f <;> first | rfl | exact absurd (by decide) hf)

theorem flag_frame (s : State) (e : Event) : unchangedBut [.irq] s (s.flag e) := by
  unfold State.flag; split <;> (intro f hf; cases f <;> first | rfl | exact absurd (by decide) hf)

theorem offer_frame (s : State) (e : Event) : unchangedBut [.log] s (s.offer e) := by
  unfold State.offer; (repeat' split) <;> (intro f hf; cases f <;> first | rfl | exact absurd (by decide) hf)

theorem raise_frame (s : State) (e : Event) : unchangedBut [.log, .irq] s (s.raise e) := by
  simp only [State.raise]; split
  · exact frame_comp (flag_frame s e) (show unchangedBut [.log] _ _ by intro f hf; cases f <;> first | rfl | exact absurd (by decide) hf)
  · exact frame_comp (flag_frame s e) (offer_frame _ e)

theorem raiseLane_frame (s : State) (n : LaneId) (k : Kind) (i : Option SlotId) (d : Word) : unchangedBut [.log, .irq] s (s.raiseLane n k i d) := by
  exact raise_frame s _

theorem raiseSup_frame (s : State) (k : Kind) (d : Word) : unchangedBut [.log, .irq] s (s.raiseSup k d) := by
  exact raise_frame s _

theorem offerHeld_frame (s : State) (e : Event) : unchangedBut [.log] s (s.offerHeld e) := by
  exact frame_comp (fs := [.log]) (show unchangedBut [.log] s _ by intro f hf; cases f <;> first | rfl | exact absurd (by decide) hf) (offer_frame _ e)

theorem countTransaction_frame (s : State) : unchangedBut [.sup] s s.countTransaction := by
  unfold State.countTransaction; split <;> (intro f hf; cases f <;> first | rfl | exact absurd (by decide) hf)

theorem respondOk_frame (s : State) (d : Option Word) : unchangedBut [.port, .sup] s (s.respondOk d) := by
  exact frame_comp (endTransaction_frame s .ok d) (countTransaction_frame _)

theorem respondAborted_frame (s : State) (a : Access) : unchangedBut [.port, .sup] s (s.respondAborted a) := by
  exact frame_comp (endTransaction_frame s .aborted _) (countTransaction_frame _)

theorem respondErr_frame (s : State) (r : Reason) (a : Access) : unchangedBut [.port, .sup, .log, .irq] s (s.respondErr r a) := by
  simp only [State.respondErr]
  refine frame_comp (fs := [.port, .sup]) ?_ (raise_frame _ _)
  refine frame_comp (frame_comp (endTransaction_frame s .err (if a.write then none else some 0)) (countTransaction_frame _) (hs := [.port, .sup])) (gs := [.port]) ?_
  intro f hf; cases f <;> first | rfl | exact absurd (by decide) hf

theorem closeWindow_frame (s : State) : unchangedBut [.sup, .log, .irq] s s.closeWindow := by
  simp only [State.closeWindow]
  refine frame_comp (fs := [.sup, .log, .irq]) (gs := [.log]) ?_ (frame_foldl _ offerHeld_frame _ _)
  refine frame_comp (fs := [.sup]) (hs := [.sup, .log, .irq]) ?_ (raise_frame _ _)
  intro f hf; cases f <;> first | rfl | exact absurd (by decide) hf

/-! ## Lanes and slots -/

theorem enterStopped_frame (s : State) (n : LaneId) : unchangedBut [.lanes, .moment] s (s.enterStopped n) := by
  intro f hf; cases f <;> first | rfl | exact absurd (by decide) hf

theorem stopAtBoundary_frame (s : State) (n : LaneId) : unchangedBut [.lanes, .moment, .log, .irq] s (s.stopAtBoundary n) := by
  exact frame_comp (enterStopped_frame s n) (raiseLane_frame _ _ _ _ _)

theorem joinFree_frame (s : State) (i : SlotId) : unchangedBut [.slots, .lanes, .hostFree] s (s.joinFree i) := by
  simp only [State.joinFree]; split <;> (intro f hf; cases f <;> first | rfl | exact absurd (by decide) hf)

theorem returnSlot_frame (s : State) (i : SlotId) : unchangedBut [.slots, .lanes, .hostFree] s (s.returnSlot i) := by
  unfold State.returnSlot; split
  · exact frame_mono (updSlot_frame s i _) (by decide)
  · exact joinFree_frame s i

theorem returnAll_frame (s : State) (is : List SlotId) : unchangedBut [.slots, .lanes, .hostFree] s (s.returnAll is) := by
  exact frame_foldl _ returnSlot_frame is s

theorem wake_frame (s : State) (n : LaneId) : unchangedBut [.moment] s (s.wake n) := by
  unfold State.wake; split
  · exact cause_frame s _
  · exact frame_refl _ s

theorem tellOwners_frame (s : State) (is : List SlotId) : unchangedBut [.moment] s (s.tellOwners is) := by
  unfold State.tellOwners
  refine frame_foldl _ (fun s n => ?_) _ s
  split
  · exact wake_frame s n
  · exact frame_refl _ s

theorem causeTake_frame (s : State) (n : LaneId) : unchangedBut [.lanes, .moment] s (s.causeTake n) := by
  exact frame_comp (updLane_frame s n _) (cause_frame _ _)

theorem nudge_frame (s : State) (n : LaneId) : unchangedBut [.lanes, .moment] s (s.nudge n) := by
  simp only [State.nudge]; split
  · exact causeTake_frame s n
  · exact frame_refl _ s

theorem nudgeAll_frame (s : State) : unchangedBut [.lanes, .moment] s s.nudgeAll := by
  exact frame_foldl _ nudge_frame _ s

theorem unlistFree_frame (s : State) (i : SlotId) : unchangedBut [.lanes, .hostFree] s (s.unlistFree i) := by
  unfold State.unlistFree; split <;> (intro f hf; cases f <;> first | rfl | exact absurd (by decide) hf)

theorem unlinger_frame (s : State) (i : SlotId) : unchangedBut [.lanes] s (s.unlinger i) := by
  unfold State.unlinger
  refine frame_foldl _ (fun s n => ?_) _ s
  split
  · exact updLane_frame s n _
  · exact frame_refl _ s

/-! ## The Arbiter and the memory block -/

theorem makeGrant_frame (s : State) (g : Grant) : unchangedBut [.arb, .scrub, .win] s (s.makeGrant g) := by
  rcases g with ⟨_ | _ | _ | _ | _ | _ | _ | _ | _, _, _⟩ <;> (intro f hf; cases f <;> first | rfl | exact absurd (by decide) hf)

theorem arbitrate_frame (s : State) : unchangedBut [.arb, .scrub, .win] s s.arbitrate := by
  unfold State.arbitrate; repeat' split
  · exact frame_refl _ s
  · exact makeGrant_frame s _
  · exact frame_refl _ s

theorem quarantineMarked_frame (s : State) (i : SlotId) : unchangedBut [.slots, .lanes, .hostFree] s (s.quarantineMarked i) := by
  unfold State.quarantineMarked; split
  · exact frame_comp (unlistFree_frame s i) (updSlot_frame _ i _)
  · exact frame_comp (unlinger_frame s i) (updSlot_frame _ i _)
  · exact frame_refl _ s

theorem mark_frame (s : State) (xs ys : List Nat) : unchangedBut [.slots, .lanes, .hostFree] s (s.mark xs ys) := by
  simp only [State.mark]
  refine frame_comp (gs := [.slots, .lanes, .hostFree]) (fs := [.slots]) ?_ (frame_foldl _ quarantineMarked_frame _ _)
  exact frame_comp (frame_foldl _ (fun s i => updSlot_frame s i _) _ _) (frame_foldl _ (fun s i => updSlot_frame s i _) _ _)

theorem reportCorrected_frame (s : State) (r : Reader) (rs : List WordRead) : unchangedBut [.ecc, .log, .irq] s (s.reportCorrected r rs) := by
  unfold State.reportCorrected; repeat' split
  · exact frame_refl _ s
  · refine frame_comp (fs := [.ecc]) ?_ (raise_frame _ _)
    intro f hf; cases f <;> first | rfl | exact absurd (by decide) hf
  · exact frame_refl _ s

theorem reportUncorrectable_frame (s : State) (r : Reader) (rs : List WordRead) : unchangedBut [.log, .irq] s (s.reportUncorrectable r rs) := by
  unfold State.reportUncorrectable; split
  · exact frame_refl _ s
  · exact raise_frame s _

theorem eccReport_frame (s : State) (r : Reader) (rs : List WordRead) : unchangedBut [.ecc, .slots, .lanes, .hostFree, .log, .irq] s (s.eccReport r rs) := by
  simp only [State.eccReport]
  refine frame_comp (fs := [.ecc, .slots, .lanes, .hostFree, .log, .irq]) ?_ (reportUncorrectable_frame _ r rs)
  refine frame_comp (fs := [.ecc, .slots, .lanes, .hostFree]) ?_ (reportCorrected_frame _ r rs)
  refine frame_comp (fs := [.ecc]) ?_ (mark_frame _ _ _)
  intro f hf; cases f <;> first | rfl | exact absurd (by decide) hf

/-! ## Commands and the Host Window -/

theorem recordDone_frame (s : State) (e : CmdEntry) (res : Result) (v : Nat) (i : Option SlotId) : unchangedBut [.cmd, .log, .irq] s (s.recordDone e res v i) := by
  refine frame_comp (fs := [.cmd]) ?_ (raise_frame _ _)
  intro f hf; cases f <;> first | rfl | exact absurd (by decide) hf

theorem askDispatch_frame (s : State) : unchangedBut [.moment] s s.askDispatch := by
  unfold State.askDispatch; split
  · exact ask_frame s _
  · exact frame_refl _ s

theorem causeDispatch_frame (s : State) : unchangedBut [.moment] s s.causeDispatch := by
  unfold State.causeDispatch; split
  · exact cause_frame s _
  · exact frame_refl _ s

theorem endLong_frame (s : State) (res : Result) (v : Nat) : unchangedBut [.eng, .cmd, .log, .irq, .moment] s (s.endLong res v) := by
  unfold State.endLong; split
  · refine frame_comp (fs := [.eng, .cmd, .log, .irq]) (gs := [.moment]) ?_ (causeDispatch_frame _)
    refine frame_comp (fs := [.eng]) (hs := [.eng, .cmd, .log, .irq]) ?_ (recordDone_frame _ _ _ _ _)
    intro f hf; cases f <;> first | rfl | exact absurd (by decide) hf
  · exact frame_refl _ s

theorem post_frame (s : State) (p : Ptr) (d : Word) : unchangedBut [.win, .port, .sup, .log, .irq] s (s.post p d) := by
  simp only [State.post]; split
  · refine frame_comp (fs := [.win]) ?_ (respondOk_frame _ none)
    refine frame_comp (fs := [.win]) ?_ (advance_frame _ p)
    intro f hf; cases f <;> first | rfl | exact absurd (by decide) hf
  · exact frame_mono (respondErr_frame s _ _) (by decide)

theorem issue_frame (s : State) (p : Ptr) : unchangedBut [.win, .port, .sup, .log, .irq] s (s.issue p) := by
  unfold State.issue; split
  · exact frame_mono (setStage_frame s _) (by decide)
  · exact frame_comp (setStage_frame s _) (respondErr_frame _ _ _)

theorem written_frame (s : State) (k : Nat) : unchangedBut [.win, .port, .sup, .log, .irq] s (s.written k) := by
  simp only [State.written]
  have h : unchangedBut [.win] s { s with win := { s.win with buffer := s.win.buffer.drop k } } := by
    intro f hf; cases f <;> first | rfl | exact absurd (by decide) hf
  repeat' split
  · exact frame_comp h (post_frame _ _ _)
  · exact frame_mono h (by decide)
  · exact frame_comp h (issue_frame _ _)
  · exact frame_mono h (by decide)
  · exact frame_mono h (by decide)

theorem readResult_frame (s : State) (p : Ptr) (r : WordRead) : unchangedBut [.win, .port, .sup, .log, .irq] s (s.readResult p r) := by
  simp only [State.readResult]; split
  · exact frame_comp (setStage_frame s _) (respondErr_frame _ _ _)
  · exact frame_comp (frame_comp (setStage_frame s _) (advance_frame _ p) (hs := [.win])) (respondOk_frame _ _)
  · exact frame_comp (frame_comp (setStage_frame s _) (advance_frame _ p) (hs := [.win])) (respondOk_frame _ _)

end Sys2Proof.Laws
end

