-- ==== Sys2Proof/Laws/Memory.lean ====
section
/-! SUPPORT. The memory laws: every operation keeps the canonical form, a read after a write gives the value written, and a
write leaves every other address alone. -/

namespace Sys2Proof.Laws

open Sys2Proof.Machine

/-! ## The canonical form -/

/-- What the canonical form says of a memory with a first entry. -/
theorem wf_cons (a : Nat) (c : Cell) (m : Memory) :
    Memory.wf ((a, c) :: m) = true ↔ c ≠ Cell.unlisted ∧ (∀ e ∈ m, a < e.1) ∧ Memory.wf m = true := by
  simp [Memory.wf, and_assoc]

/-- Setting an address brings in no entry below the bounds that memory and address have. -/
theorem lt_of_mem_set (m : Memory) (k a : Nat) (c : Cell) (hm : ∀ e ∈ m, k < e.1) (ha : k < a) :
    ∀ e ∈ Memory.set m a c, k < e.1 := by
  induction m with
  | nil =>
    intro e he
    unfold Memory.set at he
    split at he
    · simp at he
    · simp only [List.mem_singleton] at he; subst he; exact ha
  | cons hd tl ih =>
    obtain ⟨b, d⟩ := hd
    have htl : ∀ e ∈ tl, k < e.1 := fun e he => hm e (List.mem_cons_of_mem _ he)
    have hb : k < b := hm (b, d) List.mem_cons_self
    intro e he
    unfold Memory.set at he
    split at he
    · split at he
      · exact hm e he
      · rcases List.mem_cons.1 he with rfl | he
        · exact ha
        · exact hm e he
    · split at he
      · split at he
        · exact htl e he
        · rcases List.mem_cons.1 he with rfl | he
          · exact ha
          · exact htl e he
      · rcases List.mem_cons.1 he with rfl | he
        · exact hb
        · exact ih htl e he

/-- Setting an address keeps the canonical form. -/
theorem set_wf (m : Memory) (a : Nat) (c : Cell) (h : Memory.wf m = true) : Memory.wf (Memory.set m a c) = true := by
  induction m with
  | nil =>
    unfold Memory.set
    split
    · rfl
    · rename_i hc; simp [Memory.wf, hc]
  | cons hd tl ih =>
    obtain ⟨b, d⟩ := hd
    obtain ⟨hd, hlt, hwf⟩ := (wf_cons b d tl).1 h
    unfold Memory.set
    split
    · rename_i hab
      split
      · exact h
      · rename_i hc
        refine (wf_cons a c _).2 ⟨hc, fun e he => ?_, h⟩
        rcases List.mem_cons.1 he with rfl | he
        · exact hab
        · exact hab.trans (hlt e he)
    · split
      · rename_i heq
        subst heq
        split
        · exact hwf
        · rename_i hc; exact (wf_cons a c tl).2 ⟨hc, hlt, hwf⟩
      · rename_i h1 h2
        exact (wf_cons b d _).2 ⟨hd, lt_of_mem_set tl b a c hlt (by omega), ih hwf⟩

/-- A write keeps the canonical form. -/
theorem write_wf (m : Memory) (a : Nat) (w : Word) (h : Memory.wf m = true) : Memory.wf (m.write a w) = true :=
  set_wf m a _ h

/-- Writing consecutive words keeps the canonical form. -/
theorem writeWords_wf (ws : List Word) : ∀ (m : Memory) (a : Nat), Memory.wf m = true →
    Memory.wf (m.writeWords a ws) = true := by
  induction ws with
  | nil => exact fun _ _ h => h
  | cons w ws ih => exact fun m a h => ih _ _ (write_wf m a w h)

/-- A filtered memory keeps the canonical form. -/
theorem filter_wf (m : Memory) (p : Nat × Cell → Bool) (h : Memory.wf m = true) : Memory.wf (m.filter p) = true := by
  induction m with
  | nil => rfl
  | cons hd tl ih =>
    obtain ⟨b, d⟩ := hd
    obtain ⟨hd, hlt, hwf⟩ := (wf_cons b d tl).1 h
    rw [List.filter_cons]
    split
    · exact (wf_cons b d _).2 ⟨hd, fun e he => hlt e (List.mem_filter.1 he).1, ih hwf⟩
    · exact ih hwf

/-- The sweep's zeros keep the canonical form. -/
theorem zeroFrom_wf (m : Memory) (lo hi : Nat) (h : Memory.wf m = true) : Memory.wf (m.zeroFrom lo hi) = true :=
  filter_wf m _ h

/-- Disturbances keep the canonical form. -/
theorem disturb_wf (size : Nat) (fs : List Flip) : ∀ m : Memory, Memory.wf m = true →
    Memory.wf (m.disturb size fs) = true := by
  induction fs with
  | nil => exact fun _ h => h
  | cons f fs ih =>
    intro m h
    unfold Memory.disturb
    dsimp only
    split
    · exact ih _ (set_wf m _ _ h)
    · exact ih _ h

/-- The Scrubber's write-backs keep the canonical form. -/
theorem writeBack_wf (m : Memory) (rs : List WordRead) (h : Memory.wf m = true) : Memory.wf (m.writeBack rs) = true := by
  unfold Memory.writeBack
  generalize correctedOf rs = cs
  induction cs generalizing m with
  | nil => exact h
  | cons r cs ih => exact ih _ (write_wf m _ _ h)

/-! ## Reads and writes -/

/-- An address below every listed one is not listed. -/
theorem find_none (m : Memory) (a : Nat) (h : ∀ e ∈ m, a < e.1) : Memory.find m a = none := by
  induction m with
  | nil => rfl
  | cons hd tl ih =>
    obtain ⟨b, d⟩ := hd
    have hab : a < b := h (b, d) List.mem_cons_self
    unfold Memory.find
    rw [if_neg (by omega)]
    exact ih fun e he => h e (List.mem_cons_of_mem _ he)

/-- A read after setting the same address gives what was set. -/
theorem read_set_same (m : Memory) (a : Nat) (c : Cell) (h : Memory.wf m = true) :
    Memory.read (Memory.set m a c) a = c := by
  unfold Memory.read
  induction m with
  | nil =>
    unfold Memory.set
    split
    · rename_i hc; simp [Memory.find, hc]
    · simp [Memory.find]
  | cons hd tl ih =>
    obtain ⟨b, d⟩ := hd
    obtain ⟨-, hlt, hwf⟩ := (wf_cons b d tl).1 h
    unfold Memory.set
    split
    · rename_i hab
      split
      · rename_i hc
        have : Memory.find ((b, d) :: tl) a = none := find_none _ _ fun e he => by
          rcases List.mem_cons.1 he with rfl | he
          · exact hab
          · exact hab.trans (hlt e he)
        simp [this, hc]
      · simp [Memory.find]
    · split
      · rename_i heq
        subst heq
        split
        · rename_i hc; simp [find_none tl a hlt, hc]
        · simp [Memory.find]
      · rename_i h1 h2
        unfold Memory.find
        rw [if_neg (by omega)]
        exact ih hwf

/-- Setting an address leaves every other address alone. -/
theorem read_set_other (m : Memory) (a b : Nat) (c : Cell) (hab : b ≠ a) :
    Memory.read (Memory.set m a c) b = Memory.read m b := by
  unfold Memory.read
  congr 1
  induction m with
  | nil =>
    unfold Memory.set
    split
    · rfl
    · simp [Memory.find, hab.symm]
  | cons hd tl ih =>
    obtain ⟨k, d⟩ := hd
    unfold Memory.set
    split
    · split
      · rfl
      · simp [Memory.find, hab.symm]
    · split
      · rename_i heq
        subst heq
        split <;> simp [Memory.find, hab.symm]
      · by_cases hk : k = b
        · simp [Memory.find, hk]
        · simp [Memory.find, hk, ih]

/-- A read after a write of the same address gives the word written, sound (R17). -/
theorem read_write_same (m : Memory) (a : Nat) (w : Word) (h : Memory.wf m = true) :
    (m.write a w).read a = Cell.fresh w := read_set_same m a _ h

/-- A write leaves every other address alone. -/
theorem read_write_other (m : Memory) (a b : Nat) (w : Word) (hab : b ≠ a) : (m.write a w).read b = m.read b :=
  read_set_other m a b _ hab

/-- Writing consecutive words leaves every address outside them alone. -/
theorem read_writeWords_other (ws : List Word) : ∀ (m : Memory) (a b : Nat), b < a ∨ a + ws.length ≤ b →
    (m.writeWords a ws).read b = m.read b := by
  induction ws with
  | nil => exact fun _ _ _ _ => rfl
  | cons w ws ih =>
    intro m a b h
    simp only [List.length_cons] at h
    exact (ih _ _ b (by omega)).trans (read_write_other m a b w (by omega))

/-- Each of consecutive words written reads back. -/
theorem read_writeWords (ws : List Word) : ∀ (m : Memory) (a k : Nat) (hk : k < ws.length), Memory.wf m = true →
    (m.writeWords a ws).read (a + k) = Cell.fresh ws[k] := by
  induction ws with
  | nil => exact fun _ _ _ hk => absurd hk (by simp)
  | cons w ws ih =>
    intro m a k hk h
    cases k with
    | zero => exact (read_writeWords_other ws _ _ _ (by omega)).trans (read_write_same m a w h)
    | succ k =>
      have := ih (m.write a w) (a + 1) k (by simpa using hk) (write_wf m a w h)
      rw [show a + (k + 1) = a + 1 + k by omega]
      simpa [Memory.writeWords] using this

/-- The write-back leaves every word alone that did not read as corrected (R29). -/
theorem read_writeBack_other (m : Memory) (rs : List WordRead) (b : Nat) (h : ∀ r ∈ correctedOf rs, r.addr ≠ b) :
    (m.writeBack rs).read b = m.read b := by
  unfold Memory.writeBack
  generalize correctedOf rs = ws at h
  induction ws generalizing m with
  | nil => rfl
  | cons w ws ih =>
    rw [List.foldl_cons, ih _ fun r hr => h r (List.mem_cons_of_mem _ hr)]
    exact read_write_other m w.addr b w.data (h w List.mem_cons_self).symm

/-- A sound word reads as clean, with the word written (R18). -/
theorem fresh_outcome (w : Word) : (Cell.fresh w).outcome = .clean := by
  have : (Cell.fresh w).flipCount = 0 := by simp [Cell.flipCount, Cell.fresh]
  simp [Cell.outcome, this]

theorem fresh_delivered (w : Word) : (Cell.fresh w).delivered = w := by
  unfold Cell.delivered
  rw [fresh_outcome]
  simp [Cell.storedData, Cell.fresh]

end Sys2Proof.Laws
end

