-- ==== Sys2Proof/WellFormed.lean ====
section
/-! DEFINITION. Which terms of `Instr` stand for an occurrence that the opcode table's rows describe. The meanings are
total: they answer on an ill-formed term too. -/

namespace Sys2Proof

/-- The addresses whose write is a row of its own: HOST_ERR, CFG_LOCK, RESET_ARM, RESET_GO, WIN_DATA_A and WIN_DATA_B,
CMD_ISSUE, ENGINE_ABORT, IRQ_PENDING, IRQ_EOI, TB_PRESCALE, SUP_ARM, SUP_KICK, POWER_CTRL, SCRUB_CFG, SLOT_SEL and LN_CFG of
each lane (chapter 11). -/
def ownWriteRows : List (BitVec 8) :=
  [0x02, 0x03, 0x05, 0x06, 0x12, 0x15, 0x24, 0x26, 0x34, 0x38, 0x41, 0x44, 0x45, 0x47, 0x54, 0x60,
   0x80, 0x90, 0xA0, 0xB0]

/-- The addresses whose read is a row of its own: WIN_DATA_A and WIN_DATA_B, EVT_DATA, EVT_LOST, IRQ_VECTOR,
ECC_CORR_COUNT, ECC_UNCORR_COUNT, SLOT_DATA and LN_CNT_DATA of each lane (chapter 11). -/
def ownReadRows : List (BitVec 8) :=
  [0x12, 0x15, 0x31, 0x33, 0x37, 0x51, 0x52, 0x61, 0x88, 0x98, 0xA8, 0xB8]

/-- A disturbance names a word that some part of the family has, and flips at least one bit. -/
def Flip.wf (f : Flip) : Bool := decide (f.addr < 262144) && f.bits != 0

/-- The request code of a written POWER_CTRL word, codes above 2 taken as RETAIN (R180). -/
def requestCode (data : Word) : Nat := min 2 (data &&& 3).toNat

/-- The well-formed terms: REGISTER_WRITE and REGISTER_READ name a register whose access has no row of its own (the rows'
summaries), RUN, DOZE and RETAIN carry a word that requests that state, disturbances are disturbances, and a cut grant has
had at most its eight words accessed. -/
def Instr.wf : Instr → Bool
  | .registerWrite addr _ => !ownWriteRows.contains addr
  | .registerRead addr => !ownReadRows.contains addr
  | .run data => requestCode data == 0
  | .doze data => requestCode data == 1
  | .retain data => requestCode data == 2
  | .egressGrantEnd fs => fs.all Flip.wf
  | .windowReadGrantEnd fs => fs.all Flip.wf
  | .copyReadGrantEnd fs => fs.all Flip.wf
  | .measureGrantEnd fs => fs.all Flip.wf
  | .scrubGrantEnd fs => fs.all Flip.wf
  | .pinReset cut => decide (cut ≤ Config.burstWords)
  | .timeout | .abort _ | .hostErrWrite _ | .cfgLockWrite _ | .resetArm _ | .resetGo _ | .winDataRead _
  | .winDataWrite _ _ | .slotSelWrite _ | .snapshot | .slotDataRead | .evtDataRead | .evtLostRead | .eccCorrCountRead
  | .eccUncorrCountRead | .lnCntDataRead _ | .acknowledge | .eoi _ | .irqPendingWrite _ | .engineAbort _ | .supArm _
  | .supKick _ | .windowClosed | .scrubCfgWrite _ | .tbPrescaleWrite _ | .lnCfgWrite _ _ | .slotAssign | .slotUnassign
  | .claim | .alloc | .release | .submit | .laneStart | .laneStop | .laneHalt | .haltAtGrantEnd | .laneFlush | .bind
  | .copy | .fill | .measure | .sync | .unknownCommand | .commandDispatch | .ingressGrantEnd | .windowWriteGrantEnd
  | .copyWriteGrantEnd | .fillGrantEnd | .scrubRequest | .wordArrival _ _ _ _ | .publish _ | .allocate _ | .take _
  | .wordSent _ | .ret _ | .triggerEdge _ _ | .timebaseTick | .supWarning | .supExpired | .initDone | .powerOnReset _
  | .rstnRelease _ | .supervisorReset | .softReset | .cmdIssue _ => true

end Sys2Proof
end

