-- ==== Sys2Proof/Laws/PerInstr.lean ====
section
/-! SUPPORT. One fact for each command of the table, as syntax: a row that is the access of one register names a register
that exists, that its access type lets it reach, and that the general rows leave to it (chapter 11). -/

namespace Sys2Proof.Laws

open Sys2Proof.Machine

/-- The register and the direction (true for a write) of a row that is the access of one register. -/
def ownAccess : Instr → Option (BitVec 8 × Bool)
  | .registerWrite _ _ => none
  | .timeout => none
  | .abort _ => none
  | .hostErrWrite _ => some (0x02, true)
  | .cfgLockWrite _ => some (0x03, true)
  | .resetArm _ => some (0x05, true)
  | .resetGo _ => some (0x06, true)
  | .winDataRead p => some (winDataAddr p, false)
  | .winDataWrite p _ => some (winDataAddr p, true)
  | .slotSelWrite _ => some (0x60, true)
  | .snapshot => none
  | .slotDataRead => some (0x61, false)
  | .evtDataRead => some (0x31, false)
  | .evtLostRead => some (0x33, false)
  | .eccCorrCountRead => some (0x51, false)
  | .eccUncorrCountRead => some (0x52, false)
  | .lnCntDataRead n => some (laneAddr n 8, false)
  | .acknowledge => some (0x37, false)
  | .eoi _ => some (0x38, true)
  | .irqPendingWrite _ => some (0x34, true)
  | .engineAbort _ => some (0x26, true)
  | .supArm _ => some (0x44, true)
  | .supKick _ => some (0x45, true)
  | .windowClosed => none
  | .scrubCfgWrite _ => some (0x54, true)
  | .tbPrescaleWrite _ => some (0x41, true)
  | .lnCfgWrite n _ => some (laneAddr n 0, true)
  | .run _ => some (0x47, true)
  | .doze _ => some (0x47, true)
  | .retain _ => some (0x47, true)
  | .slotAssign => none
  | .slotUnassign => none
  | .claim => none
  | .alloc => none
  | .release => none
  | .submit => none
  | .laneStart => none
  | .laneStop => none
  | .laneHalt => none
  | .haltAtGrantEnd => none
  | .laneFlush => none
  | .bind => none
  | .copy => none
  | .fill => none
  | .measure => none
  | .sync => none
  | .unknownCommand => none
  | .commandDispatch => none
  | .ingressGrantEnd => none
  | .egressGrantEnd _ => none
  | .windowWriteGrantEnd => none
  | .windowReadGrantEnd _ => none
  | .copyReadGrantEnd _ => none
  | .copyWriteGrantEnd => none
  | .fillGrantEnd => none
  | .measureGrantEnd _ => none
  | .scrubGrantEnd _ => none
  | .scrubRequest => none
  | .wordArrival _ _ _ _ => none
  | .publish _ => none
  | .allocate _ => none
  | .take _ => none
  | .wordSent _ => none
  | .ret _ => none
  | .triggerEdge _ _ => none
  | .timebaseTick => none
  | .supWarning => none
  | .supExpired => none
  | .initDone => none
  | .powerOnReset _ => none
  | .pinReset _ => none
  | .rstnRelease _ => none
  | .supervisorReset => none
  | .softReset => none
  | .cmdIssue _ => some (0x24, true)
  | .registerRead _ => none

/-- The row's register is mapped, is not read-only where the row writes it, and is no register of the general rows
REGISTER_WRITE and REGISTER_READ. -/
def RowRegister.Statement (i : Instr) : Prop :=
  ∀ a w, ownAccess i = some (a, w) →
    (decodeReg a).isSome = true ∧
      (if w then a ∈ ownWriteRows ∧ (decodeReg a).all (fun r => !r.readOnly) = true else a ∈ ownReadRows)

theorem RowRegister.registerWrite (addr : BitVec 8) (data : Word) : RowRegister.Statement (.registerWrite addr data) := by
  intro a w h; cases h
theorem RowRegister.timeout : RowRegister.Statement (.timeout) := by
  intro a w h; cases h
theorem RowRegister.abort (level : Bool) : RowRegister.Statement (.abort level) := by
  intro a w h; cases h
theorem RowRegister.hostErrWrite (data : Word) : RowRegister.Statement (.hostErrWrite data) := by
  intro a w h; cases h; decide
theorem RowRegister.cfgLockWrite (data : Word) : RowRegister.Statement (.cfgLockWrite data) := by
  intro a w h; cases h; decide
theorem RowRegister.resetArm (data : Word) : RowRegister.Statement (.resetArm data) := by
  intro a w h; cases h; decide
theorem RowRegister.resetGo (data : Word) : RowRegister.Statement (.resetGo data) := by
  intro a w h; cases h; decide
theorem RowRegister.winDataRead (p : Ptr) : RowRegister.Statement (.winDataRead p) := by
  intro a w h; cases h; cases p <;> decide
theorem RowRegister.winDataWrite (p : Ptr) (data : Word) : RowRegister.Statement (.winDataWrite p data) := by
  intro a w h; cases h; cases p <;> decide
theorem RowRegister.slotSelWrite (data : Word) : RowRegister.Statement (.slotSelWrite data) := by
  intro a w h; cases h; decide
theorem RowRegister.snapshot : RowRegister.Statement (.snapshot) := by
  intro a w h; cases h
theorem RowRegister.slotDataRead : RowRegister.Statement (.slotDataRead) := by
  intro a w h; cases h; decide
theorem RowRegister.evtDataRead : RowRegister.Statement (.evtDataRead) := by
  intro a w h; cases h; decide
theorem RowRegister.evtLostRead : RowRegister.Statement (.evtLostRead) := by
  intro a w h; cases h; decide
theorem RowRegister.eccCorrCountRead : RowRegister.Statement (.eccCorrCountRead) := by
  intro a w h; cases h; decide
theorem RowRegister.eccUncorrCountRead : RowRegister.Statement (.eccUncorrCountRead) := by
  intro a w h; cases h; decide
theorem RowRegister.lnCntDataRead (n : LaneId) : RowRegister.Statement (.lnCntDataRead n) := by
  intro a w h; cases h; revert n; decide
theorem RowRegister.acknowledge : RowRegister.Statement (.acknowledge) := by
  intro a w h; cases h; decide
theorem RowRegister.eoi (data : Word) : RowRegister.Statement (.eoi data) := by
  intro a w h; cases h; decide
theorem RowRegister.irqPendingWrite (data : Word) : RowRegister.Statement (.irqPendingWrite data) := by
  intro a w h; cases h; decide
theorem RowRegister.engineAbort (data : Word) : RowRegister.Statement (.engineAbort data) := by
  intro a w h; cases h; decide
theorem RowRegister.supArm (data : Word) : RowRegister.Statement (.supArm data) := by
  intro a w h; cases h; decide
theorem RowRegister.supKick (data : Word) : RowRegister.Statement (.supKick data) := by
  intro a w h; cases h; decide
theorem RowRegister.windowClosed : RowRegister.Statement (.windowClosed) := by
  intro a w h; cases h
theorem RowRegister.scrubCfgWrite (data : Word) : RowRegister.Statement (.scrubCfgWrite data) := by
  intro a w h; cases h; decide
theorem RowRegister.tbPrescaleWrite (data : Word) : RowRegister.Statement (.tbPrescaleWrite data) := by
  intro a w h; cases h; decide
theorem RowRegister.lnCfgWrite (n : LaneId) (data : Word) : RowRegister.Statement (.lnCfgWrite n data) := by
  intro a w h; cases h; revert n; decide
theorem RowRegister.run (data : Word) : RowRegister.Statement (.run data) := by
  intro a w h; cases h; decide
theorem RowRegister.doze (data : Word) : RowRegister.Statement (.doze data) := by
  intro a w h; cases h; decide
theorem RowRegister.retain (data : Word) : RowRegister.Statement (.retain data) := by
  intro a w h; cases h; decide
theorem RowRegister.slotAssign : RowRegister.Statement (.slotAssign) := by
  intro a w h; cases h
theorem RowRegister.slotUnassign : RowRegister.Statement (.slotUnassign) := by
  intro a w h; cases h
theorem RowRegister.claim : RowRegister.Statement (.claim) := by
  intro a w h; cases h
theorem RowRegister.alloc : RowRegister.Statement (.alloc) := by
  intro a w h; cases h
theorem RowRegister.release : RowRegister.Statement (.release) := by
  intro a w h; cases h
theorem RowRegister.submit : RowRegister.Statement (.submit) := by
  intro a w h; cases h
theorem RowRegister.laneStart : RowRegister.Statement (.laneStart) := by
  intro a w h; cases h
theorem RowRegister.laneStop : RowRegister.Statement (.laneStop) := by
  intro a w h; cases h
theorem RowRegister.laneHalt : RowRegister.Statement (.laneHalt) := by
  intro a w h; cases h
theorem RowRegister.haltAtGrantEnd : RowRegister.Statement (.haltAtGrantEnd) := by
  intro a w h; cases h
theorem RowRegister.laneFlush : RowRegister.Statement (.laneFlush) := by
  intro a w h; cases h
theorem RowRegister.bind : RowRegister.Statement (.bind) := by
  intro a w h; cases h
theorem RowRegister.copy : RowRegister.Statement (.copy) := by
  intro a w h; cases h
theorem RowRegister.fill : RowRegister.Statement (.fill) := by
  intro a w h; cases h
theorem RowRegister.measure : RowRegister.Statement (.measure) := by
  intro a w h; cases h
theorem RowRegister.sync : RowRegister.Statement (.sync) := by
  intro a w h; cases h
theorem RowRegister.unknownCommand : RowRegister.Statement (.unknownCommand) := by
  intro a w h; cases h
theorem RowRegister.commandDispatch : RowRegister.Statement (.commandDispatch) := by
  intro a w h; cases h
theorem RowRegister.ingressGrantEnd : RowRegister.Statement (.ingressGrantEnd) := by
  intro a w h; cases h
theorem RowRegister.egressGrantEnd (flips : List Flip) : RowRegister.Statement (.egressGrantEnd flips) := by
  intro a w h; cases h
theorem RowRegister.windowWriteGrantEnd : RowRegister.Statement (.windowWriteGrantEnd) := by
  intro a w h; cases h
theorem RowRegister.windowReadGrantEnd (flips : List Flip) : RowRegister.Statement (.windowReadGrantEnd flips) := by
  intro a w h; cases h
theorem RowRegister.copyReadGrantEnd (flips : List Flip) : RowRegister.Statement (.copyReadGrantEnd flips) := by
  intro a w h; cases h
theorem RowRegister.copyWriteGrantEnd : RowRegister.Statement (.copyWriteGrantEnd) := by
  intro a w h; cases h
theorem RowRegister.fillGrantEnd : RowRegister.Statement (.fillGrantEnd) := by
  intro a w h; cases h
theorem RowRegister.measureGrantEnd (flips : List Flip) : RowRegister.Statement (.measureGrantEnd flips) := by
  intro a w h; cases h
theorem RowRegister.scrubGrantEnd (flips : List Flip) : RowRegister.Statement (.scrubGrantEnd flips) := by
  intro a w h; cases h
theorem RowRegister.scrubRequest : RowRegister.Statement (.scrubRequest) := by
  intro a w h; cases h
theorem RowRegister.wordArrival (n : LaneId) (data : Word) (sof : Bool) (eof : Bool) : RowRegister.Statement (.wordArrival n data sof eof) := by
  intro a w h; cases h
theorem RowRegister.publish (n : LaneId) : RowRegister.Statement (.publish n) := by
  intro a w h; cases h
theorem RowRegister.allocate (n : LaneId) : RowRegister.Statement (.allocate n) := by
  intro a w h; cases h
theorem RowRegister.take (n : LaneId) : RowRegister.Statement (.take n) := by
  intro a w h; cases h
theorem RowRegister.wordSent (n : LaneId) : RowRegister.Statement (.wordSent n) := by
  intro a w h; cases h
theorem RowRegister.ret (n : LaneId) : RowRegister.Statement (.ret n) := by
  intro a w h; cases h
theorem RowRegister.triggerEdge (n : LaneId) (level : Bool) : RowRegister.Statement (.triggerEdge n level) := by
  intro a w h; cases h
theorem RowRegister.timebaseTick : RowRegister.Statement (.timebaseTick) := by
  intro a w h; cases h
theorem RowRegister.supWarning : RowRegister.Statement (.supWarning) := by
  intro a w h; cases h
theorem RowRegister.supExpired : RowRegister.Statement (.supExpired) := by
  intro a w h; cases h
theorem RowRegister.initDone : RowRegister.Statement (.initDone) := by
  intro a w h; cases h
theorem RowRegister.powerOnReset (supen : Bool) : RowRegister.Statement (.powerOnReset supen) := by
  intro a w h; cases h
theorem RowRegister.pinReset (cut : Nat) : RowRegister.Statement (.pinReset cut) := by
  intro a w h; cases h
theorem RowRegister.rstnRelease (supen : Bool) : RowRegister.Statement (.rstnRelease supen) := by
  intro a w h; cases h
theorem RowRegister.supervisorReset : RowRegister.Statement (.supervisorReset) := by
  intro a w h; cases h
theorem RowRegister.softReset : RowRegister.Statement (.softReset) := by
  intro a w h; cases h
theorem RowRegister.cmdIssue (data : Word) : RowRegister.Statement (.cmdIssue data) := by
  intro a w h; cases h; decide
theorem RowRegister.registerRead (addr : BitVec 8) : RowRegister.Statement (.registerRead addr) := by
  intro a w h; cases h

end Sys2Proof.Laws
end

