-- ==== Sys2Proof/Laws/Quiet.lean ====
section
/-! SUPPORT. What the rows come down to in the states that statements speak of: a host access of a quiet state, a service
that is what is due, a grant end with nothing due. -/

namespace Sys2Proof.Laws

open Sys2Proof.Machine Sys2Proof.Safety

theorem calm_of_quiet {s : State} (h : quiet s) : calm s := by
  obtain ⟨h1, _, h3⟩ := h
  simp [State.accepting] at h3
  exact ⟨h1, h3.1⟩

/-- In a calm state no window closes, no reset is ready, and no request is outstanding. -/
theorem calm_facts {s : State} (h : calm s) :
    s.closingDue = false ∧ s.resetReady = false ∧ s.moment.asked = [] ∧ s.moment.caused = [] := by
  obtain ⟨h1, h2⟩ := h
  simp only [State.nextDue, h2, Bool.false_eq_true, if_false] at h1
  split at h1
  · cases h1
  · split at h1
    · cases h1
    · split at h1
      · cases h1
      · cases h1
      · simp_all

theorem calm_outstanding {s : State} (h : calm s) (r : Req) : s.outstanding r = false := by
  simp [State.outstanding, (calm_facts h).2.2.1, (calm_facts h).2.2.2]

theorem calm_openMoment {s : State} (h : calm s) : s.openMoment [] = { s with moment := Moment.empty } := by
  obtain ⟨_, _, h3, h4⟩ := calm_facts h
  simp [State.openMoment, Moment.empty, h3, h4]

theorem settleFor_none {s : State} (h : s.nextDue = none) : ∀ k, State.settleFor k s = s
  | 0 => rfl
  | _ + 1 => by simp [State.settleFor, h]

theorem settle_none {s : State} (h : s.nextDue = none) : s.settle = s := settleFor_none h settleBound

theorem serveAskedFor_none {s : State} (h : s.nextDue = none) : ∀ k, State.serveAskedFor k s = s
  | 0 => rfl
  | _ + 1 => by simp [State.serveAskedFor, h]

theorem beforeMark_none {s : State} (h : s.nextDue = none) : s.beforeMark = s := serveAskedFor_none h 17

/-- What is due does not depend on where the moment's occurrences came from, and on what they told. -/
@[simp] theorem nextDue_sources (s : State) (x : List Source) (b : Bool) :
    State.nextDue { s with moment := ⟨s.moment.asked, s.moment.caused, x, b⟩ } = s.nextDue := rfl

@[simp] theorem nextDue_openMoment (s : State) (x : List Source) : (s.openMoment x).nextDue = s.nextDue := rfl

theorem calm_urgentDue {s : State} (h : calm s) : s.urgentDue = false := by
  simp [State.urgentDue, State.tickDue, calm_outstanding h, (calm_facts h).1, (calm_facts h).2.1]

theorem nextDue_emptied {s : State} (h : calm s) : State.nextDue { s with moment := Moment.empty } = none := by
  rw [← calm_openMoment h]; exact h.1

/-- With nothing due, an access comes at a new moment: one that a write which makes a request leaves open. -/
theorem freshMoment_calm {s : State} (h : calm s) (a : Access) :
    s.freshMoment a =
      { s with moment :=
          ⟨[], [], if s.requestsAtOnce a && (s.accessFails a).isNone then s.opening .host else [], false⟩ } := by
  obtain ⟨_, _, h3, h4⟩ := calm_facts h
  simp [State.freshMoment, State.openFor, settle_none h.1, State.openMoment, h3, h4]

theorem beforeHost_quiet {s : State} (h : quiet s) (a : Access) : s.beforeHost a = s.freshMoment a ∨
    s.beforeHost a = { s with moment := Moment.empty } ∧ s.requestsAtOnce a = false := by
  have c := calm_of_quiet h
  by_cases hr : (a.readsCounter && s.moment.uncounted) = true
  · refine .inr ⟨?_, ?_⟩
    · simp [State.beforeHost, calm_urgentDue c, calm_outstanding c, hr, calm_openMoment c]
    · have hw : a.write = false := by
        simp [Access.readsCounter] at hr; exact hr.1.1
      simp [State.requestsAtOnce, hw]
  · simp only [Bool.not_eq_true] at hr
    exact .inl (by simp [State.beforeHost, calm_urgentDue c, calm_outstanding c, hr, State.joinsHost, h.1])

/-- A host request of a quiet state that makes no request of its own is accepted at a new moment, which it closes. -/
theorem hostRow_quiet {s : State} (h : quiet s) (a : Access)
    (hp : s.requestsAtOnce a = false ∨ (s.accessFails a).isNone = false) :
    s.hostRow a = (State.transact { s with moment := Moment.empty } a).arbitrate := by
  have c := calm_of_quiet h
  have e : s.beforeHost a = { s with moment := Moment.empty } := by
    rcases beforeHost_quiet h a with e | e
    · rw [e, freshMoment_calm c]; rcases hp with hp | hp <;> simp [hp, Moment.empty]
    · exact e.1
  have e3 : State.accepting { s with moment := Moment.empty } = true := h.2.2
  simp [State.hostRow, h.2.1, e, e3]

/-- A write of a quiet state that makes a request is accepted at a new moment, and leaves it open to a grant's end (R57). -/
theorem hostRow_quiet_request {s : State} (h : quiet s) (a : Access) (hr : s.requestsAtOnce a = true)
    (hf : s.accessFails a = none) :
    s.hostRow a = (State.transact { s with moment := ⟨[], [], s.opening .host, false⟩ } a).arbitrate := by
  have c := calm_of_quiet h
  have e : s.beforeHost a = { s with moment := ⟨[], [], s.opening .host, false⟩ } := by
    rcases beforeHost_quiet h a with e | e
    · rw [e, freshMoment_calm c]; simp [hr, hf]
    · simp [e.2] at hr
  have e3 : State.accepting { s with moment := ⟨[], [], s.opening .host, false⟩ } = true := h.2.2
  simp [State.hostRow, h.2.1, e, e3]

/-- A write that makes a request comes at a moment that takes it: with what the moment has asked for still to serve, unless it is a
CMD_ISSUE, which comes behind what R57 places before a command. -/
theorem beforeHost_joins {s : State} {a : Access} (hu : s.urgentDue = false) (hj : s.joinsHost a = true)
    (hc : decodeReg a.addr ≠ some .cmdIssue) (hf : s.accessFails a = none) :
    s.beforeHost a = { s with moment := { s.moment with sources := .host :: s.moment.sources } } := by
  have hw : a.write = true := by
    simp [State.joinsHost, State.requestsAtOnce] at hj; exact hj.1.1.1.2.1
  simp [State.beforeHost, State.meetMoment, Access.readsSlotData, Access.readsCounter, hu, hj, hc, hf, hw]

/-- A service that is what is due is served. -/
theorem serviceRow_due {s : State} {d : Due} (h : s.nextDue = some d) : s.serviceRow d = s.serveDue d := by
  simp [State.serviceRow, h]

/-- A grant end with nothing due opens a moment of its own. -/
theorem joinMoment_calm {s : State} (h : calm s) (src : Source) :
    s.joinMoment src = { s with moment := ⟨[], [], s.opening src, false⟩ } := by
  obtain ⟨_, _, h3, h4⟩ := calm_facts h
  simp [State.joinMoment, h.1, State.openMoment, h3, h4]

/-- The three ways an occurrence comes about: with nothing due at a new moment; at the present moment, which takes it; and
otherwise at a new one, with the present one served to its end. -/
theorem joinMoment_cases (s : State) (src : Source) :
    (s.nextDue = none ∧ s.joinMoment src = s.openMoment (s.opening src)) ∨
      (s.nextDue ≠ none ∧ s.urgentDue = false ∧ s.moment.takes src = true ∧ s.barsEdge src = false ∧
        s.joinMoment src = { s with moment := { s.moment with sources := src :: s.moment.sources } }) ∨
      (s.nextDue ≠ none ∧ (s.urgentDue = true ∨ s.moment.takes src = false ∨ s.barsEdge src = true) ∧
        s.joinMoment src = s.settle.openMoment (s.settle.opening src)) := by
  cases h : s.nextDue <;> cases hu : s.urgentDue <;> cases ht : s.moment.takes src <;> cases hb : s.barsEdge src <;>
    simp [State.joinMoment, h, hu, ht, hb]

/-- A closed moment takes no occurrence. -/
theorem takes_closed (m : Moment) (src : Source) (h : m.sources = []) : m.takes src = false := by
  simp [Moment.takes, h]

/-- No two grants end at one moment (R24): a moment at which one has ended takes no other's end. -/
theorem takes_one_grantEnd (m : Moment) (o src : Source) (h : o ∈ m.sources) (ho : o.isGrantEnd = true)
    (hs : src.isGrantEnd = true) : m.takes src = false := by
  have hb : m.sources.any Source.barsGrantEnd = true :=
    List.any_eq_true.mpr ⟨o, h, by cases o <;> simp_all [Source.isGrantEnd, Source.barsGrantEnd]⟩
  simp [Moment.takes, hs, hb]

/-- A moment whose service has begun is closed. -/
theorem popped_closed (m : Moment) (h : m.asked ≠ [] ∨ m.caused ≠ []) : m.popped.sources = [] := by
  unfold Moment.popped
  split
  · rfl
  · rfl
  · simp_all

/-- Hearing what an occurrence told changes only the moment's note of it. -/
theorem heard_eq (s t : State) :
    s.heard t = { t with moment := { t.moment with told := s.tells t || t.moment.told } } := by
  unfold State.heard; split <;> rename_i h <;> simp [h]

/-- The command row of the head command whose dispatch is due. -/
theorem commandRow_due {s : State} {e : CmdEntry} {code : BitVec 8} (h : commandDue s e code) (mine : BitVec 8 → Bool)
    (hm : mine code = true) : s.commandRow mine = s.serveDue (.req .command) := by
  obtain ⟨h1, h2, h3, h4⟩ := h
  have hd : s.cmd.haltDeferred = false := by
    simp [State.dispatchable] at h2; exact h2.1.1.2
  have hh : s.headIs mine = true := by
    unfold State.headIs
    cases hq : s.cmd.queue with
    | nil => simp [hq] at h3
    | cons x xs => simp [hq] at h3; subst h3; simp [hd, h4, hm]
  simp [State.commandRow, hh, serviceRow_due h1]

/-! ## Transactions and responses -/

theorem accessFails_moment (s : State) (m : Moment) (a : Access) :
    State.accessFails { s with moment := m } a = s.accessFails a := rfl

theorem transact_write {s : State} {a : Access} {r : Reg} (hf : s.accessFails a = none) (hd : decodeReg a.addr = some r)
    (hw : a.write = true) : s.transact a = s.accepted.writeReg r a.data := by
  simp [State.transact, hf, hd, hw]

theorem transact_read {s : State} {a : Access} {r : Reg} (hf : s.accessFails a = none) (hd : decodeReg a.addr = some r)
    (hw : a.write = false) : s.transact a = s.accepted.readReg r := by
  simp [State.transact, hf, hd, hw]

theorem transact_refused {s : State} {a : Access} {x : Reason} (hf : s.accessFails a = some x) :
    s.transact a = s.accepted.respondErr x a := by
  simp [State.transact, hf]

/-- Response OK changes the port and the supervisor's count, and nothing else. -/
theorem respondOk_eq (s : State) (x : Option Word) :
    s.respondOk x =
      { s with
        port := { s.port with waiting := none, stallCount := 0, resp := .ok, rdata := x }
        sup := counted s.sup } := by
  by_cases h : s.sup.st = .armed <;>
    simp [State.respondOk, State.endTransaction, State.countTransaction, counted, Config.windowSize, h]

/-- Response ERR: the port with its record, the supervisor's count, and HOST_ERROR. -/
theorem respondErr_eq (s : State) (x : Reason) (a : Access) :
    s.respondErr x a =
      State.raise
        { s with
          port := { s.port with
            waiting := none, stallCount := 0, resp := .err, rdata := if a.write then none else some 0
            err := s.port.err.latch x a }
          sup := counted s.sup }
        ⟨.hostError, some 6, 4, none, s.tb.count, hostErrorDetail x a⟩ := by
  by_cases h : s.sup.st = .armed <;>
    simp [State.respondErr, State.endTransaction, State.countTransaction, counted, Config.windowSize, State.event,
      hostGroup, h]

/-- Response ABORTED changes the port and the supervisor's count, and nothing else. -/
theorem respondAborted_eq (s : State) (a : Access) :
    s.respondAborted a =
      { s with
        port := { s.port with
          waiting := none, stallCount := 0, resp := .aborted, rdata := if a.write then none else some 0 }
        sup := counted s.sup } := by
  by_cases h : s.sup.st = .armed <;>
    simp [State.respondAborted, State.endTransaction, State.countTransaction, counted, Config.windowSize, h]

/-! ## What raising an event depends on -/

theorem frame_mk {fs : List Field} {s t : State} (h : ∀ f, f ∉ fs → sameField f s t) : unchangedBut fs s t := h

/-- An event changes the log and the flags, and nothing else. -/
theorem raise_eq (s : State) (e : Event) :
    s.raise e = { s with log := (s.raise e).log, irq := (s.raise e).irq } := by
  cases hg : e.group with
  | none =>
    by_cases hc : s.closingDue = true <;> by_cases hk : e.kind = .commandDone <;>
      simp [State.raise, State.flag, State.offer, State.append, hg, hc, hk]
  | some g =>
    have h : ∀ q, State.closingDue { s with irq := q } = s.closingDue := fun _ => rfl
    by_cases hc : s.closingDue = true <;> by_cases hk : e.kind = .commandDone <;>
      by_cases he : s.log.enable.getLsbD g.val = true <;>
      by_cases hu : State.logUse { s with irq := s.irq.setFlag g } < Config.logEntries <;>
      simp [-BitVec.getLsbD_eq_getElem, State.raise, State.flag, State.offer, State.append, State.lose, hg, h, hc, hk,
        he, hu]

/-- What an event does to the log and the flags depends on the log, the flags, the queue and the supervisor alone. -/
theorem raise_congr {s t : State} (e : Event) (hl : t.log = s.log) (hi : t.irq = s.irq) (hc : t.cmd = s.cmd)
    (hs : t.sup = s.sup) : (t.raise e).log = (s.raise e).log ∧ (t.raise e).irq = (s.raise e).irq := by
  have hd : t.closingDue = s.closingDue := by simp [State.closingDue, hs]
  cases hg : e.group with
  | none =>
    by_cases hx : s.closingDue = true <;> by_cases hk : e.kind = .commandDone <;>
      simp [State.raise, State.flag, State.offer, State.append, hg, hx, hd, hk, hl, hi]
  | some g =>
    have h1 : ∀ q, State.closingDue { s with irq := q } = s.closingDue := fun _ => rfl
    have h2 : ∀ q, State.closingDue { t with irq := q } = s.closingDue := fun _ => hd
    have u1 : ∀ q, State.logUse { s with irq := q } = s.logUse := fun _ => rfl
    have u2 : ∀ q, State.logUse { t with irq := q } = s.logUse := fun _ => by
      simp [State.logUse, State.reserved, hl, hc]
    by_cases hx : s.closingDue = true <;> by_cases hk : e.kind = .commandDone <;>
      by_cases he : s.log.enable.getLsbD g.val = true <;> by_cases hv : s.logUse < Config.logEntries <;>
      simp only [State.raise, State.flag, State.offer, hg, h1, h2, u1, u2, hx, hk] <;>
      simp [-BitVec.getLsbD_eq_getElem, State.append, State.lose, he, hv, hl, hi]

/-- One event alone. -/
theorem raises_one (s r : State) (e : Event) :
    raises [e] s r ↔
      r.log = (State.raise { s with cmd := r.cmd, sup := r.sup } e).log ∧
        r.irq = (State.raise { s with cmd := r.cmd, sup := r.sup } e).irq := Iff.rfl

end Sys2Proof.Laws
end

