-- ==== Sys2Proof/Laws/Standing.lean ====
section
/-! SUPPORT. Each shared operation leaves the standing part of the state as it was (`Safety.standing`): one lemma for each
operation, so that a statement about the memory, the lock, the configuration or the in-service stack never unfolds it. -/

namespace Sys2Proof.Laws

open Sys2Proof.Machine Sys2Proof.Safety

/-! ## Vectors and lanes -/

theorem lanes_set (v : Vector Lane 4) (n : LaneId) (l : Lane) (h : laneStanding l = laneStanding (v.get n)) :
    (v.set n.val l n.isLt).map laneStanding = v.map laneStanding := by
  have h' : laneStanding l = (v.map laneStanding)[n.val] := by simpa [Vector.get] using h
  rw [Vector.map_set, h', Vector.set_getElem_self]

theorem setLane_standing (s : State) (n : LaneId) (l : Lane) (h : laneStanding l = laneStanding (s.lane n)) :
    standing (s.setLane n l) = standing s := by
  simp only [standing, State.setLane, lanes_set s.lanes n l h]

/-- An update of a lane keeps its standing part. -/
structure KeepsStanding (f : Lane → Lane) : Prop where
  keeps : ∀ l, laneStanding (f l) = laneStanding l

theorem keepsStanding_iff (f : Lane → Lane) : KeepsStanding f ↔ ∀ l, laneStanding (f l) = laneStanding l :=
  ⟨fun h => h.keeps, fun h => ⟨h⟩⟩

@[simp] theorem updLane_standing (s : State) (n : LaneId) (f : Lane → Lane) (h : KeepsStanding f) :
    standing (s.updLane n f) = standing s := setLane_standing s n _ (h.keeps _)

@[simp] theorem setSlot_standing (s : State) (i : SlotId) (r : Slot) : standing (s.setSlot i r) = standing s := rfl

@[simp] theorem updSlot_standing (s : State) (i : SlotId) (f : Slot → Slot) : standing (s.updSlot i f) = standing s := rfl

@[simp] theorem hostFree_standing (s : State) (l : List SlotId) : standing { s with hostFree := l } = standing s := rfl

@[simp] theorem moment_standing (s : State) (m : Moment) : standing { s with moment := m } = standing s := rfl

@[simp] theorem count_standing (s : State) (n : LaneId) (f : Counters → Counters) :
    standing (s.count n f) = standing s := by simp [State.count, keepsStanding_iff, laneStanding]

/-! ## The moment, the log, the responses -/

@[simp] theorem ask_standing (s : State) (r : Req) : standing (s.ask r) = standing s := by
  unfold State.ask; split <;> rfl

@[simp] theorem cause_standing (s : State) (r : Req) : standing (s.cause r) = standing s := by
  unfold State.cause; split <;> rfl

@[simp] theorem withdraw_standing (s : State) (r : Req) : standing (s.withdraw r) = standing s := rfl

@[simp] theorem append_standing (s : State) (e : Event) : standing (s.append e) = standing s := rfl

@[simp] theorem lose_standing (s : State) : standing s.lose = standing s := rfl

@[simp] theorem offer_standing (s : State) (e : Event) : standing (s.offer e) = standing s := by
  unfold State.offer; repeat' split
  all_goals simp

@[simp] theorem flag_standing (s : State) (e : Event) : standing (s.flag e) = standing s := by
  unfold State.flag; split <;> rfl

@[simp] theorem raise_standing (s : State) (e : Event) : standing (s.raise e) = standing s := by
  simp only [State.raise]; split
  · exact (show _ = standing (s.flag e) from rfl).trans (flag_standing s e)
  · simp

@[simp] theorem raiseLane_standing (s : State) (n : LaneId) (k : Kind) (i : Option SlotId) (d : Word) :
    standing (s.raiseLane n k i d) = standing s := raise_standing _ _

@[simp] theorem raiseSup_standing (s : State) (k : Kind) (d : Word) : standing (s.raiseSup k d) = standing s :=
  raise_standing _ _

@[simp] theorem offerHeld_standing (s : State) (e : Event) : standing (s.offerHeld e) = standing s :=
  (offer_standing _ e).trans rfl

theorem foldl_standing {α : Type} (f : State → α → State) (h : ∀ s a, standing (f s a) = standing s) (as : List α) :
    ∀ s, standing (as.foldl f s) = standing s := by
  induction as with
  | nil => exact fun s => rfl
  | cons a as ih => exact fun s => (ih (f s a)).trans (h s a)

@[simp] theorem closeWindow_standing (s : State) : standing s.closeWindow = standing s := by
  simp only [State.closeWindow]
  rw [foldl_standing _ offerHeld_standing, raise_standing]; rfl

@[simp] theorem countTransaction_standing (s : State) : standing s.countTransaction = standing s := by
  unfold State.countTransaction; split <;> rfl

@[simp] theorem endTransaction_standing (s : State) (r : Resp) (d : Option Word) :
    standing (s.endTransaction r d) = standing s := rfl

@[simp] theorem respondOk_standing (s : State) (d : Option Word) : standing (s.respondOk d) = standing s := by
  simp [State.respondOk]

@[simp] theorem respondErr_standing (s : State) (r : Reason) (a : Access) : standing (s.respondErr r a) = standing s := by
  simp only [State.respondErr, raise_standing]
  exact (show _ = standing (State.countTransaction _) from rfl).trans (by simp)

@[simp] theorem respondAborted_standing (s : State) (a : Access) : standing (s.respondAborted a) = standing s := by
  simp [State.respondAborted]

/-! ## Lanes and slots -/

@[simp] theorem enterStopped_standing (s : State) (n : LaneId) : standing (s.enterStopped n) = standing s := by
  simp [State.enterStopped, keepsStanding_iff, laneStanding, Lane.stoppedLane]

@[simp] theorem stopAtBoundary_standing (s : State) (n : LaneId) : standing (s.stopAtBoundary n) = standing s := by
  simp [State.stopAtBoundary]

@[simp] theorem joinFree_standing (s : State) (i : SlotId) : standing (s.joinFree i) = standing s := by
  simp only [State.joinFree]; split
  · rfl
  · rfl
  · simp [keepsStanding_iff, laneStanding]

@[simp] theorem returnSlot_standing (s : State) (i : SlotId) : standing (s.returnSlot i) = standing s := by
  unfold State.returnSlot; split <;> simp

@[simp] theorem returnAll_standing (s : State) (is : List SlotId) : standing (s.returnAll is) = standing s :=
  foldl_standing _ returnSlot_standing is s

@[simp] theorem wake_standing (s : State) (n : LaneId) : standing (s.wake n) = standing s := by
  unfold State.wake; split <;> simp

@[simp] theorem tellOwners_standing (s : State) (is : List SlotId) : standing (s.tellOwners is) = standing s := by
  unfold State.tellOwners
  exact foldl_standing _ (fun s n => by split <;> simp) _ s

@[simp] theorem causeTake_standing (s : State) (n : LaneId) : standing (s.causeTake n) = standing s := by
  simp [State.causeTake, keepsStanding_iff, laneStanding]

@[simp] theorem nudge_standing (s : State) (n : LaneId) : standing (s.nudge n) = standing s := by
  simp only [State.nudge]; split <;> simp

@[simp] theorem nudgeAll_standing (s : State) : standing s.nudgeAll = standing s := foldl_standing _ nudge_standing _ s

/-! ## The Arbiter -/

@[simp] theorem makeGrant_standing (s : State) (g : Grant) : standing (s.makeGrant g) = standing s := by
  rcases g with ⟨_ | _ | _ | _ | _ | _ | _ | _ | _, _, _⟩ <;> rfl

@[simp] theorem arbitrate_standing (s : State) : standing s.arbitrate = standing s := by
  unfold State.arbitrate; repeat' split
  all_goals simp

/-! ## Marks and ECC reports -/

@[simp] theorem unlinger_standing (s : State) (i : SlotId) : standing (s.unlinger i) = standing s := by
  unfold State.unlinger
  refine foldl_standing _ (fun s n => ?_) _ s
  split <;> simp [keepsStanding_iff, laneStanding]

@[simp] theorem unlistFree_standing (s : State) (i : SlotId) : standing (s.unlistFree i) = standing s := by
  unfold State.unlistFree; split <;> simp [keepsStanding_iff, laneStanding]

@[simp] theorem quarantineMarked_standing (s : State) (i : SlotId) : standing (s.quarantineMarked i) = standing s := by
  unfold State.quarantineMarked; split <;> simp

@[simp] theorem mark_standing (s : State) (xs ys : List Nat) : standing (s.mark xs ys) = standing s := by
  simp only [State.mark]
  rw [foldl_standing _ quarantineMarked_standing, foldl_standing _ (fun s i => updSlot_standing s i _),
    foldl_standing _ (fun s i => updSlot_standing s i _)]

@[simp] theorem reportCorrected_standing (s : State) (r : Reader) (rs : List WordRead) :
    standing (s.reportCorrected r rs) = standing s := by
  unfold State.reportCorrected; split
  · rfl
  · split
    · rw [raise_standing]; rfl
    · rfl

@[simp] theorem reportUncorrectable_standing (s : State) (r : Reader) (rs : List WordRead) :
    standing (s.reportUncorrectable r rs) = standing s := by
  unfold State.reportUncorrectable; split <;> simp

@[simp] theorem eccReport_standing (s : State) (r : Reader) (rs : List WordRead) :
    standing (s.eccReport r rs) = standing s := by
  simp only [State.eccReport, reportUncorrectable_standing, reportCorrected_standing, mark_standing]; rfl

@[simp] theorem scrubRaise_standing (s : State) : standing s.scrubRaise = standing s := by
  unfold State.scrubRaise; split <;> rfl

@[simp] theorem scrubAdvance_standing (s : State) : standing s.scrubAdvance = standing s := by
  simp only [State.scrubAdvance]; repeat' split
  all_goals first | rfl | (rw [raise_standing]; rfl)

/-! ## Ingress lanes -/

@[simp] theorem dropHead_standing (s : State) (n : LaneId) : standing (s.dropHead n) = standing s := by
  simp [State.dropHead, keepsStanding_iff, laneStanding]

@[simp] theorem updHead_standing (s : State) (n : LaneId) (f : FifoEntry → FifoEntry) :
    standing (s.updHead n f) = standing s := by simp [State.updHead, keepsStanding_iff, laneStanding]

@[simp] theorem loseWordsOf_standing (s : State) (n : LaneId) (i : SlotId) :
    standing (s.loseWordsOf n i) = standing s := by
  simp only [State.loseWordsOf]; split <;> simp

@[simp] theorem actLoss_standing (s : State) (n : LaneId) : standing (s.actLoss n) = standing s := by
  simp only [State.actLoss]; repeat' split
  all_goals simp

@[simp] theorem request_standing (s : State) (v : Voice) (r : Req) : standing (s.request v r) = standing s := by
  cases v <;> simp [State.request]

@[simp] theorem beginFrame_standing (s : State) (v : Voice) (n : LaneId) (e : FifoEntry) :
    standing (s.beginFrame v n e) = standing s := by simp [State.beginFrame, keepsStanding_iff, laneStanding]

@[simp] theorem stray_standing (s : State) (n : LaneId) (e : FifoEntry) : standing (s.stray n e) = standing s := by
  simp only [State.stray]; split <;> simp [keepsStanding_iff, laneStanding]

@[simp] theorem cutFrame_standing (s : State) (v : Voice) (n : LaneId) (i : SlotId) :
    standing (s.cutFrame v n i) = standing s := by simp [State.cutFrame]

theorem handleHead_standing (s t : State) (v : Voice) (n : LaneId) (h : s.handleHead v n = some t) :
    standing t = standing s := by
  simp only [State.handleHead] at h
  repeat' split at h
  all_goals
    first
      | exact absurd h (by simp only [reduceCtorEq, not_false_eq_true])
      | (obtain rfl := Option.some.inj h; simp [keepsStanding_iff, laneStanding])

@[simp] theorem frameLogicFor_standing (k : Nat) : ∀ (v : Voice) (n : LaneId) (s : State),
    standing (State.frameLogicFor k v n s) = standing s := by
  induction k with
  | zero => exact fun _ _ _ => rfl
  | succ k ih =>
    intro v n s
    unfold State.frameLogicFor
    split
    · rfl
    · rename_i t h
      exact (ih v n t).trans (handleHead_standing s t v n h)

@[simp] theorem frameLogic_standing (s : State) (v : Voice) (n : LaneId) : standing (s.frameLogic v n) = standing s :=
  frameLogicFor_standing _ _ _ _

@[simp] theorem arrive_standing (s : State) (n : LaneId) (d : Word) (sof eof : Bool) :
    standing (s.arrive n d sof eof) = standing s := by
  simp only [State.arrive]; repeat' split
  all_goals simp [keepsStanding_iff, laneStanding, Lane.accept]

@[simp] theorem raisePublished_standing (s : State) (n : LaneId) (i : SlotId) :
    standing (s.raisePublished n i) = standing s := by
  simp only [State.raisePublished]; repeat' split
  all_goals simp

@[simp] theorem servePublish_standing (s : State) (n : LaneId) : standing (s.servePublish n) = standing s := by
  simp only [State.servePublish]; repeat' split
  all_goals simp [keepsStanding_iff, laneStanding]

@[simp] theorem startReceiving_standing (s : State) (n : LaneId) (i : SlotId) :
    standing (s.startReceiving n i) = standing s := by simp [State.startReceiving, keepsStanding_iff, laneStanding]

@[simp] theorem dropFrame_standing (s : State) (n : LaneId) (i : Option SlotId) (k : Nat) :
    standing (s.dropFrame n i k) = standing s := by simp [State.dropFrame]

@[simp] theorem serveAllocate_standing (s : State) (n : LaneId) : standing (s.serveAllocate n) = standing s := by
  simp only [State.serveAllocate]; repeat' split
  all_goals simp [keepsStanding_iff, laneStanding]

@[simp] theorem takeWritten_standing (s : State) (n : LaneId) (i : SlotId) (k : Nat) :
    standing (s.takeWritten n i k) = standing s := by
  simp only [State.takeWritten]; split <;> simp [keepsStanding_iff, laneStanding]

/-! ## Egress lanes -/

@[simp] theorem startSending_standing (s : State) (n : LaneId) (i : SlotId) :
    standing (s.startSending n i) = standing s := by simp [State.startSending, keepsStanding_iff, laneStanding]

@[simp] theorem serveTake_standing (s : State) (n : LaneId) : standing (s.serveTake n) = standing s := by
  simp only [State.serveTake]; repeat' split
  all_goals simp [keepsStanding_iff, laneStanding]

@[simp] theorem endEgressFrame_standing (s : State) (n : LaneId) : standing (s.endEgressFrame n) = standing s := by
  unfold State.endEgressFrame; split <;> simp [keepsStanding_iff, laneStanding]

@[simp] theorem endFill_standing (s : State) (n : LaneId) : standing (s.endFill n) = standing s := by
  simp only [State.endFill]; split <;> simp

@[simp] theorem send_standing (s : State) (n : LaneId) : standing (s.send n) = standing s := by
  simp only [State.send]; repeat' split
  all_goals simp [keepsStanding_iff, laneStanding, Lane.sentWord]

@[simp] theorem dispose_standing (s : State) (n : LaneId) (i : SlotId) : standing (s.dispose n i).1 = standing s := by
  simp only [State.dispose]; split <;> simp [keepsStanding_iff, laneStanding]

@[simp] theorem serveReturn_standing (s : State) (n : LaneId) : standing (s.serveReturn n) = standing s := by
  simp only [State.serveReturn]; repeat' split
  all_goals simp

@[simp] theorem missTrigger_standing (s : State) (n : LaneId) : standing (s.missTrigger n) = standing s := by
  simp [State.missTrigger]

@[simp] theorem sampleTrigger_standing (s : State) (n : LaneId) (b : Bool) :
    standing (s.sampleTrigger n b) = standing s := by
  simp only [State.sampleTrigger]; repeat' split
  all_goals simp [keepsStanding_iff, laneStanding]

/-! ## Commands -/

@[simp] theorem queue_standing (s : State) (q : List CmdEntry) :
    standing { s with cmd := { s.cmd with queue := q } } = standing s := rfl

@[simp] theorem haltDeferred_standing (s : State) (b : Bool) :
    standing { s with cmd := { s.cmd with haltDeferred := b } } = standing s := rfl

@[simp] theorem eng_standing (s : State) (e : Engine) : standing { s with eng := e } = standing s := rfl

@[simp] theorem recordDone_standing (s : State) (e : CmdEntry) (res : Result) (v : Nat) (i : Option SlotId) :
    standing (s.recordDone e res v i) = standing s := by simp [State.recordDone]

@[simp] theorem askDispatch_standing (s : State) : standing s.askDispatch = standing s := by
  unfold State.askDispatch; split <;> simp

@[simp] theorem causeDispatch_standing (s : State) : standing s.causeDispatch = standing s := by
  unfold State.causeDispatch; split <;> simp

@[simp] theorem slotAssign_standing (s : State) (e : CmdEntry) : standing (s.slotAssign e) = standing s := by
  simp only [State.slotAssign]; repeat' split
  all_goals simp

@[simp] theorem slotUnassign_standing (s : State) (e : CmdEntry) : standing (s.slotUnassign e) = standing s := by
  simp only [State.slotUnassign]; repeat' split
  all_goals simp

@[simp] theorem claim_standing (s : State) (e : CmdEntry) : standing (s.claim e) = standing s := by
  simp only [State.claim]; repeat' split
  all_goals simp [keepsStanding_iff, laneStanding]

@[simp] theorem alloc_standing (s : State) (e : CmdEntry) : standing (s.alloc e) = standing s := by
  simp only [State.alloc]; repeat' split
  all_goals simp

@[simp] theorem release_standing (s : State) (e : CmdEntry) : standing (s.release e) = standing s := by
  simp only [State.release]; repeat' split
  all_goals simp

@[simp] theorem submit_standing (s : State) (e : CmdEntry) : standing (s.submit e) = standing s := by
  simp only [State.submit]; repeat' split
  all_goals simp [keepsStanding_iff, laneStanding]

@[simp] theorem laneStart_standing (s : State) (e : CmdEntry) : standing (s.laneStart e) = standing s := by
  simp only [State.laneStart]; repeat' split
  all_goals simp [keepsStanding_iff, laneStanding, Lane.started]

@[simp] theorem stopLane_standing (s : State) (n : LaneId) : standing (s.stopLane n) = standing s := by
  simp only [State.stopLane]; repeat' split
  all_goals simp [keepsStanding_iff, laneStanding]

@[simp] theorem laneStop_standing (s : State) (e : CmdEntry) : standing (s.laneStop e) = standing s := by
  simp only [State.laneStop]; repeat' split
  all_goals simp

@[simp] theorem haltLane_standing (s : State) (n : LaneId) : standing (s.haltLane n) = standing s := by
  simp only [State.haltLane]; repeat' split
  all_goals simp [keepsStanding_iff, laneStanding]

@[simp] theorem laneHalt_standing (s : State) (e : CmdEntry) : standing (s.laneHalt e) = standing s := by
  simp only [State.laneHalt]; repeat' split
  all_goals simp

@[simp] theorem laneFlush_standing (s : State) (e : CmdEntry) : standing (s.laneFlush e) = standing s := by
  simp only [State.laneFlush]; repeat' split
  · simp
  · simp
  · rw [tellOwners_standing, returnAll_standing, updLane_standing, recordDone_standing]
    refine ⟨fun l => ?_⟩; unfold Lane.emptied; split <;> rfl

@[simp] theorem bindLane_standing (s : State) (e : CmdEntry) : standing (s.bindLane e) = standing s := by
  simp only [State.bindLane]; repeat' split
  all_goals simp [keepsStanding_iff, laneStanding]

@[simp] theorem startLong_standing (s : State) (c : LongCmd) (d : Bool) (p : Phase) (r : Option RunningStats) :
    standing (s.startLong c d p r) = standing s := rfl

@[simp] theorem endLong_standing (s : State) (res : Result) (v : Nat) : standing (s.endLong res v) = standing s := by
  unfold State.endLong; split <;> simp

@[simp] theorem copy_standing (s : State) (e : CmdEntry) : standing (s.copy e) = standing s := by
  simp only [State.copy]; split <;> simp

@[simp] theorem fill_standing (s : State) (e : CmdEntry) : standing (s.fill e) = standing s := by
  simp only [State.fill]; split <;> simp

@[simp] theorem measure_standing (s : State) (e : CmdEntry) : standing (s.measure e) = standing s := by
  simp only [State.measure]; repeat' split
  all_goals simp

@[simp] theorem sync_standing (s : State) (e : CmdEntry) : standing (s.sync e) = standing s := by simp [State.sync]

@[simp] theorem afterBurst_standing (s : State) (k : Nat) (p : Phase) : standing (s.afterBurst k p) = standing s := by
  unfold State.afterBurst; repeat' split
  all_goals simp

@[simp] theorem abortEngine_standing (s : State) : standing s.abortEngine = standing s := by
  unfold State.abortEngine; repeat' split
  all_goals simp

@[simp] theorem runCommand_standing (s : State) (e : CmdEntry) : standing (s.runCommand e) = standing s := by
  unfold State.runCommand; split <;> simp

@[simp] theorem serveCommand_standing (s : State) : standing s.serveCommand = standing s := by
  unfold State.serveCommand; repeat' split
  all_goals simp

/-! ## The Host Window -/

@[simp] theorem setStage_standing (s : State) (st : ReadStage) : standing (s.setStage st) = standing s := rfl

@[simp] theorem startWait_standing (s : State) (w : Wait) : standing (s.startWait w) = standing s := rfl

@[simp] theorem buffer_standing (s : State) (b : List (Nat × Word)) :
    standing { s with win := { s.win with buffer := b } } = standing s := rfl

@[simp] theorem advance_standing (s : State) (p : Ptr) : standing (s.advance p) = standing s := by cases p <;> rfl

@[simp] theorem post_standing (s : State) (p : Ptr) (d : Word) : standing (s.post p d) = standing s := by
  simp only [State.post]; split <;> simp

@[simp] theorem windowWrite_standing (s : State) (p : Ptr) (d : Word) : standing (s.windowWrite p d) = standing s := by
  unfold State.windowWrite; split <;> simp

@[simp] theorem issue_standing (s : State) (p : Ptr) : standing (s.issue p) = standing s := by
  unfold State.issue; split <;> simp

@[simp] theorem windowRead_standing (s : State) (p : Ptr) : standing (s.windowRead p) = standing s := by
  simp only [State.windowRead]; split <;> simp

@[simp] theorem withdrawWait_standing (s : State) : standing s.withdrawWait = standing s := by
  unfold State.withdrawWait; split <;> simp

@[simp] theorem written_standing (s : State) (k : Nat) : standing (s.written k) = standing s := by
  simp only [State.written]; repeat' split
  all_goals simp

@[simp] theorem readResult_standing (s : State) (p : Ptr) (r : WordRead) : standing (s.readResult p r) = standing s := by
  simp only [State.readResult]; split <;> simp

/-! ## The supervisor, the snapshot and the service -/

@[simp] theorem restartSup_standing (s : State) : standing s.restartSup = standing s := rfl

@[simp] theorem safeMode_standing (s : State) (b : Bool) :
    standing { s with sup := { s.sup with safeMode := b } } = standing s := rfl

@[simp] theorem beginSafe_standing (s : State) : standing s.beginSafe = standing s := by
  unfold State.beginSafe; split <;> simp

@[simp] theorem endSafe_standing (s : State) : standing s.endSafe = standing s := by
  unfold State.endSafe; split <;> simp

@[simp] theorem serveSupWarning_standing (s : State) : standing s.serveSupWarning = standing s := by
  simp [State.serveSupWarning]

@[simp] theorem supDue_standing (s : State) (b : Bool) :
    standing { s with rst := { s.rst with supDue := b } } = standing s := rfl

@[simp] theorem serveSupExpired_standing (s : State) : standing s.serveSupExpired = standing s := by
  simp only [State.serveSupExpired]; split <;> simp

@[simp] theorem slotDataOk_standing (s : State) : standing s.slotDataOk = standing s := by
  simp only [State.slotDataOk, respondOk_standing]; rfl

@[simp] theorem serveSnapshot_standing (s : State) : standing s.serveSnapshot = standing s := by
  simp only [State.serveSnapshot]; split
  · rw [slotDataOk_standing]; rfl
  all_goals rfl

@[simp] theorem perform_standing (s : State) (r : Req) : standing (s.perform r) = standing s := by
  cases r <;> simp [State.perform]

/-- A service that is no reset leaves the standing part of the state unchanged. -/
theorem serveDue_standing (s : State) (d : Due) (h : d ≠ .reset) : standing (s.serveDue d) = standing s := by
  cases d with
  | windowClosed => simp [State.serveDue]
  | reset => exact absurd rfl h
  | req r => simp [State.serveDue]

end Sys2Proof.Laws
end

