-- ==== Sys2Proof/Laws/Values.lean ====
section
/-! SUPPORT. Words put together from their fields, and the frame logic's run over the FIFO. -/

namespace Sys2Proof.Laws

open Sys2Proof Sys2Proof.Machine Sys2Proof.Safety

/-! ## Packed words -/

@[simp] theorem packed_nil : packed [] = 0 := rfl

@[simp] theorem packed_cons (v k : Nat) (fs : List (Nat × Nat)) : packed ((v, k) :: fs) = v * 2 ^ k + packed fs := by
  simp [packed]

/-- A number placed at a bit, where it fits. -/
theorem placed_toNat (v k : Nat) (h : v * 2 ^ k < 2 ^ 32) : (placed v k).toNat = v * 2 ^ k := by
  rw [placed, BitVec.toNat_ofNat, Nat.shiftLeft_eq, Nat.mod_eq_of_lt h]

/-- A field placed above everything that a word holds adds to it. -/
theorem or_placed_toNat (w : Word) (v k : Nat) (hw : w.toNat < 2 ^ k) (h : v * 2 ^ k < 2 ^ 32) :
    (w ||| placed v k).toNat = w.toNat + v * 2 ^ k := by
  rw [BitVec.toNat_or, placed_toNat v k h, Nat.or_comm, ← Nat.shiftLeft_eq, ← Nat.shiftLeft_add_eq_or_of_lt hw]
  omega

/-! ## The frame logic -/

/-- With nothing to handle at the head, the frame logic leaves the state. -/
theorem frameLogicFor_none {s : State} {v : Voice} {n : LaneId} (h : s.handleHead v n = none) :
    ∀ k, State.frameLogicFor k v n s = s
  | 0 => rfl
  | k + 1 => by simp [State.frameLogicFor, h]

/-- Once enough rounds have left nothing to handle, more rounds change nothing. -/
theorem frameLogicFor_more {v : Voice} {n : LaneId} : ∀ (k : Nat) (s : State),
    (State.frameLogicFor k v n s).handleHead v n = none →
      ∀ j, State.frameLogicFor (k + j) v n s = State.frameLogicFor k v n s
  | 0, s, h, j => by simpa [State.frameLogicFor] using frameLogicFor_none (k := 0 + j) h
  | k + 1, s, h, j => by
    rw [Nat.succ_add]
    cases hs : s.handleHead v n with
    | none => simp [State.frameLogicFor, hs]
    | some t =>
      simp only [State.frameLogicFor, hs] at h ⊢
      exact frameLogicFor_more k t h j

/-- What an occurrence remembers of itself is in the moment alone. -/
theorem heard_frame (s t : State) : unchangedBut [.moment] t (s.heard t) := by
  unfold State.heard
  split <;> intro f hf <;> cases f <;> simp_all [sameField]

/-- A lane's frame logic has gone on, whatever the moment remembers of it. -/
theorem goesOn_heard (v : Voice) (n : LaneId) (s t : State) : goesOn v n t (s.heard (t.frameLogic v n)) := by
  unfold State.heard
  split
  · exact ⟨true, rfl⟩
  · exact ⟨(t.frameLogic v n).moment.told, rfl⟩

/-- A lane's frame logic has gone on, with nothing remembered of it. -/
theorem goesOn_self (v : Voice) (n : LaneId) (t : State) : goesOn v n t (t.frameLogic v n) :=
  ⟨(t.frameLogic v n).moment.told, rfl⟩

end Sys2Proof.Laws
end

