-- ==== Sys2Proof/Tests/Slice0.lean ====
section
/-! SUPPORT. The tests: ill-formed terms that the check refuses, values that the manual works out, and for each obligation
states and operands that meet its hypotheses, one for each of its clauses, with what the manual says comes of them. -/

set_option Elab.async false

namespace Sys2Proof.Tests

open Sys2Proof Sys2Proof.Machine Sys2Proof.Safety

/-! ## Helpers -/

/-- The part out of reset, its init sweep over, with every log enable on. -/
def base : State :=
  { State.reset with sweep := ⟨false, 0, true⟩, log := { State.reset.log with enable := 0xFF } }

/-- The command answers a next state with the property. -/
def after (c : Instr) (s : State) (p : State → Bool) : Bool :=
  match exec c s with
  | .next t => p t
  | .fault _ | .refused _ => false

/-- The command raises exactly these events. -/
def raised (c : Instr) (s : State) (ks : List Kind) : Bool :=
  after c s fun t => (t.log.records.drop s.log.records.length).map (fun r => r.ev.kind) == ks

/-- The queue entry of a command with tag 5. -/
def entry (code : BitVec 8) (a0 a1 a2 a3 : Nat) : CmdEntry :=
  ⟨code, 5, BitVec.ofNat 32 a0, BitVec.ofNat 32 a1, BitVec.ofNat 32 a2, BitVec.ofNat 32 a3⟩

/-- The state with this command alone in the queue, and its dispatch outstanding. -/
def issued (s : State) (e : CmdEntry) : State :=
  { s with cmd := { s.cmd with queue := [e] }, moment := ⟨[.command], [], [], false⟩ }

/-- The result code and the result value of the command that has completed last. -/
def result (t : State) : Nat × Nat :=
  match t.log.records.reverse.find? fun r => r.ev.kind == .commandDone with
  | some r => (r.ev.detail.toNat / 524288 % 16, r.ev.detail.toNat % 524288)
  | none => (99, 0)

/-- The state with one request outstanding. -/
def asking (s : State) (r : Req) : State := { s with moment := ⟨[r], [], [], false⟩ }

/-- The state with a grant in progress. -/
def granting (s : State) (g : Grant) : State := { s with arb := { s.arb with grant := some g } }

/-- A lane of a direction, in a state. -/
def laneIn (dir : Dir) (st : LaneSt) : Lane :=
  { Lane.reset false with cfg := { LaneCfg.reset with dir := dir, frameEvents := true }, st := st }

/-- The 64-word slot whose region begins at 64 times its index. -/
def slotIn (st : SlotSt) (owner : Owner) (k : Nat) (length : Nat) : Slot :=
  { Slot.unassigned with st := st, owner := owner, base := 64 * k, capacity := 64, length := length }

/-- A word in an ingress FIFO. -/
def inWord (data : Word) (sof eof : Bool) : FifoEntry := ⟨data, sof, eof, false, false, false, 0⟩

/-! ## Well-formed terms -/

theorem test_refuses_a_write_with_a_row_of_its_own : (Instr.registerWrite 0x24 0).wf = false := by decide
theorem test_refuses_a_read_with_a_row_of_its_own : (Instr.registerRead 0x37).wf = false := by decide
theorem test_refuses_run_asking_for_doze : (Instr.run 1).wf = false := by decide
theorem test_refuses_doze_asking_for_run : (Instr.doze 0).wf = false := by decide
theorem test_refuses_retain_asking_for_doze : (Instr.retain 1).wf = false := by decide
theorem test_refuses_egress_flip_beyond_the_family : (Instr.egressGrantEnd [⟨262144, 1⟩]).wf = false := by decide
theorem test_refuses_window_flip_of_no_bit : (Instr.windowReadGrantEnd [⟨0, 0⟩]).wf = false := by decide
theorem test_refuses_copy_flip_of_no_bit : (Instr.copyReadGrantEnd [⟨5, 1⟩, ⟨5, 0⟩]).wf = false := by decide
theorem test_refuses_measure_flip_beyond_the_family : (Instr.measureGrantEnd [⟨262144, 3⟩]).wf = false := by decide
theorem test_refuses_scrub_flip_of_no_bit : (Instr.scrubGrantEnd [⟨8, 0⟩]).wf = false := by decide
theorem test_refuses_a_cut_beyond_a_burst : (Instr.pinReset 9).wf = false := by decide

/-- The boundary values on the other side are well formed. -/
theorem test_accepts_boundary_terms :
    [Instr.registerWrite 0xFF 0, .registerRead 0x62, .run 0x100, .doze 1, .retain 3, .egressGrantEnd [⟨262143, 1⟩],
      .pinReset 8].all Instr.wf = true := by decide

/-! ## The step -/

/-- Witness: any queue does. -/
theorem witness_StepRunsTheFrontCommand :
    step { base with pending := [.timebaseTick, .sync] } = exec .timebaseTick { base with pending := [.sync] } := rfl

/-- A state with its init sweep over, a prescaler of 2 and nothing due, in RUN; and one with a snapshot due. -/
theorem witness_IdleStepServesOrClocks :
    let s : State := { base with tb := ⟨7, 0, 2⟩ }
    calm s ∧ s.pending = [] ∧ s.power ≠ .retain ∧ s.sweep.running = false ∧ s.port.waiting = none ∧
      s.tb.prescaleCount + 1 < s.tb.prescale ∧ (asking s .snapshot).nextDue = some (.req .snapshot) := by
  simp only [calm]; decide +kernel

/-- A request that joins those asked for in its place (R57), one that is caused, and one that is outstanding already. -/
theorem witness_IdleStepServesOrClocks_order :
    let s : State := { base with moment := ⟨[.publish 1, .take 0, .snapshot], [.allocate 1], [], false⟩ }
    s.pending = [] ∧ s.rst.pinHeld = false ∧ s.closingDue = false ∧ s.resetReady = false ∧
      s.nextDue = some (.req (.publish 1)) ∧ s.outstanding (.ret 3) = false ∧ s.outstanding .command = false ∧
      s.outstanding (.allocate 1) = true ∧
      (s.ask (.ret 3)).moment.asked = [.publish 1, .ret 3, .take 0, .snapshot] ∧
      (s.ask .command).moment.asked = [.publish 1, .take 0, .command, .snapshot] ∧
      (s.cause .command).moment.caused = [.allocate 1, .command] := by decide +kernel

/-- The state after one step. -/
def stepped (s : State) (p : State → Bool) : Bool :=
  match step s with
  | .next t => p t
  | .fault _ | .refused _ => false

/-- One word of the sweep, and its last; the stall count one short of HOST_STALL_LIMIT of 1, at it, with no limit, and for a window
read that has been granted; and the tick at TB_PRESCALE (R4, R5, R25, R165). -/
theorem witness_IdleStepServesOrClocks_clock :
    let last : State := { State.reset with sweep := ⟨true, 131071, false⟩, mem := [(131071, ⟨5, 0⟩)] }
    let stall (count : Nat) (limit : BitVec 8) (stage : ReadStage) : State := { base with
      port := { base.port with waiting := some (.winRead .a), stallCount := count, stallLimit := limit }
      win := { base.win with stage := stage } }
    let ticking : State := { base with tb := ⟨0xFFFFFFFF, 1, 2⟩ }
    (∀ s ∈ [State.reset, last, stall 15 1 (.issued .a), ticking], s.pending = [] ∧ calm s) ∧
      Memory.wf last.mem = true ∧ last.sweep.next < last.memWords ∧
      stepped State.reset (fun t => t.sweep == ⟨true, 1, false⟩) = true ∧
      stepped last (fun t => t.sweep == ⟨false, 0, true⟩ && t.mem == []) = true ∧
      stepped (stall 14 1 (.issued .a)) (fun t => t.port.waiting.isSome && t.port.stallCount == 15) = true ∧
      stepped (stall 15 1 (.issued .a)) (fun t => t.port.waiting.isNone && t.port.err.reason == some .timeout) = true ∧
      stepped (stall 15 0 (.issued .a)) (fun t => t.port.waiting.isSome) = true ∧
      stepped (stall 15 1 (.granted .a)) (fun t => t.port.waiting.isSome) = true ∧
      stepped ticking (fun t => t.tb == ⟨0, 0, 2⟩) = true := by
  simp only [calm]; decide +kernel


/-- A Scrubber with its request raised. -/
def scrubAsking : State := { base with scrub := ⟨true, 3, true, 0, 0, true, 0, 0⟩ }

/-- A grant in progress; grants not allowed (the sweep runs); a decision that grants. -/
theorem witness_ArbitrationOnlyGrants :
    (granting base ⟨.scrub, 0, 8⟩).arb.grant ≠ none ∧ State.reset.grantsAllowed = false ∧
      scrubAsking.arb.grant = none ∧ scrubAsking.grantsAllowed = true ∧
      scrubAsking.arbitrate.arb.grant = some ⟨.scrub, 0, 8⟩ := by decide +kernel

/-- Each of the conditions that let grants be made, failing alone; a soft reset that waits for the write buffer lets them go on. -/
theorem witness_ArbitrationOnlyGrants_allowed :
    base.grantsAllowed = true ∧ ({ base with power := .doze } : State).grantsAllowed = true ∧
      ({ base with power := .retain } : State).grantsAllowed = false ∧
      ({ base with sweep := ⟨true, 131071, false⟩ } : State).grantsAllowed = false ∧
      ({ base with rst := { base.rst with pinHeld := true } } : State).grantsAllowed = false ∧
      ({ base with rst := { base.rst with supDue := true } } : State).grantsAllowed = false ∧
      ({ base with rst := { base.rst with softDue := true } } : State).grantsAllowed = false ∧
      ({ base with rst := { base.rst with softDue := true }, win := { base.win with buffer := [(0, 5)] } } : State).grantsAllowed =
        true := by decide +kernel

/-- Lane 1 sends slot 6, with nothing fetched yet. -/
def sender : Lane := { laneIn .egress .running with sub := .sending, cur := some 6, frameLen := 10, markLo := 24, markHi := 8 }
def sending : State := ((base.setLane 1 sender).setSlot 6 (slotIn .draining .host 6 10)).arbitrate

/-- Lanes 1 and 3 both ask, with high requests; the pointer stands at 3, so lane 1 wins (R38). With the Host Window asking and
HOST_FIRST set, it goes first. -/
theorem witness_DecisionFollowsTheClasses :
    let s : State := ((base.setLane 1 sender).setLane 3 { sender with cur := some 7 }).setSlot 6 (slotIn .draining .host 6 10)
    s.laneWinner true = some ⟨.egress 1, 384, 8⟩ ∧ s.decision = some ⟨.egress 1, 384, 8⟩ ∧
      ({ s with win := { s.win with buffer := [(0, 5)] }, arb := { s.arb with hostFirst := true } } : State).decision =
        some ⟨.winWrite, 0, 1⟩ := by decide +kernel

/-- Lane 1 wins over a Scrubber that asks: the pointer follows, and the loss count moves on; an issued window read is granted; a
granted Scrubber's loss count and request go; with no request nothing changes. -/
theorem witness_ArbitrationOnlyGrants_effects :
    let lane : State := ({ scrubAsking with arb := { base.arb with lossCount := 254, escalate := 255 } }.setLane 1 sender).setSlot 6
      (slotIn .draining .host 6 10)
    let read : State := { base with win := { base.win with stage := .issued .b } }
    let lost : State := { scrubAsking with arb := { base.arb with lossCount := 31 } }
    lane.grantsAllowed = true ∧ lane.decision = some ⟨.egress 1, 384, 8⟩ ∧
      lane.arbitrate.arb = { lane.arb with grant := some ⟨.egress 1, 384, 8⟩, pointer := 1, lossCount := 255 } ∧
      read.decision = some ⟨.winRead, 0, 1⟩ ∧ read.arbitrate.win.stage = .granted .b ∧ read.arbitrate.arb.pointer = 3 ∧
      lost.decision = some ⟨.scrub, 0, 8⟩ ∧ lost.arbitrate.arb.lossCount = 0 ∧ lost.arbitrate.scrub.request = false ∧
      base.decision = none ∧ base.grantsAllowed = true ∧ base.arbitrate = base := by decide +kernel

/-- An ingress lane at its marks, with a run that an EOF, an unacted SOF, the slot's capacity or 8 words end; an egress lane at
its marks; the window's read and write; the bursts of the engine, ascending and descending; and the Scrubber's 8 words, escalated
at the loss count. -/
theorem witness_DecisionFollowsTheClasses_requests :
    let ing (words : List FifoEntry) (length : Nat) (lo hi : Nat) : Option LaneRequest :=
      ((base.setLane 0 { laneIn .ingress .running with
        sub := .receiving, cur := some 6, fifo := words, markLo := lo, markHi := hi }).setSlot 6
        (slotIn .filling (.lane 0) 6 length)).laneRequest 0
    let w := inWord 1 false false
    let eg (level fetched : Nat) : Option LaneRequest :=
      ((base.setLane 1 { sender with fetched := fetched, fifo := List.replicate level w }).setSlot 6
        (slotIn .draining .host 6 10)).laneRequest 1
    let eng (c : LongCmd) (phase : Phase) (desc : Bool) (done : Nat) : Option Grant :=
      ({ base with eng := ⟨some c, desc, done, phase, [], none, false⟩ } : State).engineRequest
    ing [w, w] 0 2 3 = some ⟨false, ⟨.ingress 0, 384, 2⟩⟩ ∧ ing [w, w] 0 1 2 = some ⟨true, ⟨.ingress 0, 384, 2⟩⟩ ∧
      ing [w, w] 0 3 3 = none ∧ ing [w, inWord 2 false true, w] 3 8 24 = some ⟨false, ⟨.ingress 0, 387, 2⟩⟩ ∧
      ing [w, inWord 2 true false] 0 8 24 = some ⟨false, ⟨.ingress 0, 384, 1⟩⟩ ∧
      ing (List.replicate 9 w) 63 8 24 = some ⟨false, ⟨.ingress 0, 447, 1⟩⟩ ∧
      ing (List.replicate 9 w) 0 8 24 = some ⟨false, ⟨.ingress 0, 384, 8⟩⟩ ∧ ing (List.replicate 9 w) 64 8 24 = none ∧
      eg 8 0 = some ⟨true, ⟨.egress 1, 384, 8⟩⟩ ∧ eg 9 9 = some ⟨false, ⟨.egress 1, 393, 1⟩⟩ ∧ eg 25 0 = none ∧ eg 0 10 = none ∧
      ({ base with win := { base.win with buffer := [(7, 1), (8, 2), (10, 3)] } } : State).windowRequest =
        some ⟨.winWrite, 7, 2⟩ ∧
      eng (.copy 0 200 20) .readWait true 0 = some ⟨.copyRead, 16, 4⟩ ∧
      eng (.copy 0 200 20) .writeWait true 4 = some ⟨.copyWrite, 208, 8⟩ ∧
      eng (.copy 0 200 20) .readWait false 16 = some ⟨.copyRead, 16, 4⟩ ∧
      eng (.fill 100 9 5 1) .writeWait false 8 = some ⟨.fill, 108, 1⟩ ∧ eng (.fill 100 9 5 1) .writeWait false 9 = none ∧
      scrubAsking.scrubGrant = some ⟨.scrub, 0, 8⟩ ∧
      ({ scrubAsking with arb := { base.arb with lossCount := 32 } } : State).escalated = true ∧
      ({ scrubAsking with arb := { base.arb with lossCount := 31 } } : State).escalated = false := by decide +kernel

/-! ## Invariants -/

/-- A grant end that writes: memory in its form before and after. -/
theorem witness_StepKeepsMemoryForm :
    let s : State := { base with
      mem := [(131070, ⟨1, 0⟩)], pending := [.windowWriteGrantEnd]
      win := { base.win with buffer := [(131071, 5)] }, arb := { base.arb with grant := some ⟨.winWrite, 131071, 1⟩ } }
    Memory.wf s.mem = true ∧
      (match step s with
        | .next t => t.mem == [(131070, ⟨1, 0⟩), (131071, ⟨5, 0⟩)] && Memory.wf t.mem
        | _ => false) = true := by decide +kernel

/-- Group 7 is acknowledged over group 0 in service, at the two ends of the priorities. -/
theorem witness_StepKeepsInServiceRising :
    let s : State := { base with
      pending := [.acknowledge], irq := ⟨128, 128, 0xC000, [⟨0, 0⟩]⟩ }
    (s.irq.stack.map InService.prio).Pairwise (· < ·) ∧
      (match step s with
        | .next t => t.irq.stack == [⟨0, 0⟩, ⟨7, 3⟩] && t.port.rdata == some 0x37
        | _ => false) = true := by decide +kernel

/-- A locked part takes a soft reset, and keeps its lock and its memory's initialisation. -/
theorem witness_LockAndInitializedStaySet :
    let s : State := { base with port := { base.port with lock := true }, rst := { base.rst with softDue := true } }
    s.port.lock = true ∧ s.sweep.initialized = true ∧ s.sweep.running = false ∧
      after .softReset s (fun t => t.port.lock && t.sweep.initialized && t.rst.cause == .soft) = true := by
  decide +kernel

/-- TB_PRESCALE 0 clamps to 1, and marks above 32 to 32 (R166, R41). -/
theorem witness_StepKeepsConfigRanges :
    let ok (s : State) : Bool :=
      decide (1 ≤ s.tb.prescale) && decide (s.tb.prescale ≤ 4096) && s.sup.timeout != 0 &&
        laneList.all fun n => decide ((s.lane n).markLo ≤ 32) && decide ((s.lane n).markHi ≤ 32)
    ok base = true ∧ after (.tbPrescaleWrite 0) base (fun t => t.tb.prescale == 1 && ok t) = true ∧
      after (.tbPrescaleWrite 4097) base (fun t => t.tb.prescale == 4096 && ok t) = true ∧
      after (.registerWrite 0x81 0x2820) base (fun t => (t.lane 0).markLo == 32 && (t.lane 0).markHi == 32 && ok t) = true := by
  decide +kernel

/-! ## Events -/

/-- A full log: 32 entries occupied. -/
def fullLog : EventLog := { base.log with records := List.replicate 32 (resetRecord 1 0 0), nextSeq := 255 }

/-- Logged; lost with the log full, the number wrapping from 255 to 0; and not logged with the enable off. -/
theorem witness_RaisedEventIsFlaggedAndLogged :
    let e : Event := ⟨.scrubPass, some 5, 9, none, 0, 0⟩
    base.closingDue = false ∧ e.kind ≠ .commandDone ∧ (base.raise e).log.records.length = 2 ∧
      (base.raise e).irq.flags = 32 ∧
      (({ base with log := fullLog } : State).raise e).log = { fullLog with nextSeq := 0, lost := 1, overflow := 1 } ∧
      (State.reset.raise e).log = State.reset.log := by decide +kernel

/-- A completion record, with every enable off and 31 entries occupied; and events raised while a window closes, a completion
record among them. -/
theorem witness_RaisedEventIsFlaggedAndLogged_completions :
    let e := entry 0x23 0 0 0 0
    let s : State := { base with
      log := { fullLog with records := List.replicate 31 (resetRecord 1 0 0), enable := 0 }, cmd := { base.cmd with queue := [e] } }
    let t := s.recordDone e .ok 0 none
    let shut : State := { s with sup := { s.sup with st := .armed, windowCount := 16 } }
    let u := shut.recordDone e .ok 0 none
    s.closingDue = false ∧ t.log.records.length = 32 ∧ t.reserved = 0 ∧ t.irq.flags = 16 ∧ shut.closingDue = true ∧
      u.log.records.length = 31 ∧ u.reserved = 1 ∧ u.closingDue = true ∧ u.log.heldBack.map Event.kind = [.commandDone] ∧
      u.closeWindow.log.heldBack = [] ∧
      (u.closeWindow.log.records.getLast?.map fun r => r.ev.kind) = some .commandDone := by decide +kernel

/-- A HOST_ERROR held back while a window closes: logged with room and its enable on, lost in a full log, not logged with the enable
off (R153, R154, R156). -/
theorem witness_RaisedEventIsFlaggedAndLogged_held_back :
    let held (log : EventLog) : State := { base with
      sup := { base.sup with st := .armed, windowCount := 16 }
      log := { log with heldBack := [⟨.hostError, some 6, 4, none, 0, 1⟩] } }
    (held base.log).closingDue = true ∧ (held fullLog).closingDue = true ∧ (held State.reset.log).closingDue = true ∧
      (held base.log).closeWindow.log.records.map (fun r => r.ev.kind) = [.resetRecord, .supSequenceError, .hostError] ∧
      (held fullLog).closeWindow.log = { fullLog with nextSeq := 1, lost := 2, overflow := 2 } ∧
      (held State.reset.log).closeWindow.log = State.reset.log := by decide +kernel

/-! ## Host accesses -/

/-- The part in RETAIN. -/
def retained : State := { base with power := .retain }
/-- The part with the lock set. -/
def locked : State := { base with port := { base.port with lock := true } }
/-- A lane that is RUNNING. -/
def running : State := base.setLane 3 (laneIn .ingress .running)
/-- A STOPPED ingress lane that owns a slot. -/
def owning : State :=
  (base.setLane 0 { laneIn .ingress .stopped with readyQ := [4] }).setSlot 4 (slotIn .ready (.lane 0) 4 1)
/-- An access. -/
def wr (a : BitVec 8) (d : Word) : Access := ⟨a, true, d⟩
def rd (a : BitVec 8) : Access := ⟨a, false, 0⟩

/-- Every clause at the ends of its addresses and values, with the reason that R3 and the register's chapter give. -/
theorem witness_ChecksDecideInOrder :
    (base.accessFails (rd 0x09) = some .badAddress ∧ base.accessFails (wr 0x62 0) = none ∧
        base.accessFails (rd 0x89) = some .badAddress ∧ base.accessFails (rd 0xFF) = some .badAddress ∧
        retained.accessFails (wr 0x63 0) = some .badAddress) ∧
      (retained.accessFails (rd 0x03) = some .power ∧ retained.accessFails (rd 0x46) = some .power ∧
        retained.accessFails (rd 0x00) = none ∧ retained.accessFails (wr 0x48 0) = some .readOnly) ∧
      (State.reset.accessFails (rd 0x12) = some .init ∧ State.reset.accessFails (wr 0x15 0) = some .init ∧
        State.reset.accessFails (wr 0x24 0) = some .init ∧ State.reset.accessFails (rd 0x24) = none) ∧
      (base.accessFails (wr 0x00 0) = some .readOnly ∧ base.accessFails (wr 0xB8 0) = some .readOnly) ∧
      (locked.accessFails (wr 0x07 0) = some .locked ∧ locked.accessFails (wr 0xB3 0) = some .locked ∧
        locked.accessFails (wr 0xB7 0) = none) ∧
      (base.accessFails (wr 0x38 0) = some .state ∧
        ({ base with irq := ⟨0, 0, 0, [⟨0, 0⟩]⟩ } : State).accessFails (wr 0x38 0) = none) ∧
      (base.accessFails (wr 0x06 0) = some .state ∧
        ({ base with port := { base.port with resetArm := true } } : State).accessFails (wr 0x06 0) = none) ∧
      (retained.accessFails (wr 0x47 1) = some .state ∧ retained.accessFails (wr 0x47 4) = none ∧
        running.accessFails (wr 0x47 2) = some .state) ∧
      (running.accessFails (wr 0xB0 1) = some .state ∧ running.accessFails (wr 0xA0 1) = none ∧
        running.accessFails (wr 0xB1 0) = some .state ∧ running.accessFails (wr 0xB3 0) = some .state ∧
        running.accessFails (wr 0xB7 0) = none) ∧
      (owning.accessFails (wr 0x80 2) = some .state ∧ owning.accessFails (wr 0x80 1) = none) ∧
      (base.accessFails (wr 0x10 131072) = some .badAddress ∧ base.accessFails (wr 0x13 131071) = none) ∧
      (base.accessFails (wr 0x60 64) = some .badAddress ∧ base.accessFails (wr 0x60 63) = none) ∧
      (({ base with cmd := { base.cmd with queue := List.replicate 4 (entry 0 0 0 0 0) } } : State).accessFails (wr 0x24 0) =
          some .refused ∧
        (let last : State := { base with
          log := { fullLog with records := List.replicate 31 (resetRecord 1 0 0) }
          sup := { base.sup with st := .armed, windowCount := 15 } }
        last.accessFails (wr 0x24 0) = some .refused ∧
          ({ last with sup := { last.sup with windowCount := 14 } } : State).accessFails (wr 0x24 0) = none) ∧
        ({ base with log := fullLog } : State).accessFails (wr 0x24 0) = some .refused ∧
        base.accessFails (wr 0x24 0) = none) := by decide +kernel

/-- A refused write and a refused read, after an earlier reason, with the count at its maximum. -/
theorem witness_RefusedAccessLatchesItsReason :
    let s : State := { base with port := { base.port with err := ⟨some .state, 6, true, false, 255⟩ } }
    quiet s ∧ s.accessFails (wr 0x00 1) = some .readOnly ∧ s.accessFails (rd 0xFF) = some .badAddress ∧
      after (.registerRead 0xFF) s (fun t =>
        t.port.err == ⟨some .badAddress, 0xFF, false, true, 255⟩ && t.port.resp == .err && t.port.rdata == some 0 &&
          t.irq.flags == 64) = true := by
  simp only [quiet]; decide +kernel

/-- In RETAIN and in RUN; CFG_LOCK with 0 and 1; RESET_GO armed. -/
theorem witness_PortRegistersTakeWrites :
    let s : State := { base with port := { base.port with resetArm := true } }
    quiet retained ∧ quiet s ∧ s.power ≠ .retain ∧ s.port.resetArm = true ∧
      after (.hostErrWrite 7) retained (fun t => t.port.resp == .ok) = true ∧
      after (.cfgLockWrite 0) locked (fun t => t.port.lock) = true ∧ after (.cfgLockWrite 1) s (fun t => t.port.lock) = true ∧
      after (.resetArm 0) base (fun t => t.port.resetArm) = true ∧
      after (.resetGo 0) s (fun t => t.rst.softDue && !t.port.resetArm && !t.accepting) = true := by
  simp only [quiet]; decide +kernel

/-- TB_COUNT at its largest value, and POWER_STATUS in RETAIN. -/
theorem witness_PlainReadHasNoSideEffect :
    let s : State := { base with tb := ⟨0xFFFFFFFF, 0, 1⟩ }
    quiet s ∧ decodeReg 0x40 = some .tbCount ∧ s.accessFails (rd 0x40) = none ∧ quiet retained ∧
      decodeReg 0x48 = some .powerStatus ∧ retained.accessFails (rd 0x48) = none ∧
      after (.registerRead 0x40) s (fun t => t.port.rdata == some 0xFFFFFFFF) = true ∧
      after (.registerRead 0x48) retained (fun t => t.port.resp == .ok) = true := by
  simp only [quiet]; decide +kernel

/-- The packed registers, each with every field at a value of its own. -/
theorem witness_PlainReadHasNoSideEffect_packing :
    let e := entry 0x23 0 0 0 0
    let s : State := { base with
      cmd := { base.cmd with queue := [e, e, e] }, win := { base.win with buffer := [(0, 0)] }
      irq := ⟨0, 0, 0, [⟨1, 0⟩, ⟨7, 3⟩]⟩, port := { base.port with err := ⟨some .reset, 0x61, true, true, 255⟩ }
      log := { fullLog with overflow := 1, wordSel := 2 }, rst := { base.rst with cause := .soft, supCount := 7 } }
    let copying : State := { s with eng := ⟨some (.measure 3), false, 262143, .readWait, [], none, true⟩ }
    let laned := (s.setLane 0 { laneIn .ingress .stopping with
      sub := .stalled, fifo := List.replicate 32 (inWord 1 false false), nextSeq := 0xFFFF, freeList := [4], readyQ := [6, 8] }).setLane
      1 { laneIn .egress .stopped with submitQ := List.replicate 8 9 }
    s.regValue .cmdStatus = 0x0008C14A ∧ base.regValue .cmdStatus = 0 ∧
      copying.regValue .cmdStatus = BitVec.ofNat 32 (2 + 4 * 14 + 64 * 5 + 16384 * 262143) ∧
      s.regValue .irqInService = BitVec.ofNat 32 (2 + 256 * 1 + 8192 * (7 + 8 * 3)) ∧
      s.regValue .hostErr = 0x00FF361B ∧ s.regValue .evtStatus = 0x00021320 ∧ s.regValue .resetCause = 0x0704 ∧
      laned.regValue (.lnStatus 0) = 0xFFFF2033 ∧ laned.regValue (.lnQueues 0) = 0x0201 ∧
      laned.regValue (.lnQueues 1) = 0x00080000 ∧ laned.regValue (.lnQueues 2) = 0 := by decide +kernel

/-- The other packed registers, each with every field at a value of its own (§11.2 to §11.9). -/
theorem witness_PlainReadHasNoSideEffect_status :
    let s : State := { retained with
      sup := ⟨.armed, 0xABCD, 5, true, 3, .safeEgress, true, 4⟩, sweep := ⟨true, 9, true⟩
      win := { base.win with buffer := List.replicate 4 (0, 0) }, ecc := { base.ecc with last := ⟨true, 262143, .engine⟩ }
      scrub := ⟨true, 0x1234, true, 262136, 0, false, 0, 0⟩, tb := ⟨0xFFFFFFFF, 0, 4096⟩
      slotPort := { base.slotPort with sel := 63 }, irq := ⟨0x90, 0, 0, []⟩, port := { base.port with lock := true } }
    let s := s.setLane 2 { laneIn .egress .stopped with
      cfg := ⟨.egress, true, .stall, .emitFill, true, false, true, true⟩, binding := some 3 }
    s.regValue .supStatus = 0xABCD00B6 ∧ s.regValue .powerCtrl = 2 ∧ s.regValue .powerStatus = 2 ∧
      s.regValue .memStatus = 3 ∧ s.regValue .winStatus = 4 ∧ s.regValue .eccLastAddr = 0x8053FFFF ∧
      s.regValue .scrubCfg = 0x00031234 ∧ s.regValue .scrubPos = 262136 ∧ s.regValue .tbCount = 0xFFFFFFFF ∧
      s.regValue .tbPrescale = 4096 ∧ s.regValue .slotSel = 63 ∧ s.regValue .irqPending = 0x90 ∧ s.regValue .cfgLock = 1 ∧
      s.regValue (.lnCfg 2) = 0x000D2212 ∧ s.regValue (.lnBind 2) = 3 ∧ s.regValue (.lnBind 1) = 4 ∧
      s.regValue .supKick = 0 := by decide +kernel

/-- SUP_TIMEOUT 0 reads back as 1, EVT_WORDSEL 3 as 2, LN_MARKS of 40 as 32, WIN_PTR at the last word (R11, R180). -/
theorem witness_OrdinaryWriteReadsBack :
    quiet base ∧
      (∀ x ∈ [((0x43 : BitVec 8), (0 : Word), Reg.supTimeout, 1), (0x32, 3, .evtWordSel, 2), (0x62, 9, .slotWordSel, 8),
          (0xB1, 0x2828, .lnMarks 3, 0x2020), (0x10, 0x1FFFF, .winPtr .a, 0x1FFFF), (0x42, 0x00300000, .supCfg, 0x00100000),
          (0x08, 0xFFFFFFFF, .arbCfg, 0x1FF), (0x07, 0x100, .hostStallLimit, 0), (0x87, 15, .lnCntSel 0, 15), (0x87, 16, .lnCntSel 0, 15),
          (0x87, 14, .lnCntSel 0, 14)],
        decodeReg x.1 = some x.2.2.1 ∧ readBack x.2.1 x.2.2.1 = some x.2.2.2 ∧ base.accessFails (wr x.1 x.2.1) = none ∧
          after (.registerWrite x.1 x.2.1) base (fun t => (t.regValue x.2.2.1).toNat == x.2.2.2) = true) := by
  simp only [quiet]; decide +kernel

/-- Counts at their maximum; an index that names no counter. -/
theorem witness_CountersClearWhenRead :
    let s : State := { base with
      log := { base.log with lost := 0xFFFF }, ecc := { base.ecc with corrCount := 2, uncorrCount := 3, reportArmed := false } }
    let s := s.setLane 2 { laneIn .egress .stopped with counters := { Counters.zero with eccWords := 9 }, cntSel := 13 }
    quiet s ∧ s.power ≠ .retain ∧
      after .evtLostRead s (fun t => t.port.rdata == some 0xFFFF && t.log.lost == 0) = true ∧
      after .eccCorrCountRead s (fun t => t.port.rdata == some 2 && t.ecc.corrCount == 0 && t.ecc.reportArmed) = true ∧
      after .eccUncorrCountRead s (fun t => t.port.rdata == some 3 && t.ecc.uncorrCount == 0) = true ∧
      after (.lnCntDataRead 2) s (fun t => t.port.rdata == some 9 && (t.lane 2).counters == Counters.zero) = true ∧
      after (.lnCntDataRead 3) (s.setLane 3 { laneIn .egress .stopped with cntSel := 15 })
        (fun t => t.port.rdata == some 0) = true := by
  simp only [quiet]; decide +kernel

/-! ## Timeout and abort -/

/-- The port with a transaction that waits. -/
def waiting (s : State) (w : Wait) : State := { s with port := { s.port with waiting := some w } }

/-- A window read not yet granted, a window write, a SLOT_DATA read and a RETAIN request: each ends ERR TIMEOUT. -/
theorem witness_TimeoutEndsTheWait :
    ∀ w ∈ [Wait.winRead .a, .winWrite .b 9, .slotData, .retain],
      let s : State := { waiting base w with win := { base.win with stage := .issued .a } }
      s.urgentDue = false ∧ s.port.stallLimit ≠ 0 ∧ s.port.waiting = some w ∧ s.win.stage.isGranted = false ∧
        after .timeout s (fun t => t.port.resp == .err && t.port.err.reason == some .timeout && t.irq.flags == 64) = true := by
  decide +kernel

/-- The assertion of H_ABT with a read waiting; and the three ways in which a sample does nothing. -/
theorem witness_AbortEndsTheWait :
    let s : State := { waiting base (.winRead .a) with win := { base.win with stage := .awaitDrain .a } }
    s.urgentDue = false ∧ s.port.abt = false ∧ s.port.waiting = some (.winRead .a) ∧ s.win.stage.isGranted = false ∧
      after (.abort true) s (fun t => t.port.resp == .aborted && t.port.err.reason == none && t.win.stage == .none) = true ∧
      after (.abort false) s (fun t => t == s) = true ∧
      after (.abort true) { s with port := { s.port with abt := true } } (fun t => t.port.waiting == some (.winRead .a)) = true ∧
      base.port.waiting = none ∧ base.urgentDue = false := by decide +kernel

/-! ## The slot record read port -/

/-- SLOT_SEL at 63; the snapshot with and without a read that waits; the read, and the one that waits. The selector wraps from
8 to 0. -/
theorem witness_SlotPortSnapshotsAndReads :
    let due := asking base .snapshot
    let last : State := { base with slotPort := { base.slotPort with wordSel := 8 } }
    quiet base ∧ base.power ≠ .retain ∧ (63 : Word).toNat < 64 ∧ due.nextDue = some (.req .snapshot) ∧
      due.port.waiting = none ∧ (waiting due .slotData).nextDue = some (.req .snapshot) ∧ quiet last ∧
      due.accepting = true ∧ due.urgentDue = false ∧ due.outstanding .snapshot = true ∧
      after (.slotSelWrite 63) base (fun t => t.slotPort.sel == 63 && t.nextDue == some (.req .snapshot)) = true ∧
      after .slotDataRead last (fun t => t.slotPort.wordSel == 0) = true ∧
      after .slotDataRead due (fun t => t.port.waiting == some .slotData) = true ∧
      after .snapshot (waiting due .slotData) (fun t => t.port.waiting == none && t.port.resp == .ok) = true := by
  simp only [quiet]; decide +kernel

/-- The nine words of a READY slot in lane 2's submit queue, with every flag set, and of an UNASSIGNED slot (R73). -/
theorem witness_SlotPortSnapshotsAndReads_layout :
    let s := (base.setLane 2 { laneIn .egress .stopped with submitQ := [63] }).setSlot 63
      ⟨.ready, .host, 64, 128, 5, 0xABCD, 2, 9, ⟨true, true, true, true, true, true, true, true⟩, some ⟨7, 8, 33, true⟩⟩
    s.holder 63 = some 2 ∧ s.holder 0 = none ∧
      (s.slotWords 63).toList = [0x001FF353, 64, 128, 5, 0x0002ABCD, 9, 7, 8, 0x80000021] ∧
      (s.slotWords 0).toList = [0, 0, 0, 0, 0, 0, 0, 0, 0] := by decide +kernel

/-! ## The Host Window -/

/-- Slot 0 is FREE in lane 1's pool, so the words 0 to 63 are closed to the host (R54). -/
def closed0 : State := base.setSlot 0 (slotIn .free (.lane 1) 0 0)

/-- The last closed word and the first open one; the pointer's steps at both ends of memory (R122). -/
theorem witness_AccessibleWordsAndPointerSteps :
    closed0.hostAccessible 63 = false ∧ closed0.hostAccessible 64 = true ∧ closed0.rangeAccessible 63 2 = false ∧
      closed0.rangeAccessible 64 8 = true ∧ closed0.rangeAccessible 63 0 = true ∧ 131071 < Part.bso2404.memWords ∧
      advanced 131072 131071 1 = 0 ∧ advanced 131072 0 (-1) = 131071 ∧ advanced 262144 0 (-128) = 262016 ∧
      advanced 131072 131071 127 = 126 := by decide +kernel

/-- Three entries in the buffer, to an open and to a closed word; and four. -/
theorem witness_WindowWriteIsPosted :
    let with_ (s : State) (k : Nat) : State := { s with win := { s.win with buffer := List.replicate k (9, 0) } }
    quiet (with_ base 3) ∧ quiet (with_ closed0 3) ∧ quiet (with_ base 4) ∧ base.power ≠ .retain ∧
      base.sweep.running = false ∧ (with_ base 3).hostAccessible 0 = true ∧ (with_ closed0 3).hostAccessible 0 = false ∧
      after (.winDataWrite .a 7) { with_ base 3 with win := { (with_ base 3).win with strideA := 255 } }
        (fun t => t.win.ptrA == 131071 && t.win.buffer.length == 4) = true ∧
      after (.winDataWrite .a 7) (with_ closed0 3) (fun t => t.port.err.reason == some .denied && t.win.ptrA == 0) = true ∧
      after (.winDataWrite .b 7) (with_ base 4) (fun t => t.port.waiting == some (.winWrite .b 7)) = true := by
  simp only [quiet]; decide +kernel

/-- The buffer empty, to an open and to a closed word; and with an entry. -/
theorem witness_WindowReadIsIssued :
    let full : State := { base with win := { base.win with buffer := [(9, 0)] } }
    quiet base ∧ quiet closed0 ∧ quiet full ∧ base.power ≠ .retain ∧ base.sweep.running = false ∧
      base.hostAccessible 0 = true ∧ closed0.hostAccessible 0 = false ∧ full.win.buffer ≠ [] ∧
      after (.winDataRead .a) base (fun t => t.win.stage == .granted .a && t.arb.grant == some ⟨.winRead, 0, 1⟩) = true ∧
      after (.winDataRead .b) closed0 (fun t => t.port.err == ⟨some .denied, 0x15, false, false, 1⟩) = true ∧
      after (.winDataRead .a) full (fun t => t.win.stage == .awaitDrain .a) = true := by
  simp only [quiet]; decide +kernel

/-! ## Events and interrupts -/

/-- An empty log; selector 0; selector 2 with the overflow count 0, and with it not 0. -/
theorem witness_EventDataReadsAndPops :
    let empty : State := { base with log := { base.log with records := [] } }
    let at2 : State := { base with log := { base.log with wordSel := 2 } }
    let counting : State := { base with log := { fullLog with wordSel := 2, overflow := 3 } }
    quiet empty ∧ quiet base ∧ quiet at2 ∧ quiet counting ∧ base.power ≠ .retain ∧
      after .evtDataRead empty (fun t => t.port.rdata == some 0) = true ∧
      after .evtDataRead base (fun t => t.log.wordSel == 1) = true ∧
      after .evtDataRead at2 (fun t => t.log.records == [] && t.log.wordSel == 0 && t.port.rdata == some 1) = true ∧
      after .evtDataRead counting (fun t =>
        t.log.records.length == 32 && t.log.overflow == 0 && (t.log.records.getLast?.map Record.ev) ==
          some ⟨.logOverflow, none, 11, none, 0, 3⟩) = true := by
  simp only [quiet]; decide +kernel

/-- The words of RESET_RECORD, with no group and no slot, and of a completion record (R151). -/
theorem witness_EventDataReadsAndPops_layout :
    let first := resetRecord 1 2 9
    let done : Record := ⟨255, doneEvent base (entry 0x23 0 0 0 0) .aborted 262144 (some 63)⟩
    first.word 0 = 0x0CFFFA00 ∧ first.word 1 = 9 ∧ first.word 2 = 0x201 ∧ done.word 0 = 0x057E90FF ∧
      done.word 2 = BitVec.ofNat 32 (262144 + 524288 * 11 + 8388608 * 0x23) := by decide +kernel

/-- MEMORY (5) and L0 (0) at priority 2: MEMORY first; with MEMORY in service at 2 neither qualifies (R161, R162). -/
theorem witness_WinnerIsHighestThenFirst :
    let q : Irq := ⟨33, 33, 0x0802, []⟩
    q.qualifies 5 = true ∧ q.qualifies 0 = true ∧ q.winner = some 5 ∧ q.line = true ∧
      ({ q with stack := [⟨5, 2⟩] } : Irq).winner = none ∧ ({ q with stack := [⟨5, 2⟩] } : Irq).line = false := by
  decide +kernel

/-- Nothing to acknowledge; a group; an end of service with and without an entry. -/
theorem witness_InterruptsAreAcknowledgedAndEnded :
    let s : State := { base with irq := ⟨33, 33, 0x0802, []⟩ }
    let inService : State := { base with irq := ⟨0, 0, 0, [⟨0, 1⟩, ⟨5, 2⟩]⟩ }
    quiet base ∧ quiet s ∧ quiet inService ∧ base.power ≠ .retain ∧ base.irq.winner = none ∧ s.irq.winner = some 5 ∧
      inService.irq.stack ≠ [] ∧ base.irq.stack = [] ∧
      after .acknowledge base (fun t => t.port.rdata == some 0xFF) = true ∧
      after .acknowledge s (fun t => t.port.rdata == some 0x25 && t.irq == ⟨1, 33, 0x0802, [⟨5, 2⟩]⟩) = true ∧
      after (.eoi 0) inService (fun t => t.irq.stack == [⟨0, 1⟩]) = true ∧
      after (.eoi 0) base (fun t => t.port.err.reason == some .state) = true ∧
      after (.irqPendingWrite 0x101) s (fun t => t.irq.flags == 32) = true := by
  simp only [quiet]; decide +kernel

/-! ## Timebase, supervisor and power -/

/-- The supervisor with warning 3 and timeout 4, at a counter. -/
def supAt (counter : BitVec 16) (action : SupAction) : State :=
  { base with sup := ⟨.running, counter, 0, false, 3, action, false, 4⟩ }

/-- The tick that warns, the tick that expires, and the tick at which the Scrubber's interval reaches N; TB_COUNT wraps. -/
theorem witness_TickCountsAndCauses :
    let scrubbing : State := { base with scrub := ⟨true, 3, false, 0, 2, false, 0, 0⟩, tb := ⟨0xFFFFFFFF, 0, 1⟩ }
    calm (supAt 2 .eventOnly) ∧ calm (supAt 3 .eventOnly) ∧ calm scrubbing ∧ base.power ≠ .retain ∧
      after .timebaseTick (supAt 2 .eventOnly) (fun t => t.moment.caused == [.supWarning]) = true ∧
      after .timebaseTick (supAt 3 .eventOnly) (fun t => t.moment.caused == [.supExpired]) = true ∧
      after .timebaseTick scrubbing (fun t => t.moment.caused == [.scrubRequest] && t.tb.count == 0) = true := by
  simp only [calm]; decide +kernel

/-- Each of the conditions under which the Scrubber counts (R28), failing alone; another's grant does not stop it. -/
theorem witness_TickCountsAndCauses_counting :
    let s : State := { base with scrub := ⟨true, 3, false, 0, 2, false, 0, 0⟩ }
    s.scrubCounting = true ∧ (granting s ⟨.winWrite, 0, 1⟩).scrubCounting = true ∧ base.scrubCounting = false ∧
      ({ s with scrub := { s.scrub with request := true } } : State).scrubCounting = false ∧
      (granting s ⟨.scrub, 0, 8⟩).scrubCounting = false ∧ ({ s with sweep := ⟨true, 0, false⟩ } : State).scrubCounting = false ∧
      ({ s with power := .retain } : State).scrubCounting = false := by decide +kernel

/-- A free-running egress lane that is RUNNING and IDLE. -/
def idleRunner : Lane := laneIn .egress .running

/-- The window has counted 16 transactions, the last of them refused. -/
def closing : State :=
  { base with
    sup := { base.sup with st := .armed, windowCount := 16 }
    log := { base.log with heldBack := [⟨.hostError, some 6, 4, none, 0, 1⟩] } }

/-- A due warning; a due expiry with each action; a window that closes with and without an event held back. -/
theorem witness_SupervisorWarnsExpiresAndClosesItsWindow :
    let safe := (asking (supAt 4 .safeEgress) .supExpired).setLane 3 idleRunner
    let bare : State := { closing with log := base.log }
    (asking (supAt 3 .eventOnly) .supWarning).nextDue = some (.req .supWarning) ∧
      (∀ a ∈ [SupAction.eventOnly, .safeEgress, .resetDevice],
        (asking (supAt 4 a) .supExpired).nextDue = some (.req .supExpired)) ∧
      safe.nextDue = some (.req .supExpired) ∧ closing.nextDue = some .windowClosed ∧ bare.nextDue = some .windowClosed ∧
      bare.log.heldBack = [] ∧ closing.log.enable = 0xFF ∧ (∀ e ∈ closing.log.heldBack, e.group ≠ none) ∧
      closing.logUse + closing.log.heldBack.length < 32 ∧
      raised .supWarning (asking (supAt 3 .eventOnly) .supWarning) [.supWarning] = true ∧
      after .supExpired safe (fun t => t.sup.safeMode && (t.lane 3).sub == .taking && t.outstanding (.take 3)) = true ∧
      after .supExpired (asking (supAt 4 .resetDevice) .supExpired) (fun t => t.nextDue == some .reset) = true ∧
      raised .windowClosed bare [.supSequenceError] = true ∧
      raised .windowClosed closing [.supSequenceError, .hostError] = true := by decide +kernel

/-- Arm: OFF and RUNNING. Kick: OFF, RUNNING, and ARMED with safe mode in force. -/
theorem witness_ArmAndKickRefreshTheSupervisor :
    let run := supAt 2 .eventOnly
    let armed : State :=
      { run with sup := { run.sup with st := .armed, windowCount := 15, safeMode := true } }.setLane 3 idleRunner
    quiet base ∧ quiet run ∧ quiet armed ∧ base.power ≠ .retain ∧ base.sup.st = .off ∧ run.sup.st = .running ∧
      armed.sup.st = .armed ∧
      after (.supArm 0) base (fun t => t.sup.st == .running) = true ∧
      after (.supArm 0) armed (fun t => t.sup.st == .armed && t.sup.windowCount == 0 && t.sup.safeMode) = true ∧
      after (.supKick 0) base (fun t => t.sup == base.sup && t.irq.flags == 0) = true ∧
      raised (.supKick 0) run [.supSequenceError] = true ∧
      after (.supKick 0) armed (fun t =>
        t.sup.st == .running && t.sup.counter == 0 && !t.sup.safeMode && t.moment.caused == [.take 3]) = true := by
  simp only [quiet]; decide +kernel

/-- A valid kick at a moment whose occurrences have asked for an allocate and a command, and have caused a take: its takes come
behind all of them (R104). -/
theorem witness_ArmAndKickRefreshTheSupervisor_joins :
    let s : State := { (base.setLane 3 idleRunner).setLane 2 idleRunner with
      sup := ⟨.armed, 0, 0, true, 3, .safeEgress, false, 4⟩
      moment := ⟨[.allocate 0, .command], [.take 1], [.stream 0], true⟩ }
    s.port.waiting = none ∧ s.accepting = true ∧ s.urgentDue = false ∧ s.power ≠ .retain ∧ s.sup.st = .armed ∧
      s.sup.safeMode = true ∧ s.nextDue ≠ none ∧ s.moment.takes .host = true ∧
      (∀ n, idleFreeRunner (s.lane n) = true → s.outstanding (.take n) = false) ∧
      after (.supKick 0) s (fun t =>
        t.moment.asked == [.allocate 0, .command] && t.moment.caused == [.take 1, .take 2, .take 3]) = true := by
  decide +kernel

/-- The prescaler; the Scrubber enabled anew with N = 0, and disabled with its request raised; LN_CFG with the direction kept and
changed. -/
theorem witness_ConfigurationWrites :
    let stopped := base.setLane 1 { laneIn .ingress .stopped with nextSeq := 7 }
    quiet base ∧ quiet scrubAsking ∧ quiet stopped ∧ base.power ≠ .retain ∧ base.port.lock = false ∧
      (stopped.lane 1).moving = false ∧ stopped.givesUpNothing 1 = true ∧
      after (.tbPrescaleWrite 4096) base (fun t => t.tb.prescale == 4096) = true ∧
      after (.scrubCfgWrite 0x10000) base (fun t => t.arb.grant == some ⟨.scrub, 0, 8⟩) = true ∧
      after (.scrubCfgWrite 0) scrubAsking (fun t => !t.scrub.request && !t.scrub.enabled) = true ∧
      after (.lnCfgWrite 1 1) stopped (fun t => (t.lane 1).nextSeq == 7 && (t.lane 1).cfg.frameEvents == false) = true ∧
      after (.lnCfgWrite 1 2) stopped (fun t =>
        (t.lane 1).nextSeq == 0 && (t.lane 1).cfg.dir == .egress && (t.lane 1).st == .stopped) = true ∧
      after (.lnCfgWrite 1 0) stopped (fun t => (t.lane 1).st == .off) = true := by
  simp only [quiet]; decide +kernel

/-- A lane that owns a slot, one that an egress lane is bound to, an egress lane with each of what it holds, and one that moves
(R76). -/
theorem witness_ConfigurationWrites_refused :
    let holds (f : Lane → Lane) : State := base.setLane 1 (f (laneIn .egress .stopped))
    let bound := (base.setLane 0 (laneIn .ingress .stopped)).setLane 1 { laneIn .egress .stopped with binding := some 0 }
    (∀ s ∈ [owning, bound, running.setLane 0 (laneIn .ingress .running)],
      quiet s ∧ s.power ≠ .retain ∧ s.port.lock = false ∧
        after (.lnCfgWrite 0 2) s (fun t => t.port.err.reason == some .state && t.lane 0 == s.lane 0) = true) ∧
      owning.givesUpNothing 0 = false ∧ bound.givesUpNothing 0 = false ∧
      (∀ s ∈ [holds fun l => { l with binding := some 0 }, holds fun l => { l with submitQ := [4] },
          holds fun l => { l with linger := some 4 }],
        quiet s ∧ s.givesUpNothing 1 = false ∧ after (.lnCfgWrite 1 0) s (fun t => t.port.err.reason == some .state) = true) ∧
      (holds id).givesUpNothing 1 = true := by
  simp only [quiet]; decide +kernel

/-- RUN out of RETAIN; DOZE; RETAIN at once, and behind a Scrubber grant. -/
theorem witness_PowerRequests :
    let dozing : State := { base with power := .doze }
    let scrubbing := granting base ⟨.scrub, 0, 8⟩
    quiet retained ∧ quiet base ∧ quiet dozing ∧ quiet scrubbing ∧ (∀ n, (base.lane n).moving = false) ∧
      base.cmd.queue = [] ∧ base.win.buffer = [] ∧ base.sweep.running = false ∧
      after (.run 0) retained (fun t => t.power == .run) = true ∧ after (.doze 1) base (fun t => t.power == .doze) = true ∧
      after (.retain 3) dozing (fun t => t.power == .retain) = true ∧
      after (.retain 2) scrubbing (fun t => t.power == .run && t.port.waiting == some .retain) = true := by
  simp only [quiet]; decide +kernel

/-- The requests that R172 does not allow: DOZE out of RETAIN, and with a lane that moves; RETAIN with a lane that moves, a command
queued, an entry in the buffer, and in the sweep. RETAIN in RETAIN is allowed. -/
theorem witness_PowerRequests_refused :
    let queued : State := { base with
      cmd := { base.cmd with queue := [entry 0x23 0 0 0 0] }, win := { base.win with buffer := [(9, 0)] } }
    let posted : State := { base with win := { base.win with buffer := [(9, 0)] } }
    let refuses (c : Instr) (s : State) : Bool :=
      after c s fun t => t.port.err.reason == some .state && t.power == s.power
    quiet retained ∧ quiet running ∧ quiet queued ∧ quiet posted ∧ quiet State.reset ∧ (running.lane 3).moving = true ∧
      refuses (.doze 1) retained = true ∧ refuses (.doze 1) running = true ∧
      (∀ s ∈ [running, queued, posted, State.reset], refuses (.retain 2) s = true) ∧
      after (.retain 2) retained (fun t => t.port.resp == .ok && t.power == .retain) = true := by
  simp only [quiet]; decide +kernel

/-! ## Commands -/

/-- Three commands queued behind a full buffer, and a free queue. -/
theorem witness_IssueQueuesTheCommand :
    let three : State := { base with
      cmd := { base.cmd with queue := List.replicate 3 (entry 0x23 0 0 0 0) }, eng := { base.eng with cmd := some (.measure 0) } }
    quiet base ∧ quiet three ∧ base.power ≠ .retain ∧ three.cmd.queue.length < 4 ∧
      three.log.records.length + three.reserved < 32 ∧ base.sweep.running = false ∧
      after (.cmdIssue 0x1234) base (fun t =>
        t.cmd.queue == [⟨0x34, 0x12, 0, 0, 0, 0⟩] && t.reserved == 1 && t.nextDue == some (.req .command)) = true ∧
      after (.cmdIssue 0x23) three (fun t => t.cmd.queue.length == 4 && t.nextDue == none) = true := by
  simp only [quiet]; decide +kernel

/-- One case of a command row: the state, the command's entry, and its result code and value (R138, R139). -/
abbrev Case := State × CmdEntry × Nat × Nat

/-- The row completes the command with the result. -/
def comesTo (row : Instr) (x : Case) : Bool := after row (issued x.1 x.2.1) fun t => result t == x.2.2

/-- SYNC, and the codes around the named ones. -/
theorem witness_SyncAndUnknownCodesComplete :
    (∀ c ∈ [(0x00 : BitVec 8), 0x07, 0x0F, 0x15, 0x1F, 0x24, 0xFF],
      commandDue (issued base (entry c 0 0 0 0)) (entry c 0 0 0 0) c ∧
        comesTo .unknownCommand (base, entry c 0 0 0 0, 3, 0) = true) ∧
      commandDue (issued base (entry 0x23 0 0 0 0)) (entry 0x23 0 0 0 0) 0x23 ∧
      comesTo .sync (base, entry 0x23 0 0 0 0, 0, 0) = true ∧
      comesTo .commandDispatch (base, entry 0x23 0 0 0 0, 0, 0) = true := by
  simp only [commandDue]; decide +kernel

/-- Every named code, due at the head of the queue. -/
theorem witness_SyncAndUnknownCodesComplete_dispatch :
    ∀ c ∈ [(1 : BitVec 8), 2, 3, 4, 5, 6, 16, 17, 18, 19, 20, 32, 33, 34, 35],
      commandDue (issued base (entry c 0 0 0 0)) (entry c 0 0 0 0) c ∧
        after .commandDispatch (issued base (entry c 0 0 0 0)) (fun t => t != issued base (entry c 0 0 0 0)) = true := by
  simp only [commandDue]; decide +kernel

/-- Lane 0 is a STOPPED ingress lane, lane 1 a STOPPED egress lane. -/
def twoLanes : State := (base.setLane 0 (laneIn .ingress .stopped)).setLane 1 (laneIn .egress .stopped)

/-- Lane 0 owns 16 slots, 10 to 25. -/
def owns16 : State :=
  ((List.range 16).map fun k => Fin.ofNat 64 (k + 10)).foldl
    (fun s i => s.setSlot i (slotIn .ready (.lane 0) i.val 1)) twoLanes

theorem witness_SlotsAreAssignedAndUnassigned :
    (∀ x ∈ ([(locked, entry 1 0 5 0 64, 7, 0), (base, entry 1 64 5 0 64, 3, 0), (base, entry 1 0 0 0 64, 3, 0),
        (base, entry 1 0 6 0 64, 3, 0), (base, entry 1 0 5 63 64, 3, 0), (base, entry 1 0 5 0 65, 3, 0),
        (base, entry 1 0 5 0 0, 3, 0), (base, entry 1 0 5 0 65600, 3, 0), (base, entry 1 0 5 131072 64, 3, 0),
        (base, entry 1 63 5 131008 64, 0, 0), (base, entry 1 0 5 0 65536, 0, 0),
        (twoLanes.setSlot 3 (slotIn .free .host 3 0), entry 1 3 5 0 64, 4, 0), (twoLanes, entry 1 0 2 0 64, 4, 0),
        (twoLanes, entry 1 0 1 0 64, 0, 0), (owns16, entry 1 0 1 0 64, 2, 0), (owns16, entry 1 0 5 640 64, 6, 0),
        (owns16, entry 1 0 5 576 64, 0, 0), (owns16, entry 1 0 5 1664 64, 0, 0)] : List Case),
      commandDue (issued x.1 x.2.1) x.2.1 0x01 ∧ comesTo .slotAssign x = true) ∧
      (∀ x ∈ ([(locked, entry 2 0 0 0 0, 7, 0), (base, entry 2 64 0 0 0, 3, 0), (base, entry 2 63 0 0 0, 4, 0),
          (base.setSlot 63 (slotIn .quarantined .host 3 0), entry 2 63 0 0 0, 0, 0),
          ({ base with hostFree := [2, 3] }.setSlot 3 (slotIn .free .host 3 0), entry 2 3 0 0 0, 0, 0)] : List Case),
        commandDue (issued x.1 x.2.1) x.2.1 0x02 ∧ comesTo .slotUnassign x = true) ∧
      after .slotAssign (issued base (entry 1 63 5 131008 64))
        (fun t => t.slot 63 == { Slot.unassigned with st := .free, owner := .host, base := 131008, capacity := 64 } &&
          t.hostFree == [63]) = true ∧
      after .slotUnassign (issued ({ base with hostFree := [2, 3] }.setSlot 3 (slotIn .free .host 3 0)) (entry 2 3 0 0 0))
        (fun t => t.slot 3 == Slot.unassigned && t.hostFree == [2]) = true := by
  simp only [commandDue]; decide +kernel

/-- Lane 0 has slots 4 and 6 ready, slot 4 with ECC_BAD set; the host pool holds slot 9. -/
def ready46 : State :=
  ((({ base with hostFree := [9] }.setLane 0 { laneIn .ingress .stopped with readyQ := [4, 6] }).setSlot 4
    { slotIn .ready (.lane 0) 4 5 with flags := { SlotFlags.clear with eccBad := true } }).setSlot 6
    (slotIn .ready (.lane 0) 6 5)).setSlot 9 (slotIn .free .host 9 3)

theorem witness_ClaimAndAllocTakeTheHead :
    (∀ x ∈ ([(ready46, entry 3 4 0 0 0, 3, 0), (ready46, entry 3 3 0 0 0, 3, 0), (twoLanes, entry 3 0 0 0 0, 1, 0),
        (ready46.setLane 1 { laneIn .egress .stopped with binding := some 0 }, entry 3 0 0 0 0, 9, 0),
        (ready46, entry 3 0 0 0 0, 0, 4)] : List Case),
      commandDue (issued x.1 x.2.1) x.2.1 0x03 ∧ comesTo .claim x = true) ∧
      (∀ x ∈ ([(base, entry 4 0 0 0 0, 1, 0), (ready46, entry 4 0 0 0 0, 0, 9)] : List Case),
        commandDue (issued x.1 x.2.1) x.2.1 0x04 ∧ comesTo .alloc x = true) ∧
      after .claim (issued ready46 (entry 3 0 0 0 0))
        (fun t => (t.slot 4).st == .claimed && (t.slot 4).length == 5 && (t.lane 0).readyQ == [6]) = true ∧
      after .alloc (issued ready46 (entry 4 0 0 0 0))
        (fun t => (t.slot 9).st == .claimed && (t.slot 9).length == 0 && t.hostFree == []) = true := by
  simp only [commandDue]; decide +kernel

/-- Slot 4 of `ready46` is CLAIMED with ECC_BAD set; slot 9, of the host, is CLAIMED; slot 6 is QUARANTINED. -/
def claimed : State :=
  (((ready46.setLane 0 (laneIn .ingress .stopped)).updSlot 4 fun r => { r with st := .claimed }).updSlot 9 fun r =>
    { r with st := .claimed }).updSlot 6 fun r => { r with st := .quarantined, flags := { r.flags with eccBad := true } }

theorem witness_ReleaseReturnsTheSlot :
    (∀ x ∈ ([(claimed, entry 5 64 0 0 0, 3, 0), (claimed, entry 5 63 0 0 0, 4, 0), (claimed, entry 5 4 0 0 0, 0, 0),
        (claimed, entry 5 9 0 0 0, 0, 0), (claimed, entry 5 6 0 0 0, 0, 0)] : List Case),
      commandDue (issued x.1 x.2.1) x.2.1 0x05 ∧ comesTo .release x = true) ∧
      after .release (issued claimed (entry 5 4 0 0 0)) (fun t => (t.slot 4).st == .quarantined) = true ∧
      after .release (issued claimed (entry 5 9 0 0 0)) (fun t => t.hostFree == [9, 9] && (t.slot 9).length == 3) = true ∧
      after .release (issued claimed (entry 5 6 0 0 0))
        (fun t => (t.lane 0).freeList == [6] && (t.slot 6).flags == SlotFlags.clear && (t.slot 6).st == .free) = true := by
  simp only [commandDue]; decide +kernel

/-- The lengths 0, 64 and 65 of a 64-word slot; lanes 1 (egress), 3 (not) and 4; a submit queue with 7 and with 8 entries. -/
theorem witness_SubmitQueuesTheSlot :
    let s (k : Nat) : State := claimed.setLane 1 { idleRunner with submitQ := List.replicate k 40 }
    (∀ x ∈ ([(s 0, entry 6 64 1 1 0, 3, 0), (s 0, entry 6 6 1 1 0, 4, 0), (s 0, entry 6 9 4 1 0, 3, 0),
        (s 0, entry 6 9 3 1 0, 3, 0), (s 0, entry 6 9 1 0 0, 3, 0), (s 0, entry 6 9 1 65 0, 3, 0),
        (s 8, entry 6 9 1 64 0, 2, 0), (s 7, entry 6 9 1 64 0, 0, 0)] : List Case),
      commandDue (issued x.1 x.2.1) x.2.1 0x06 ∧ comesTo .submit x = true) ∧
      after .submit (issued (s 7) (entry 6 9 1 64 0)) (fun t =>
        (t.slot 9).st == .ready && (t.slot 9).length == 64 && (t.slot 9).flags.hostBuilt && (t.lane 1).submitQ.length == 8 &&
          (t.lane 1).sub == .taking && t.outstanding (.take 1)) = true := by
  simp only [commandDue]; decide +kernel

/-- An ingress lane's marks 8 and 24 pass, 0 and 24 do not; an egress lane's 24 and 8 pass, 25 and 8 do not (R41). -/
theorem witness_LaneStartChecksAndRuns :
    let eg (lo hi : Nat) : State := base.setLane 1 { laneIn .egress .stopped with markLo := lo, markHi := hi }
    (∀ x ∈ ([(twoLanes, entry 0x10 4 0 0 0, 3, 0), (twoLanes, entry 0x10 3 0 0 0, 4, 0),
        ({ twoLanes with power := .doze }, entry 0x10 0 0 0 0, 4, 0), (twoLanes, entry 0x10 1 0 0 0, 5, 0),
        (eg 25 8, entry 0x10 1 0 0 0, 5, 0), (eg 24 8, entry 0x10 1 0 0 0, 0, 0),
        (base.setLane 0 { laneIn .ingress .stopped with markLo := 0 }, entry 0x10 0 0 0 0, 5, 0),
        (base.setLane 0 { laneIn .ingress .stopped with
            cfg := { (laneIn .ingress .stopped).cfg with inPolicy := .stall } }, entry 0x10 0 0 0 0, 5, 0),
        (twoLanes, entry 0x10 0 0 0 0, 0, 0)] : List Case),
      commandDue (issued x.1 x.2.1) x.2.1 0x10 ∧ comesTo .laneStart x = true) ∧
      after .laneStart (issued twoLanes (entry 0x10 0 0 0 0)) (fun t => (t.lane 0).st == .running && (t.lane 0).strayArmed) =
        true ∧
      after .laneStart (issued (eg 24 8) (entry 0x10 1 0 0 0)) (fun t => t.outstanding (.take 1)) = true := by
  simp only [commandDue]; decide +kernel

/-- Lane 0 is STALLED; it has begun a frame that has no slot. -/
def stalled : State := base.setLane 0 { laneIn .ingress .running with sub := .stalled, frameSeq := 9, fifo := [inWord 1 true false] }

/-- Lane 0 fills slot 6. -/
def filling : State :=
  (base.setLane 0 { laneIn .ingress .running with
    sub := .receiving, cur := some 6, frameSeq := 9, fifo := [inWord 1 false false, inWord 2 false true] }).setSlot 6
    { slotIn .filling (.lane 0) 6 3 with seq := 9 }

theorem witness_LaneStopWaitsForTheBoundary :
    (∀ x ∈ ([(filling, entry 0x11 4 0 0 0, 3, 0), (filling, entry 0x11 3 0 0 0, 4, 0), (twoLanes, entry 0x11 0 0 0 0, 0, 0),
        (filling, entry 0x11 0 0 0 0, 0, 0), (base.setLane 1 idleRunner, entry 0x11 1 0 0 0, 0, 0),
        (stalled, entry 0x11 0 0 0 0, 0, 0)] : List Case),
      commandDue (issued x.1 x.2.1) x.2.1 0x11 ∧ comesTo .laneStop x = true) ∧
      after .laneStop (issued filling (entry 0x11 0 0 0 0)) (fun t => (t.lane 0).st == .stopping) = true ∧
      raised .laneStop (issued (base.setLane 1 idleRunner) (entry 0x11 1 0 0 0)) [.commandDone, .laneStopped] = true ∧
      raised .laneStop (issued stalled (entry 0x11 0 0 0 0)) [.commandDone, .frameDropped, .laneStopped] = true ∧
      (stalled.lane 0).sub = .stalled ∧ (stalled.lane 0).st = .running := by
  simp only [commandDue]; decide +kernel

/-- Lane 1 sends slot 6 of an owner. -/
def sendingOf (o : Owner) (bad : Bool) : State :=
  (base.setLane 1 { sender with sent := 2 }).setSlot 6
    { slotIn .draining o 6 10 with flags := { SlotFlags.clear with eccBad := bad } }

/-- A LANE_HALT deferred to the end of the grant, its operation now due. -/
def haltDue : State :=
  let s := issued filling (entry 0x12 0 0 0 0)
  { s with cmd := { s.cmd with haltDeferred := true } }

/-- Every clause of a halt: with a slot being filled, and being sent from the host's pool and from another lane's, with ECC_BAD
set and clear; without a slot, begun and not. -/
theorem witness_LaneHaltStopsAtOnce :
    (∀ x ∈ ([(filling, entry 0x12 4 0 0 0, 3, 0), (filling, entry 0x12 3 0 0 0, 4, 0), (twoLanes, entry 0x12 0 0 0 0, 0, 0),
        (filling, entry 0x12 0 0 0 0, 0, 0), (sendingOf .host false, entry 0x12 1 0 0 0, 0, 0),
        (sendingOf (.lane 0) true, entry 0x12 1 0 0 0, 0, 0), (stalled, entry 0x12 0 0 0 0, 0, 0),
        (base.setLane 1 idleRunner, entry 0x12 1 0 0 0, 0, 0)] : List Case),
      commandDue (issued x.1 x.2.1) x.2.1 0x12 ∧ comesTo .laneHalt x = true) ∧
      raised .laneHalt (issued filling (entry 0x12 0 0 0 0)) [.commandDone, .frameDropped, .laneHalted] = true ∧
      after .laneHalt (issued filling (entry 0x12 0 0 0 0)) (fun t =>
        (t.slot 6).st == .free && (t.lane 0).freeList == [6] && (t.lane 0).st == .stopped) = true ∧
      after .laneHalt (issued (sendingOf (.lane 0) true) (entry 0x12 1 0 0 0)) (fun t =>
        (t.slot 6).st == .quarantined && (t.lane 0).freeList == []) = true ∧
      raised .laneHalt (issued stalled (entry 0x12 0 0 0 0)) [.commandDone, .frameDropped, .laneHalted] = true ∧
      (let s := issued (granting filling ⟨.ingress 0, 387, 2⟩) (entry 0x12 0 0 0 0)
      commandDue s (entry 0x12 0 0 0 0) 0x12 ∧ after .laneHalt s (fun t => t.cmd.haltDeferred) = true) ∧
      (haltDue.nextDue = some (.req .command) ∧ haltDue.cmd.haltDeferred = true ∧
        haltDue.cmd.queue.head? = some (entry 0x12 0 0 0 0) ∧ (haltDue.lane 0).moving = true) ∧
      raised .haltAtGrantEnd haltDue [.commandDone, .frameDropped, .laneHalted] = true := by
  simp only [commandDue]; decide +kernel

/-- A halt, and a flush, that return a slot to the free list of lane 0 while that lane is STALLED: it asks for its allocate
again (R52, R86). -/
theorem witness_halt_and_flush_wake_the_owner :
    let waiting (s : State) : State := s.setLane 0 { laneIn .ingress .running with
      sub := .stalled, fifo := [inWord 1 true false], cfg := { LaneCfg.reset with dir := .ingress, inPolicy := .stall } }
    let halting := issued (waiting (sendingOf (.lane 0) false)) (entry 0x12 1 0 0 0)
    let flushing := issued (waiting ((base.setLane 1 { laneIn .egress .stopped with submitQ := [10] }).setSlot 10
      (slotIn .ready (.lane 0) 10 1))) (entry 0x13 1 0 0 0)
    commandDue halting (entry 0x12 1 0 0 0) 0x12 ∧ commandDue flushing (entry 0x13 1 0 0 0) 0x13 ∧
      after .laneHalt halting (fun t => t.outstanding (.allocate 0) && (t.lane 0).freeList == [6]) = true ∧
      after .laneFlush flushing (fun t => t.outstanding (.allocate 0) && (t.lane 0).freeList == [10]) = true := by
  simp only [commandDue]; decide +kernel

/-- Lane 1, STOPPED and bound to lane 0, has submitted slots 9 and 10 and slot 11 lingering. -/
def lingering : State :=
  (((base.setLane 0 (laneIn .ingress .stopped)).setLane 1
    { laneIn .egress .stopped with submitQ := [9, 10], linger := some 11, binding := some 0 }).setSlot 9
    (slotIn .ready .host 9 1)).setSlot 10 (slotIn .ready (.lane 0) 10 1) |>.setSlot 11
    { slotIn .linger (.lane 0) 11 1 with flags := { SlotFlags.clear with eccBad := true } }

theorem witness_LanesAreFlushedAndBound :
    (∀ x ∈ ([(lingering, entry 0x13 4 0 0 0, 3, 0), (lingering, entry 0x13 3 0 0 0, 4, 0), (lingering, entry 0x13 1 0 0 0, 0, 0),
        (ready46, entry 0x13 0 0 0 0, 0, 0)] : List Case),
      commandDue (issued x.1 x.2.1) x.2.1 0x13 ∧ comesTo .laneFlush x = true) ∧
      (∀ x ∈ ([(lingering, entry 0x14 4 0 0 0, 3, 0), ({ lingering with port := locked.port }, entry 0x14 1 4 0 0, 7, 0),
          (lingering, entry 0x14 0 4 0 0, 3, 0), (lingering, entry 0x14 1 5 0 0, 3, 0), (lingering, entry 0x14 1 2 0 0, 3, 0),
          (lingering.setLane 2 (laneIn .egress .running), entry 0x14 2 4 0 0, 4, 0),
          (lingering.setLane 2 (laneIn .egress .stopped), entry 0x14 2 0 0 0, 4, 0), (lingering, entry 0x14 1 0 0 0, 0, 0),
          (lingering, entry 0x14 1 4 0 0, 0, 0), (twoLanes, entry 0x14 1 0 0 0, 0, 0)] : List Case),
        commandDue (issued x.1 x.2.1) x.2.1 0x14 ∧ comesTo .bind x = true) ∧
      after .laneFlush (issued lingering (entry 0x13 1 0 0 0)) (fun t =>
        t.hostFree == [9] && (t.lane 0).freeList == [10] && (t.slot 11).st == .quarantined && (t.lane 1).linger == none) =
          true ∧
      after .bind (issued lingering (entry 0x14 1 4 0 0)) (fun t =>
        (t.lane 1).binding == none && (t.slot 11).st == .quarantined) = true ∧
      after .bind (issued lingering (entry 0x14 1 0 0 0)) (fun t => (t.lane 1).linger == some 11) = true ∧
      after .bind (issued twoLanes (entry 0x14 1 0 0 0)) (fun t => (t.lane 1).binding == some 0) = true := by
  simp only [commandDue]; decide +kernel

/-! ## The Copy Engine -/

/-- Counts 0, 262,144 and beyond; the last word of memory; a closed word; a slot of length 0. -/
theorem witness_LongCommandsCheckAndStart :
    (∀ x ∈ ([(base, entry 0x20 0 0 0 0, 3, 0), (base, entry 0x20 0 0 262145 0, 3, 0), (base, entry 0x20 131071 0 2 0, 3, 0),
        (base, entry 0x20 0 131071 2 0, 3, 0), (closed0, entry 0x20 63 64 1 0, 8, 0), (closed0, entry 0x20 64 63 1 0, 8, 0)] :
          List Case),
      commandDue (issued x.1 x.2.1) x.2.1 0x20 ∧ comesTo .copy x = true) ∧
      (∀ x ∈ ([(base, entry 0x21 0 0 1 1, 3, 0), (base, entry 0x21 1 131072 1 1, 3, 0), (closed0, entry 0x21 63 1 1 1, 8, 0)] :
          List Case),
        commandDue (issued x.1 x.2.1) x.2.1 0x21 ∧ comesTo .fill x = true) ∧
      (∀ x ∈ ([(claimed, entry 0x22 64 0 0 0, 3, 0), (claimed, entry 0x22 63 0 0 0, 4, 0),
          (claimed.updSlot 9 fun r => { r with length := 0 }, entry 0x22 9 0 0 0, 0, 0)] : List Case),
        commandDue (issued x.1 x.2.1) x.2.1 0x22 ∧ comesTo .measure x = true) ∧
      after .copy (issued base (entry 0x20 0 99 100 0)) (fun t =>
        t.eng.descending && t.arb.grant == some ⟨.copyRead, 96, 4⟩) = true ∧
      after .copy (issued base (entry 0x20 0 100 100 0)) (fun t => !t.eng.descending) = true ∧
      after .fill (issued base (entry 0x21 0 131072 7 1)) (fun t => t.arb.grant == some ⟨.fill, 0, 8⟩) = true ∧
      after .measure (issued claimed (entry 0x22 9 0 0 0)) (fun t => t.arb.grant == some ⟨.measure, 576, 3⟩) = true := by
  simp only [commandDue]; decide +kernel

/-- A COPY of 100 words from 0 to 200 with 8 words done, in a phase. -/
def copying (phase : Phase) (held : List Word) (abort : Bool) : State :=
  { base with
    cmd := { base.cmd with queue := [entry 0x20 0 200 100 0] }
    eng := ⟨some (.copy 0 200 100), false, 8, phase, held, none, abort⟩ }

/-- No command; a command between bursts; a grant in progress, and a burst held. -/
theorem witness_EngineAbortStopsOrWaits :
    let idle := copying .readWait [] false
    let reading := granting idle ⟨.copyRead, 8, 8⟩
    let held := copying .writeWait [1, 2] false
    quiet base ∧ quiet idle ∧ quiet reading ∧ quiet held ∧ base.power ≠ .retain ∧ base.eng.cmd = none ∧
      idle.eng.cmd = some (.copy 0 200 100) ∧ idle.eng.abortPending = false ∧ idle.eng.held = [] ∧ held.eng.held ≠ [] ∧
      idle.arb.grant = none ∧
      after (.engineAbort 0) idle (fun t => result t == (11, 8) && t.eng == Engine.reset) = true ∧
      after (.engineAbort 0) reading (fun t => t.eng.abortPending && t.cmd.queue.length == 1) = true ∧
      after (.engineAbort 0) held (fun t => t.eng.abortPending) = true ∧
      after (.engineAbort 0) base (fun t => t.port.resp == .ok && t.eng == Engine.reset) = true := by
  simp only [quiet]; decide +kernel

/-! ## The Slot Manager -/

/-- A finished frame of one word in the current slot of lane 0; with the lane inspecting and STOPPING. -/
theorem witness_PublishMakesTheSlotReady :
    let l : Lane := { laneIn .ingress .running with sub := .receiving, cur := some 6, readyQ := [4] }
    let s := asking ((base.setLane 0 l).setSlot 6 { slotIn .filling (.lane 0) 6 64 with seq := 9 }) (.publish 0)
    let ending := s.setLane 0 { l with
      st := .stopping, cfg := { l.cfg with inspect := true }, inspecting := some ⟨0, 1, 0, true⟩, fifo := [inWord 1 true true] }
    let bound := s.setLane 2 { idleRunner with binding := some 0 }
    s.nextDue = some (.req (.publish 0)) ∧ (s.lane 0).cur = some 6 ∧ (s.lane 0).cfg.dir = .ingress ∧ (s.lane 0).fifo = [] ∧
      ending.nextDue = some (.req (.publish 0)) ∧ (ending.lane 0).st = .stopping ∧ bound.boundTo 0 = some 2 ∧
      after (.publish 0) s (fun t => (t.slot 6).st == .ready && (t.lane 0).readyQ == [4, 6] && (t.lane 0).sub == .idle &&
        (t.log.records.getLast?.map fun r => r.ev.detail) == some (BitVec.ofNat 32 (9 + 65536 * 63))) = true ∧
      after (.publish 0) ending (fun t => (t.slot 6).stats == some ⟨0xFFFFFFFF, 1, 0, false⟩ && (t.lane 0).st == .stopped &&
        (t.lane 0).fifo == []) = true ∧
      raised (.publish 0) ending [.framePublished, .laneStopped] = true ∧
      after (.publish 0) bound (fun t => t.outstanding (.take 2)) = true := by decide +kernel

/-- A publish with the next frame's SOF and a stray word before it still in the FIFO: the stray is counted, the frame begun. -/
theorem witness_PublishMakesTheSlotReady_goes_on :
    let l : Lane := { laneIn .ingress .running with
      sub := .receiving, cur := some 6, nextSeq := 10, fifo := [inWord 7 false false, inWord 8 true false] }
    let s := asking ((base.setLane 0 l).setSlot 6 { slotIn .filling (.lane 0) 6 3 with seq := 9 }) (.publish 0)
    s.nextDue = some (.req (.publish 0)) ∧ (s.lane 0).st ≠ .stopping ∧
      after (.publish 0) s (fun t => (t.lane 0).counters.strayWords == 1 && (t.lane 0).frameSeq == 10 &&
        (t.lane 0).nextSeq == 11 && t.outstanding (.allocate 0)) = true := by decide +kernel

/-- An egress lane 1 whose take is outstanding; slots 9, 10 and 11 as in `lingering`. -/
def taking (f : Lane → Lane) : State :=
  asking ((lingering.setLane 0 { laneIn .ingress .running with readyQ := [12] }).setLane 1
    (f { idleRunner with sub := .taking, submitQ := [9], binding := some 0, linger := some 11 })) (.take 1)

/-- A submitted slot, a ready one, the lingering one, and none, with each policy and in safe mode. -/
theorem witness_TakeChoosesTheSource :
    let idle (p : EgressPolicy) : State :=
      taking fun l => { l with submitQ := [], binding := none, linger := none, cfg := { l.cfg with egPolicy := p } }
    let again := (taking fun l => { l with submitQ := [], cfg := { l.cfg with egPolicy := .repeatLast } }).setLane 0
      (laneIn .ingress .running)
    let safe : State := { taking id with sup := { base.sup with safeMode := true, safeFill := true } }
    (taking id).nextDue = some (.req (.take 1)) ∧ again.nextDue = some (.req (.take 1)) ∧ safe.nextDue = some (.req (.take 1)) ∧
      (∀ p ∈ [EgressPolicy.idle, .repeatLast, .emitFill], (idle p).nextDue = some (.req (.take 1))) ∧
      after (.take 1) (taking id) (fun t => (t.lane 1).cur == some 9 && (t.slot 9).st == .draining) = true ∧
      after (.take 1) (taking fun l => { l with submitQ := [] }) (fun t =>
        (t.lane 1).cur == some 12 && (t.lane 0).readyQ == []) = true ∧
      after (.take 1) again (fun t => (t.lane 1).cur == some 11 && (t.slot 11).repeats == 1 && (t.slot 11).flags.repeated) =
        true ∧
      after (.take 1) (idle .emitFill) (fun t => (t.lane 1).sub == .sendingFill) = true ∧
      after (.take 1) (idle .repeatLast) (fun t => (t.lane 1).sub == .idle) = true ∧
      after (.take 1) safe (fun t => (t.lane 1).sub == .sendingFill && (t.lane 1).submitQ == [9]) = true := by decide +kernel

/-- Lane 1 has sent the whole of slot 9; slot 11 lingers, with ECC_BAD set. -/
def returning (f : Lane → Lane) : State :=
  asking ((lingering.setLane 1 (f { idleRunner with sub := .closing, cur := some 9, sent := 1, frameLen := 1 })).updSlot 9
    fun r => { r with st := .draining, stats := some ⟨5, 0, 0, false⟩ }) (.ret 1)

/-- The slot lingers, over nothing and over a bad slot; it is returned, sound and bad; its check fails. -/
theorem witness_ReturnDisposesOfTheSlot :
    let repeating (j : Option SlotId) : State :=
      returning fun l => { l with cfg := { l.cfg with egPolicy := .repeatLast }, linger := j }
    let bad := (returning id).updSlot 9 fun r => { r with flags := { r.flags with eccBad := true } }
    let checked := returning fun l => { l with checking := some 0 }
    (∀ s ∈ [repeating none, repeating (some 11), returning id, bad, checked],
      s.nextDue = some (.req (.ret 1)) ∧ (s.lane 1).cur = some 9 ∧ (s.lane 1).cfg.dir = .egress) ∧
      after (.ret 1) (repeating none) (fun t => (t.lane 1).linger == some 9 && (t.slot 9).st == .linger) = true ∧
      after (.ret 1) (repeating (some 11)) (fun t => (t.lane 1).linger == some 9 && (t.slot 11).st == .quarantined) = true ∧
      after (.ret 1) (returning id) (fun t => t.hostFree == [9] && t.outstanding (.take 1) && (t.lane 1).cur == none) = true ∧
      after (.ret 1) bad (fun t => (t.slot 9).st == .quarantined && t.hostFree == []) = true ∧
      raised (.ret 1) checked [.crcMismatch, .frameSent] = true := by decide +kernel

/-- Lane 0 asks for a slot, its SOF entry at the head; it has ready slots 4 (bad) and 6 of `ready46`. -/
def allocating (f : Lane → Lane) : State :=
  asking (ready46.setLane 0 (f { laneIn .ingress .running with
    frameSeq := 0xFFFF, frameStamp := 77, fifo := [inWord 1 true false], freeList := [9] })) (.allocate 0)

/-- A free slot; the reuse of a sound ready slot; STALL, for the first and the second time; and the drops. -/
theorem witness_AllocateFillsStallsOrDrops :
    let none_ (p : IngressPolicy) (q : List SlotId) (sub : Substate) : State :=
      allocating fun l => { l with freeList := [], readyQ := q, sub := sub, cfg := { l.cfg with inPolicy := p } }
    (∀ s ∈ [allocating id, none_ .overwriteOldest [6] .idle, none_ .stall [] .idle, none_ .stall [] .stalled,
        none_ .dropNew [6] .idle, none_ .overwriteOldest [4, 6] .idle],
      s.nextDue = some (.req (.allocate 0)) ∧ (s.lane 0).cfg.dir = .ingress ∧
        (s.lane 0).fifo = inWord 1 true false :: []) ∧
      0 < ((allocating id).slot 9).capacity ∧
      after (.allocate 0) (allocating id) (fun t =>
        (t.lane 0).cur == some 9 && (t.slot 9).seq == 0xFFFF && (t.slot 9).stamp == 77 && (t.slot 9).length == 0) = true ∧
      after (.allocate 0) (none_ .overwriteOldest [6] .idle) (fun t =>
        (t.lane 0).cur == some 6 && (t.lane 0).counters.overwritten == 1) = true ∧
      raised (.allocate 0) (none_ .stall [] .idle) [.slotStarved] = true ∧
      raised (.allocate 0) (none_ .stall [] .stalled) [] = true ∧
      raised (.allocate 0) (none_ .overwriteOldest [4, 6] .idle) [.frameDropped] = true ∧
      after (.allocate 0) (none_ .dropNew [6] .idle) (fun t =>
        (t.lane 0).sub == .discarding && (t.lane 0).counters.dropped == 1) = true := by decide +kernel

/-- A STOPPING lane under STALL that finds no slot stops, its frame dropped (R86). -/
theorem witness_AllocateFillsStallsOrDrops_stops :
    let s (sub : Substate) := allocating fun l => { l with
      freeList := [], st := .stopping, sub := sub, cfg := { l.cfg with inPolicy := .stall } }
    (s .idle).nextDue = some (.req (.allocate 0)) ∧ ((s .idle).lane 0).st = .stopping ∧
      raised (.allocate 0) (s .idle) [.frameDropped, .slotStarved, .laneStopped] = true ∧
      raised (.allocate 0) (s .stalled) [.frameDropped, .laneStopped] = true ∧
      after (.allocate 0) (s .idle) (fun t =>
        (t.lane 0).st == .stopped && (t.lane 0).counters.dropped == 1 && (t.lane 0).fifo == []) = true := by decide +kernel

/-- A drop with the rest of the frame and the next one's SOF behind it. -/
theorem witness_AllocateFillsStallsOrDrops_goes_on :
    let s := allocating fun l => { l with
      freeList := [], fifo := [inWord 1 true false, inWord 2 false true, inWord 3 false false, inWord 4 true true]
      strayArmed := true }
    s.nextDue = some (.req (.allocate 0)) ∧
      raised (.allocate 0) s [.frameDropped, .strayWords] = true ∧
      after (.allocate 0) s (fun t => (t.lane 0).fifo == [inWord 4 true true] && t.outstanding (.allocate 0)) = true := by
  decide +kernel

/-! ## Reads -/

/-- Data bits 0 and 31 and check bits 32 and 38: one flip is put right, two are not, and check bits leave the data alone. -/
theorem witness_ReadOutcomesFollowTheFlips :
    (⟨5, 1⟩ : Cell).delivered = 5 ∧ (⟨5, 1#39 <<< 38⟩ : Cell).outcome = .corrected ∧
      (⟨5, 1#39 <<< 31 ||| 1⟩ : Cell).outcome = .uncorrectable ∧ (⟨5, 1#39 <<< 31 ||| 1⟩ : Cell).delivered = 0x80000004 ∧
      (⟨5, 3#39 <<< 37⟩ : Cell).outcome = .uncorrectable ∧ (⟨5, 3#39 <<< 37⟩ : Cell).delivered = 5 := by decide

/-- A corrected word at the last address of slot 9, which is FREE, and an uncorrectable one beside it. -/
theorem witness_ReadsAreCountedMarkedAndReported :
    let s := ready46
    let t := s.eccReport .scrubber [⟨639, .corrected, 0⟩, ⟨576, .uncorrectable, 0⟩, ⟨640, .uncorrectable, 0⟩]
    s.ecc.reportArmed = true ∧ t.ecc.corrCount = 1 ∧ t.ecc.uncorrCount = 2 ∧ t.ecc.last = ⟨true, 640, .scrubber⟩ ∧
      (t.slot 9).st = .quarantined ∧ t.hostFree = [] ∧ (t.slot 9).flags.eccFixed = true ∧
      t.log.records.map (fun r => r.ev.kind) = [.resetRecord, .eccCorrected, .eccUncorrectable] ∧
      (t.log.records.getLast?.map fun r => r.ev.detail) = some (BitVec.ofNat 32 (576 + 1048576 * 2)) := by decide +kernel

/-! ## Grant ends -/

/-- A run of two with the EOF behind it: the words reach memory and the publish is requested; a LOSS marker in the run. -/
theorem witness_IngressGrantWritesTheFrame :
    let s := granting filling ⟨.ingress 0, 387, 2⟩
    let lossy := s.updLane 0 fun l => { l with fifo := [inWord 1 false false, { inWord 2 false true with loss := true }] }
    calm s ∧ calm lossy ∧ Memory.wf s.mem = true ∧ s.arb.grant = some ⟨.ingress 0, 387, 2⟩ ∧ 387 + 2 ≤ s.memWords ∧ (s.lane 0).cfg.dir = .ingress ∧
      (s.lane 0).cur = some 6 ∧ 2 ≤ (s.lane 0).fifo.length ∧
      after .ingressGrantEnd s (fun t =>
        t.mem == [(387, ⟨1, 0⟩), (388, ⟨2, 0⟩)] && (t.slot 6).length == 5 && t.outstanding (.publish 0)) = true ∧
      raised .ingressGrantEnd lossy [.wordsLost] = true := by simp only [calm]; decide +kernel

/-- A run without an EOF: it leaves an entry that a grant will write; it leaves an SOF that cuts the frame; and a LANE_HALT waits
for its end. -/
theorem witness_IngressGrantWritesTheFrame_without_eof :
    let s (next : FifoEntry) : State := granting ((base.setLane 0 { laneIn .ingress .running with
      sub := .receiving, cur := some 6, fifo := [inWord 1 false false, next], inspecting := some ⟨0, 0, 0, false⟩ }).setSlot 6
      { slotIn .filling (.lane 0) 6 3 with seq := 9 }) ⟨.ingress 0, 387, 1⟩
    let halting : State := { s (inWord 2 false false) with
      cmd := { base.cmd with queue := [entry 0x12 0 0 0 0], haltDeferred := true } }
    (∀ x ∈ [s (inWord 2 false false), s (inWord 2 true false), halting],
      calm x ∧ Memory.wf x.mem = true ∧ x.arb.grant = some ⟨.ingress 0, 387, 1⟩ ∧ 387 + 1 ≤ x.memWords ∧
        (x.lane 0).cfg.dir = .ingress ∧ (x.lane 0).cur = some 6 ∧ 1 ≤ (x.lane 0).fifo.length) ∧
      after .ingressGrantEnd (s (inWord 2 false false)) (fun t =>
        t.mem == [(387, ⟨1, 0⟩)] && (t.slot 6).length == 4 && (t.lane 0).fifo == [inWord 2 false false] &&
          ((t.lane 0).inspecting.map RunningStats.ones) == some 1 && t.nextDue == none) = true ∧
      after .ingressGrantEnd (s (inWord 2 true false)) (fun t =>
        (t.slot 6).flags.cut && t.outstanding (.publish 0) && (t.lane 0).fifo == [inWord 2 true false]) = true ∧
      haltWaits halting 0 ∧ after .ingressGrantEnd halting (fun t => t.nextDue == some (.req .command)) = true := by
  refine ⟨?_, by decide +kernel, by decide +kernel, ⟨rfl, entry 0x12 0 0 0 0, rfl, rfl⟩, by decide +kernel⟩
  simp only [calm]; decide +kernel

/-- The first burst of slot 6, one word of it uncorrectable. -/
theorem witness_EgressGrantFetchesTheFrame :
    calm sending ∧ sending.arb.grant = some ⟨.egress 1, 384, 8⟩ ∧ 384 + 8 ≤ sending.memWords ∧
      after (.egressGrantEnd [⟨385, 3⟩]) sending (fun t =>
        (t.lane 1).fetched == 8 && (t.lane 1).fifo.map FifoEntry.err ==
          [false, true, false, false, false, false, false, false] && (t.slot 6).flags.eccBad &&
          t.arb.grant == some ⟨.egress 1, 392, 2⟩) = true := by simp only [calm]; decide +kernel

/-- A LANE_HALT of the lane waits for the end of its grant (R115): it is due there, and the lane asks for nothing more. -/
theorem witness_EgressGrantFetchesTheFrame_halt :
    let s : State := { sending with cmd := { base.cmd with queue := [entry 0x12 1 0 0 0], haltDeferred := true } }
    calm s ∧ s.arb.grant = some ⟨.egress 1, 384, 8⟩ ∧ haltWaits s 1 ∧
      after (.egressGrantEnd []) s (fun t => t.nextDue == some (.req .command) && t.arb.grant == none) = true := by
  refine ⟨by simp only [calm]; decide +kernel, by decide +kernel, ⟨rfl, entry 0x12 1 0 0 0, rfl, rfl⟩, by decide +kernel⟩

/-- The window writes at the last word of memory, with nothing waiting, with a write, and with a read waiting for the drain, to
open and closed words; and reads, clean and uncorrectable. -/
theorem witness_WindowGrantsWriteAndRead :
    let s (b : State) : State := granting { b with win := { b.win with buffer := [(131071, 9)] } } ⟨.winWrite, 131071, 1⟩
    let write (b : State) : State := waiting (s b) (.winWrite .a 4)
    let read (b : State) : State :=
      { waiting (s b) (.winRead .b) with win := { (s b).win with stage := .awaitDrain .b } }
    let more : State := { read base with win := { (read base).win with buffer := [(131071, 9), (5, 1)] } }
    let granted : State := { granting base ⟨.winRead, 0, 1⟩ with win := { base.win with stage := .granted .a, strideA := 1 } }
    (∀ x ∈ [s base, write base, write closed0, read base, read closed0, more],
      calm x ∧ Memory.wf x.mem = true ∧ x.arb.grant = some ⟨.winWrite, 131071, 1⟩ ∧ 131071 + 1 ≤ x.memWords ∧ 1 ≤ x.win.buffer.length) ∧
      base.hostAccessible 0 = true ∧ closed0.hostAccessible 0 = false ∧
      after .windowWriteGrantEnd (s base) (fun t => t.mem == [(131071, ⟨9, 0⟩)] && t.win.buffer == []) = true ∧
      after .windowWriteGrantEnd (write base) (fun t =>
        t.port.resp == .ok && t.arb.grant == some ⟨.winWrite, 0, 1⟩) = true ∧
      after .windowWriteGrantEnd (write closed0) (fun t => t.port.err.reason == some .denied && t.port.err.addr == 0x12) = true ∧
      after .windowWriteGrantEnd (read base) (fun t => t.win.stage == .granted .b) = true ∧
      after .windowWriteGrantEnd (read closed0) (fun t => t.port.err.reason == some .denied && t.port.err.addr == 0x15) = true ∧
      after .windowWriteGrantEnd more (fun t => t.win.stage == .awaitDrain .b && t.arb.grant == some ⟨.winWrite, 5, 1⟩) = true ∧
      calm granted ∧ granted.arb.grant = some ⟨.winRead, 0, 1⟩ ∧ granted.win.stage = .granted .a ∧
      after (.windowReadGrantEnd [⟨0, 1⟩]) granted (fun t =>
        t.port.rdata == some 0 && t.port.resp == .ok && t.win.ptrA == 1 && t.ecc.corrCount == 1) = true ∧
      after (.windowReadGrantEnd [⟨0, 3⟩]) granted (fun t =>
        t.port.err.reason == some .ecc && t.win.ptrA == 0 && t.ecc.uncorrCount == 1) = true := by
  simp only [calm]; decide +kernel

/-- A COPY's read and write grants, and a FILL's, in the middle, at the end and with an abort pending. -/
theorem witness_CopyAndFillGrants :
    let readState := granting (copying .readWait [] false) ⟨.copyRead, 8, 8⟩
    let writeState (abort : Bool) : State := granting (copying .writeWait [1, 2] abort) ⟨.copyWrite, 208, 2⟩
    let last : State := { writeState false with
      eng := ⟨some (.copy 0 200 10), false, 8, .writeWait, [1, 2], none, false⟩ }
    let fill (done : Nat) : State := { granting (copying .writeWait [] false) ⟨.fill, 500, 2⟩ with
      eng := ⟨some (.fill 490 12 7 3), false, done, .writeWait, [], none, false⟩ }
    (∀ s ∈ [readState, writeState false, writeState true, last, fill 10, fill 2],
      calm s ∧ Memory.wf s.mem = true ∧ s.cmd.queue = [entry 0x20 0 200 100 0]) ∧
      after (.copyReadGrantEnd []) readState (fun t =>
        t.eng.held == List.replicate 8 0 && t.arb.grant == some ⟨.copyWrite, 208, 8⟩) = true ∧
      after (.copyReadGrantEnd [⟨9, 3⟩, ⟨10, 3⟩]) readState (fun t => result t == (10, 9) && t.cmd.queue == []) = true ∧
      after .copyWriteGrantEnd (writeState false) (fun t =>
        t.mem == [(208, ⟨1, 0⟩), (209, ⟨2, 0⟩)] && t.eng.wordsDone == 10 && t.arb.grant == some ⟨.copyRead, 10, 8⟩) = true ∧
      after .copyWriteGrantEnd (writeState true) (fun t => result t == (11, 10)) = true ∧
      after .copyWriteGrantEnd last (fun t => result t == (0, 10)) = true ∧
      after .fillGrantEnd (fill 10) (fun t => result t == (0, 12) && t.mem == [(500, ⟨37, 0⟩), (501, ⟨40, 0⟩)]) = true ∧
      after .fillGrantEnd (fill 2) (fun t => t.eng.wordsDone == 4 && t.arb.grant == some ⟨.fill, 494, 8⟩) = true := by
  simp only [calm]; decide +kernel

/-- A MEASURE of slot 9 (3 words): the end, an uncorrectable word, and an abort and a next burst in a longer slot. -/
theorem witness_MeasureGrants :
    let s (length : Nat) (abort : Bool) : State :=
      { granting (claimed.updSlot 9 fun r => { r with length := length }) ⟨.measure, 576, 3⟩ with
        cmd := { base.cmd with queue := [entry 0x22 9 0 0 0] }
        eng := ⟨some (.measure 9), false, 0, .readWait, [], some ⟨0xFFFFFFFF, 0, 0, false⟩, abort⟩ }
    (∀ x ∈ [s 3 false, s 4 false, s 4 true],
      calm x ∧ x.arb.grant = some ⟨.measure, 576, 3⟩ ∧ x.eng.cmd = some (.measure 9) ∧
        x.eng.stats = some ⟨0xFFFFFFFF, 0, 0, false⟩ ∧ x.cmd.queue = [entry 0x22 9 0 0 0] ∧ 576 + 3 ≤ x.memWords) ∧
      after (.measureGrantEnd []) (s 3 false) (fun t =>
        result t == (0, 3) && (t.slot 9).stats.map Stats.allZero == some true &&
          (t.slot 9).stats.map Stats.leadZeros == some 96) = true ∧
      after (.measureGrantEnd [⟨578, 3⟩]) (s 3 true) (fun t =>
        result t == (10, 578) && (t.slot 9).stats == none && (t.slot 9).flags.eccBad) = true ∧
      after (.measureGrantEnd []) (s 4 true) (fun t => result t == (11, 3)) = true ∧
      after (.measureGrantEnd []) (s 4 false) (fun t => t.arb.grant == some ⟨.measure, 579, 1⟩) = true := by
  simp only [calm]; decide +kernel

/-- The last burst of a pass, with a corrected word, written back, and an uncorrectable one; N = 0; a RETAIN request that waits;
an interval at N; and the end of the init sweep. -/
theorem witness_ScrubberAndSweepGoOn :
    let s : State := { granting base ⟨.scrub, 131064, 8⟩ with scrub := ⟨true, 0, true, 131064, 5, false, 1, 0⟩ }
    let retain : State := { waiting s .retain with scrub := { s.scrub with n := 1 } }
    let due (interval : BitVec 16) : State := asking { base with scrub := ⟨true, 3, false, 0, interval, false, 0, 0⟩ } .scrubRequest
    calm s ∧ calm retain ∧ s.arb.grant = some ⟨.scrub, 131064, 8⟩ ∧ 131064 + 8 ≤ s.memWords ∧ s.port.waiting ≠ some .retain ∧
      retain.port.waiting = some .retain ∧ (due 3).nextDue = some (.req .scrubRequest) ∧ calm State.reset ∧
      State.reset.sweep.running = true ∧
      after (.scrubGrantEnd [⟨131071, 1⟩, ⟨131070, 3⟩]) s (fun t =>
        t.mem == [(131070, ⟨0, 3⟩)] && t.scrub.pos == 0 && t.arb.grant == some ⟨.scrub, 0, 8⟩ &&
          (t.log.records.getLast?.map fun r => (r.ev.kind, r.ev.detail)) == some (.scrubPass, 0x00010002)) = true ∧
      after (.scrubGrantEnd []) retain (fun t => t.power == .retain && t.port.resp == .ok && t.arb.grant == none) = true ∧
      after .scrubRequest (due 3) (fun t => t.arb.grant == some ⟨.scrub, 0, 8⟩) = true ∧
      after .scrubRequest (due 2) (fun t => t.arb.grant == none) = true ∧
      after .initDone State.reset (fun t => t.sweep == ⟨false, 0, true⟩ && t.irq.flags == 32) = true ∧
      after .initDone { State.reset with scrub := ⟨true, 0, false, 0, 0, false, 0, 0⟩ } (fun t =>
        t.arb.grant == some ⟨.scrub, 0, 8⟩) = true := by
  simp only [calm]; decide +kernel

/-! ## Streams -/

/-- Lane 0 as it receives, IDLE, or with a FIFO of 32 words. -/
def receiver (f : Lane → Lane) : State := base.setLane 0 (f (laneIn .ingress .running))

/-- A word to an OFF lane, to a lane that is not ready, to a full FIFO, behind an entry that a grant will write, an SOF word
and a stray to an idle lane. -/
theorem witness_ArrivingWords :
    let full := receiver fun l => { l with sub := .stalled, fifo := List.replicate 32 (inWord 1 false false) }
    let held := receiver fun l => { l with
      sub := .stalled, fifo := List.replicate 32 (inWord 1 false false), cfg := { l.cfg with backpressure := true } }
    let armed := receiver fun l => { l with strayArmed := true, nextSeq := 0xFFFF }
    (∀ s ∈ [base, full, held, filling, armed], calm s) ∧
      after (.wordArrival 1 5 true false) base (fun t => t.lanes == base.lanes) = true ∧
      after (.wordArrival 0 5 true false) held (fun t => t.lanes == held.lanes) = true ∧
      after (.wordArrival 0 5 true false) full (fun t => (t.lane 0).lossPending && (t.lane 0).counters.wordsLost == 1) = true ∧
      (filling.lane 0).sub = .receiving ∧ (filling.lane 0).cur = some 6 ∧
      (filling.slot 6).length < (filling.slot 6).capacity ∧ (filling.lane 0).fifo ≠ [] ∧
      after (.wordArrival 0 5 false false) filling (fun t => (t.lane 0).fifo.length == 3) = true ∧
      (armed.lane 0).sub = .idle ∧ (armed.lane 0).cur = none ∧ (armed.lane 0).fifo = [] ∧
      after (.wordArrival 0 5 true true) armed (fun t =>
        (t.lane 0).frameSeq == 0xFFFF && (t.lane 0).nextSeq == 0 && t.outstanding (.allocate 0)) = true ∧
      after (.wordArrival 0 5 false true) armed (fun t =>
        (t.lane 0).fifo == [] && (t.lane 0).counters.strayWords == 1 && !(t.lane 0).strayArmed) = true ∧
      raised (.wordArrival 0 5 false true) armed [.strayWords] = true := by simp only [calm]; decide +kernel

/-- Ln_READY (R81, R82): of a STOPPED lane in both modes, of a lane that moves with 31 and with 32 words, and of an OFF lane. -/
theorem witness_ArrivingWords_ready :
    let ready (back : Bool) (st : LaneSt) (k : Nat) : Option Bool :=
      ((receiver fun l => { l with
        st := st, fifo := List.replicate k (inWord 1 false false), cfg := { l.cfg with backpressure := back } }).streamOut 0).ready
    ready false .stopped 0 = some true ∧ ready false .running 32 = some true ∧ ready true .stopped 0 = some false ∧
      ready true .stopping 31 = some true ∧ ready true .running 32 = some false ∧ (base.streamOut 1).ready = some false := by
  decide +kernel

/-- The head of lane 0's FIFO, by substate, marker and slot: a stop, a frame begun, a stray; a cut; an entry that a grant will
write; a truncation; the discarding of a frame with a slot and without one. -/
theorem witness_ArrivingWords_heads :
    let s (sub : Substate) (st : LaneSt) (cur : Option SlotId) (length : Nat) (h : FifoEntry) : State :=
      (base.setLane 0 { laneIn .ingress st with sub := sub, cur := cur, fifo := [h, inWord 9 false false] }).setSlot 6
        { slotIn .filling (.lane 0) 6 length with seq := 3 }
    let head (sub : Substate) (st : LaneSt) (cur : Option SlotId) (length : Nat) (h : FifoEntry) (p : State → Bool) : Bool :=
      ((s sub st cur length h).handleHead .asking 0).any p
    let w := inWord 1 false false
    let sofW := inWord 1 true false
    let eofW := inWord 1 false true
    let lost : FifoEntry := { sofW with loss := true }
    head .idle .stopping none 0 sofW (fun t => (t.lane 0).st == .stopped && (t.lane 0).fifo == []) = true ∧
      head .idle .running none 0 lost (fun t => (t.lane 0).nextSeq == 1 && t.outstanding (.allocate 0)) = true ∧
      head .idle .running none 0 eofW (fun t => (t.lane 0).counters.strayWords == 1 && (t.lane 0).fifo.length == 1) = true ∧
      head .receiving .running (some 6) 5 lost (fun t => (t.slot 6).flags.cut && (t.slot 6).flags.wordsLost &&
        t.outstanding (.publish 0) && (t.lane 0).fifo.length == 2) = true ∧
      (s .receiving .running (some 6) 63 w).handleHead .asking 0 = none ∧
      head .receiving .running (some 6) 64 w (fun t => (t.slot 6).flags.truncated && (t.lane 0).sub == .discarding) = true ∧
      head .receiving .stopping (some 6) 64 eofW (fun t => (t.slot 6).flags.truncated && t.outstanding (.publish 0)) = true ∧
      head .discarding .running (some 6) 64 eofW (fun t => (t.lane 0).fifo.length == 1 && t.outstanding (.publish 0)) = true ∧
      head .discarding .running (some 6) 64 sofW (fun t => (t.slot 6).flags.cut && t.outstanding (.publish 0)) = true ∧
      head .discarding .running none 0 sofW (fun t => (t.lane 0).sub == .idle && (t.lane 0).fifo.length == 2) = true ∧
      head .discarding .running none 0 eofW (fun t => (t.lane 0).sub == .idle && (t.lane 0).fifo.length == 1) = true ∧
      head .discarding .stopping none 0 eofW (fun t => (t.lane 0).st == .stopped) = true ∧
      (s .stalled .running none 0 sofW).handleHead .asking 0 = none := by decide +kernel

/-- Lane 1 as it sends. -/
def sends (f : Lane → Lane) : State := base.setLane 1 (f { sender with frameLen := 2, fetched := 2, sent := 1 })

/-- Nothing offered; the last word of a frame, with ERR; a fill word and the last one; edges that start a take, are missed, and
have no effect. -/
theorem witness_SendingAndTriggers :
    let last := sends fun l => { l with fifo := [⟨5, false, false, false, false, true, 0⟩] }
    let fill (n : Nat) (st : LaneSt) : State :=
      sends fun l => { l with sub := .sendingFill, fillLen := 0xFFFF, fillSent := n, st := st, cur := none }
    let triggered (sub : Substate) : State :=
      sends fun l => { l with sub := sub, cur := none, cfg := { l.cfg with triggered := true } }
    (∀ s ∈ [base, sends id, last, fill 0 .running, fill 65535 .running, fill 65535 .stopping, triggered .idle,
      triggered .sending], calm s) ∧
      after (.wordSent 1) (sends id) (fun t => t.lanes == (sends id).lanes) = true ∧
      after (.wordSent 1) last (fun t =>
        (t.lane 1).sub == .closing && (t.lane 1).counters.eccWords == 1 && t.outstanding (.ret 1)) = true ∧
      after (.wordSent 1) (fill 0 .running) (fun t => (t.lane 1).fillSent == 1) = true ∧
      after (.wordSent 1) (fill 65535 .running) (fun t =>
        (t.lane 1).counters.fills == 1 && (t.lane 1).sub == .taking && t.outstanding (.take 1)) = true ∧
      raised (.wordSent 1) (fill 65535 .stopping) [.fillSent, .laneStopped] = true ∧
      after (.triggerEdge 1 true) (triggered .idle) (fun t => (t.lane 1).sub == .taking && t.outstanding (.take 1)) = true ∧
      raised (.triggerEdge 1 true) (triggered .sending) [.triggerMissed] = true ∧
      after (.triggerEdge 1 true) base (fun t => (t.lane 1).trig && t.irq.flags == 0) = true := by
  simp only [calm]; decide +kernel

/-- What a lane drives: the last word of a frame, with ERR; the first fill word; nothing to offer; and STOPPED (R100). -/
theorem witness_SendingAndTriggers_outputs :
    let last := sends fun l => { l with fifo := [⟨5, false, false, false, false, true, 0⟩] }
    let fill := sends fun l => { l with sub := .sendingFill, fillLen := 0, fillWord := 7, cur := none }
    last.streamOut 1 = ⟨none, some true, some false, some true, some true, some 5⟩ ∧
      fill.streamOut 1 = ⟨none, some true, some true, some true, some false, some 7⟩ ∧
      ((sends id).streamOut 1).valid = some false ∧
      (base.setLane 1 (laneIn .egress .stopped)).streamOut 1 = ⟨none, some false, some false, some false, some false, some 0⟩ := by
  decide +kernel

/-! ## Resets -/

/-- Power-on with SUPEN high; RSTN falls in a window write, one of whose two words has been accessed, and in a sweep; it rises. -/
theorem witness_PowerOnAndPinReset :
    let writing : State :=
      { granting locked ⟨.winWrite, 7, 2⟩ with win := { base.win with buffer := [(7, 1), (8, 2)] }, tb := ⟨99, 0, 1⟩ }
    let held : State := { base with rst := { base.rst with pinHeld := true, cause := .pin, supCount := 3 } }
    writing.port.askedFor = none ∧ writing.rst.pinHeld = false ∧
      (∀ g, writing.arb.grant = some g → g.addr + g.count ≤ writing.memWords) ∧ held.rst.pinHeld = true ∧
      held.port.askedFor = none ∧
      after (.powerOnReset true) writing (fun t => t.sup.st == .running && t.mem == [] && t.sweep == ⟨true, 0, false⟩) = true ∧
      after (.pinReset 1) writing (fun t =>
        t.mem == [(7, ⟨1, 0⟩)] && t.rst.pinHeld && !t.port.lock && t.tb.count == 0 && t.sweep.initialized) = true ∧
      after (.pinReset 0) State.reset (fun t => t.sweep == ⟨true, 0, false⟩) = true ∧
      after (.rstnRelease true) held (fun t =>
        !t.rst.pinHeld && t.sup.st == .running && t.log.records == [resetRecord 2 3 0]) = true := by
  refine ⟨by decide +kernel, by decide +kernel, ?_, by decide +kernel, by decide +kernel, by decide +kernel, by decide +kernel,
    by decide +kernel, by decide +kernel⟩
  intro g hg
  obtain rfl : (⟨.winWrite, 7, 2⟩ : Grant) = g := by simpa [granting] using hg
  decide +kernel

/-- A Scrubber grant cut after one of its words: that one is written back, the next is left as it was (R45). -/
theorem witness_PowerOnAndPinReset_scrubber :
    let s : State := { granting base ⟨.scrub, 8, 8⟩ with mem := [(8, ⟨5, 1⟩), (9, ⟨6, 1⟩)] }
    s.rst.pinHeld = false ∧ Memory.wf s.mem = true ∧
      after (.pinReset 1) s (fun t => t.mem == [(8, ⟨5, 0⟩), (9, ⟨6, 1⟩)]) = true := by decide +kernel

/-- A soft and a supervisor reset, both due, alone, and over a transaction that waits; the count at its maximum. -/
theorem witness_SupervisorAndSoftReset :
    let soft : State := { locked with rst := ⟨.por, 255, false, false, true⟩, sup := ⟨.armed, 7, 5, true, 3, .safeEgress, true, 4⟩ }
    let both : State := { soft with rst := { soft.rst with supDue := true } }
    (∀ s ∈ [soft, both, waiting both (.winRead .a)], s.nextDue = some .reset ∧ s.port.askedFor = none) ∧
      both.port.waiting = none ∧
      after .softReset soft (fun t =>
        t.sup == { soft.sup with warn := 0, action := .eventOnly, safeFill := false, timeout := 1000 } && t.port.lock) = true ∧
      after .supervisorReset both (fun t =>
        t.rst == ⟨.sup, 255, false, false, false⟩ && t.sup.counter == 0 && !t.sup.safeMode) = true ∧
      after .supervisorReset (waiting both (.winRead .a)) (fun t =>
        t.port.err == ⟨some .reset, 0x12, false, false, 1⟩ && t.irq.flags == 64) = true := by decide +kernel

/-- A request held asserted through each reset: a write of HOST_STALL_LIMIT and a read of an unmapped address are accepted as it
completes (R8). -/
theorem witness_resets_accept_the_request_held :
    let held (s : State) (a : Access) : State := { s with port := { s.port with askedFor := some a } }
    let low : State := { base with rst := { base.rst with pinHeld := true, cause := .pin } }
    let due (sup : Bool) : State := { base with rst := ⟨.por, 0, false, sup, true⟩ }
    (∀ sup ∈ [true, false], (due sup).nextDue = some .reset ∧ (due sup).port.waiting = none) ∧ low.moment = Moment.empty ∧
      low.port.waiting = none ∧ low.rst.supDue = false ∧ low.rst.softDue = false ∧
      (∀ x ∈ [(Instr.powerOnReset true, base), (.rstnRelease false, low), (.supervisorReset, due true),
          (.softReset, due false)],
        after x.1 (held x.2 (wr 0x07 9)) (fun t => t.port.stallLimit == 9 && t.port.askedFor == none) = true ∧
          after x.1 (held x.2 (rd 0xFF)) (fun t => t.port.err.reason == some .badAddress && t.port.resp == .err) = true) := by
  decide +kernel

/-! ## Constant and plain registers -/

/-- Both parts, in RETAIN and in the sweep. -/
theorem witness_IdentityRegistersAreConstants :
    let big : State := { retained with part := .bso2408 }
    quiet State.reset ∧ quiet big ∧
      after (.registerRead 0x00) State.reset (fun t => t.port.rdata == some 0xB5012404) = true ∧
      after (.registerRead 0x01) big (fun t => t.port.rdata == some 0x04440000) = true ∧
      after (.registerWrite 0x01 0) big (fun t => t.port.err.reason == some .readOnly) = true := by
  simp only [quiet]; decide +kernel

/-- The last word and the first beyond it, on both parts; a stride of −128. -/
theorem witness_PointerAndStrideRegisters :
    let big : State := { base with part := .bso2408 }
    quiet base ∧ quiet big ∧ quiet retained ∧ base.power ≠ .retain ∧ retained.power = .retain ∧
      (131071 : Word).toNat < base.memWords ∧
      after (.registerRead 0x10) retained (fun t => t.port.err.reason == some .power && t.port.rdata == some 0) = true ∧
      base.memWords ≤ (131072 : Word).toNat ∧ (262143 : Word).toNat < big.memWords ∧
      after (.registerWrite 0x13 131071) base (fun t => t.win.ptrB == 131071) = true ∧
      after (.registerWrite 0x13 131072) big (fun t => t.win.ptrB == 131072) = true ∧
      after (.registerWrite 0x10 131072) base (fun t => t.port.err.reason == some .badAddress && t.win.ptrA == 0) = true ∧
      after (.registerWrite 0x14 0xFFFFFF80) base (fun t => t.win.strideB == 128 && t.port.resp == .ok) = true := by
  simp only [quiet]; decide +kernel

/-! ## Moments -/

/-- §4.11, four requests at one moment: L0's publish, L3's return and L2's take are outstanding as CMD_ISSUE brings CLAIM(0). The
command then stands before the allocate that the publish has caused. -/
theorem test_four_requests_at_one_moment :
    let s0 : State := (base.setLane 0 { laneIn .ingress .running with
      cfg := { LaneCfg.reset with dir := .ingress, inPolicy := .overwriteOldest }, sub := .receiving, cur := some 6
      readyQ := [4], fifo := [inWord 1 true false] }).setLane 2 { laneIn .egress .running with sub := .taking, binding := some 0 }
    let s1 : State := s0.setLane 3 { laneIn .egress .running with
      cfg := { LaneCfg.reset with dir := .egress, egPolicy := .repeatLast, triggered := true }, sub := .closing, cur := some 9 }
    let s : State := { ((s1.setSlot 4 (slotIn .ready (.lane 0) 4 1)).setSlot 6 (slotIn .filling (.lane 0) 6 1)).setSlot 9
      (slotIn .draining (.lane 0) 9 1) with moment := ⟨[.publish 0, .ret 3, .take 2], [], [.stream 3], false⟩ }
    after (.cmdIssue 3) s (fun t =>
      t.moment.asked == [.command] && t.moment.caused == [.allocate 0] && (t.lane 0).readyQ == [6] &&
        (t.lane 2).cur == some 4 && (t.slot 9).st == .linger && (t.lane 0).freeList == []) = true := by decide +kernel

/-- A write that comes at the present moment (R57): a snapshot goes behind the command. -/
theorem test_snapshot_joins_the_moment :
    let s : State := { base with moment := ⟨[.ret 1, .command], [.allocate 0], [.stream 1], false⟩ }
    after (.slotSelWrite 5) s (fun t =>
      t.moment.asked == [.ret 1, .command, .snapshot] && t.moment.caused == [.allocate 0]) = true := by decide +kernel

/-- A SUBMIT of slot 5 to the idle lane 3 at the moment at which the Scrubber's grant ends that has read an uncorrectable word of
that slot: the command comes first, then the mark, and the take that the command has caused stands behind both (R57). A
SLOT_SEL at such a moment leaves its snapshot behind the mark. -/
theorem test_command_mark_and_what_is_caused :
    let s : State := { granting ((base.setLane 3 idleRunner).setSlot 5 (slotIn .claimed .host 5 4)) ⟨.scrub, 320, 8⟩ with
      mem := [(320, ⟨5, 3⟩)], cmd := { base.cmd with arg0 := 5, arg1 := 3, arg2 := 4 } }
    after (.cmdIssue 6) s (fun t => after (.scrubGrantEnd []) t (fun r =>
      (r.slot 5).st == .ready && (r.slot 5).flags.eccBad && r.cmd.queue == [] && r.moment.caused == [.take 3])) = true ∧
      after (.slotSelWrite 5) s (fun t => after (.scrubGrantEnd []) t (fun r =>
        (r.slot 5).flags.eccBad && r.moment.asked == [.snapshot])) = true := by decide +kernel

/-- R105: an edge at the moment at which its lane enters STOPPED is ignored. With lane 2's return outstanding, a CMD_ISSUE of
LANE_HALT for lane 1 that comes before the edge at lane 1 leaves it uncounted; one that comes after it does so at a later moment, at
which lane 2's return has been served; a LANE_HALT of another lane comes at the same moment. -/
theorem test_edge_and_stop_at_one_moment :
    let sendingLane : Lane := { laneIn .egress .running with
      sub := .sendingFill, fillLen := 5, cfg := { LaneCfg.reset with dir := .egress, triggered := true } }
    let s : State := { ((base.setLane 1 sendingLane).setLane 2 { laneIn .egress .running with
      cfg := { LaneCfg.reset with dir := .egress, triggered := true }, sub := .closing, cur := some 9 }).setSlot 9
      (slotIn .draining .host 9 1) with moment := ⟨[.ret 2], [], [.stream 0], false⟩, cmd := { base.cmd with arg0 := 1 } }
    let missed (t : State) : Nat := (t.lane 1).counters.triggersMissed.toNat
    let other : State := { s with cmd := { s.cmd with arg0 := 3 } }
    after (.cmdIssue 0x12) s (fun t => after (.triggerEdge 1 true) t (fun r => missed r == 0 && (r.lane 1).st == .stopped)) =
        true ∧
      after (.triggerEdge 1 true) s (fun t => missed t == 1 && t.outstanding (.ret 2) &&
        after (.cmdIssue 0x12) t (fun r => !r.moment.sources.contains (.trigger 1) && !r.outstanding (.ret 2))) = true ∧
      after (.triggerEdge 1 true) other (fun t => after (.cmdIssue 0x12) t (fun r =>
        r.moment.sources.contains (.trigger 1) && r.outstanding .command)) = true := by decide +kernel

/-- R24: no two grants end at one moment, and none at a moment that began with no grant in progress. -/
theorem test_one_grant_end_at_a_moment :
    (⟨[], [], [.written 0], false⟩ : Moment).takes (.written 1) = false ∧
      (⟨[], [], [.written 0], false⟩ : Moment).takes .memory = false ∧
      (⟨[], [], [.stream 1, .noGrant], false⟩ : Moment).takes .memory = false ∧
      (⟨[], [], [.stream 1], false⟩ : Moment).takes .memory = true ∧
      (⟨[], [], [.written 0], false⟩ : Moment).takes (.stream 0) = true ∧
      (⟨[], [], [.host], false⟩ : Moment).takes .memory = true ∧
      (⟨[], [], [.host, .written 0], false⟩ : Moment).takes .memory = false ∧
      (⟨[], [], [.host], false⟩ : Moment).takes .host = false := by decide

/-! ## Values that the manual works out -/

/-- R96: the crc of one word of value 0; R97: a frame with no 1 bit has 32 leading zeros for each word. -/
theorem test_statistics_of_one_zero_word : statsOf [0] = ⟨0x38FB2284, 0, 32, true⟩ := by decide +kernel

/-- R96, R97: the statistics of no words at all. -/
theorem test_statistics_of_no_words : statsOf [] = ⟨0, 0, 0, true⟩ := by decide +kernel

/-- R97: leading zeros run on over words, and stop at the first 1 bit. -/
theorem test_leading_zeros_run_over_words : (statsOf [0, 1, 0]).leadZeros = 63 ∧ (statsOf [0, 1, 0]).ones = 1 := by
  decide +kernel

end Sys2Proof.Tests
end

section
/-! PROOFS. The pointer and stride registers of the Host Window (R121): how a quiet state answers an access that passes or fails
the checks of R3, what those checks say of WIN_PTR and WIN_STRIDE, and O60. -/

namespace Sys2Proof.Proofs

open Sys2Proof.Machine Sys2Proof.Safety Sys2Proof.Laws

/-! ## The two rows of a plain access -/

theorem exec_registerRead (addr : BitVec 8) (s : State) :
    exec (.registerRead addr) s = .next (s.hostRow ⟨addr, false, 0⟩) := rfl

theorem exec_registerWrite (addr : BitVec 8) (data : Word) (s : State) :
    exec (.registerWrite addr data) s = .next (s.hostRow ⟨addr, true, data⟩) := rfl

/-! ## Responses at a quiet port -/

/-- A quiet state as an access that it accepts finds it: at a new moment, the earlier response over (R1, R14). -/
def admitted (s : State) : State := State.accepted { s with moment := Moment.empty }

theorem admitted_frame (s : State) : unchangedBut [.port, .moment] s (admitted s) := by
  intro f hf; cases f <;> first | rfl | exact absurd (by decide) hf

theorem hostRow_failing {s : State} {a : Access} {x : Reason} (h : quiet s) (hf : s.accessFails a = some x) :
    s.hostRow a = ((admitted s).respondErr x a).arbitrate := by
  rw [hostRow_quiet h a (.inr (by simp [hf])), transact_refused (by rw [accessFails_moment, hf])]; rfl

theorem hostRow_reading {s : State} {addr : BitVec 8} {r : Reg} (h : quiet s) (hd : decodeReg addr = some r)
    (hf : s.accessFails ⟨addr, false, 0⟩ = none) :
    s.hostRow ⟨addr, false, 0⟩ = ((admitted s).readReg r).arbitrate := by
  rw [hostRow_quiet h _ (.inl rfl), transact_read (by rw [accessFails_moment, hf]) hd rfl]; rfl

theorem hostRow_writing {s : State} {addr : BitVec 8} {data : Word} {r : Reg} (h : quiet s)
    (hd : decodeReg addr = some r) (hf : s.accessFails ⟨addr, true, data⟩ = none)
    (hq : s.requestsAtOnce ⟨addr, true, data⟩ = false) :
    s.hostRow ⟨addr, true, data⟩ = ((admitted s).writeReg r data).arbitrate := by
  rw [hostRow_quiet h _ (.inl hq), transact_write (by rw [accessFails_moment, hf]) hd rfl]; rfl

/-- The detail of HOST_ERROR as the sum of its fields: none of them reaches into the next (R183). -/
theorem hostErrorDetail_eq (x : Reason) (a : Access) :
    hostErrorDetail x a = BitVec.ofNat 32 (x.code + 16 * a.addr.toNat + 4096 * a.write.toNat) := by
  have hx : x.code < 16 := by cases x <;> decide
  have ha : a.addr.toNat < 256 := a.addr.isLt
  have hw : a.write.toNat ≤ 1 := a.write.toNat_le
  have code : (placed x.code 0).toNat = x.code := by
    rw [placed_toNat] <;> omega
  have addr : (placed x.code 0 ||| placed a.addr.toNat 4).toNat = x.code + a.addr.toNat * 2 ^ 4 := by
    rw [or_placed_toNat, code] <;> omega
  apply BitVec.eq_of_toNat_eq
  rw [hostErrorDetail, flagAt, or_placed_toNat, addr, BitVec.toNat_ofNat] <;> omega

/-- Response OK to an access of `s`, after effects that reach neither the port nor the supervisor. -/
theorem respondOk_answers {s t : State} (x : Option Word) (hport : t.port = (admitted s).port) (hsup : t.sup = s.sup)
    (hmoment : t.moment = Moment.empty) : answeredOk s (t.respondOk x) x := by
  rw [respondOk_eq]
  exact ⟨by rw [hport]; rfl, congrArg counted hsup, hmoment⟩

/-- An access that fails a check of R3 ends ERR with that check's reason, and changes nothing else. -/
theorem hostRow_refused {s : State} {a : Access} {x : Reason} (h : quiet s) (hf : s.accessFails a = some x) :
    ∃ r, s.hostRow a = r.arbitrate ∧ refusedWith s r x a ∧ unchangedBut [.port, .sup, .log, .irq, .moment] s r := by
  have hdetail : (⟨.hostError, some 6, 4, none, s.tb.count, hostErrorDetail x a⟩ : Event) = hostErrorEvent s x a := by
    rw [hostErrorDetail_eq]; rfl
  refine ⟨_, hostRow_failing h hf, ?_, frame_comp (admitted_frame s) (respondErr_frame _ x a)⟩
  rw [respondErr_eq, raise_eq]
  refine ⟨rfl, rfl, ?_, rfl⟩
  rw [raises_one, ← hdetail]
  exact raise_congr _ rfl rfl rfl rfl

/-- A read that passes the checks of R3, of a register that is not a window and whose read has no effect of its own, returns the
register's value. -/
theorem hostRow_read {s : State} {addr : BitVec 8} {r : Reg} (h : quiet s) (hd : decodeReg addr = some r)
    (hf : s.accessFails ⟨addr, false, 0⟩ = none)
    (plain : ∀ t : State, t.readReg r = t.respondOk (some (t.regValue r))) :
    ∃ t, s.hostRow ⟨addr, false, 0⟩ = t.arbitrate ∧
      answeredOk s t (some ((admitted s).regValue r)) ∧ unchangedBut [.port, .sup, .moment] s t :=
  ⟨_, by rw [hostRow_reading h hd hf, plain], respondOk_answers _ rfl rfl rfl,
    frame_comp (admitted_frame s) (respondOk_frame _ _)⟩

/-- Updates the Host Window's own fields. -/
def updWin (s : State) (f : Window → Window) : State := { s with win := f s.win }

theorem updWin_frame (s : State) (g : Window → Window) : unchangedBut [.win] s (updWin s g) := by
  intro f hf; cases f <;> first | rfl | exact absurd (by decide) hf

/-- A write that passes the checks of R3, of a register whose write updates the Host Window and no more, ends OK with the Host
Window so updated. -/
theorem hostRow_writeWin {s : State} {addr : BitVec 8} {data : Word} {r : Reg} (f : Window → Window) (h : quiet s)
    (hd : decodeReg addr = some r) (hf : s.accessFails ⟨addr, true, data⟩ = none)
    (hq : s.requestsAtOnce ⟨addr, true, data⟩ = false)
    (stores : ∀ t : State, t.writeReg r data = (updWin t f).respondOk none) :
    ∃ t, s.hostRow ⟨addr, true, data⟩ = t.arbitrate ∧ answeredOk s t none ∧ t.win = f s.win ∧
      unchangedBut [.port, .sup, .moment, .win] s t :=
  ⟨(updWin (admitted s) f).respondOk none, by rw [hostRow_writing h hd hf hq, stores], respondOk_answers _ rfl rfl rfl,
    by rw [respondOk_eq]; rfl,
    frame_comp (frame_comp (hs := [.port, .moment, .win]) (admitted_frame s) (updWin_frame _ f)) (respondOk_frame _ _)⟩

/-! ## The four registers -/

/-- The address of WIN_PTR_A or WIN_PTR_B (§11.3). -/
def winPtrAddr : Ptr → BitVec 8
  | .a => 0x10
  | .b => 0x13

/-- The address of WIN_STRIDE_A or WIN_STRIDE_B (§11.3). -/
def winStrideAddr : Ptr → BitVec 8
  | .a => 0x11
  | .b => 0x14

@[simp] theorem decodeReg_winPtrAddr (p : Ptr) : decodeReg (winPtrAddr p) = some (.winPtr p) := by cases p <;> decide

@[simp] theorem decodeReg_winStrideAddr (p : Ptr) : decodeReg (winStrideAddr p) = some (.winStride p) := by
  cases p <;> decide

/-! ### The checks of R3 -/

/-- In RETAIN an access of a register that RETAIN does not leave accessible fails with POWER. -/
theorem accessFails_retain {s : State} {a : Access} {r : Reg} (hd : decodeReg a.addr = some r) (hr : r.inRetain = false)
    (hp : s.power = .retain) : s.accessFails a = some .power := by
  simp [State.accessFails, hd, hr, hp]

/-- Outside RETAIN a read passes unless the init sweep refuses it. -/
theorem accessFails_read {s : State} {addr : BitVec 8} {r : Reg} (hd : decodeReg addr = some r)
    (hi : r.initRefused false = false) (hp : s.power ≠ .retain) : s.accessFails ⟨addr, false, 0⟩ = none := by
  simp [State.accessFails, hd, hi, hp]

/-- Outside RETAIN the one check of a write of WIN_PTR is that the pointer lies in the memory. -/
theorem accessFails_winPtr_write {s : State} (p : Ptr) (data : Word) (hp : s.power ≠ .retain) :
    s.accessFails ⟨winPtrAddr p, true, data⟩ = if s.memWords ≤ data.toNat then some .badAddress else none := by
  simp [State.accessFails, hp, Reg.initRefused, Reg.readOnly, Reg.lockProtected, State.stateRefuses, State.placeRefused]

/-- Outside RETAIN no check refuses a write of WIN_STRIDE. -/
theorem accessFails_winStride_write {s : State} (p : Ptr) (data : Word) (hp : s.power ≠ .retain) :
    s.accessFails ⟨winStrideAddr p, true, data⟩ = none := by
  simp [State.accessFails, hp, Reg.initRefused, Reg.readOnly, Reg.lockProtected, State.stateRefuses, State.placeRefused]

/-! ### Values and effects -/

theorem regValue_winPtr (s : State) (p : Ptr) : s.regValue (.winPtr p) = BitVec.ofNat 32 (s.win.ptr p) := rfl

/-- A stride reads in the low 8 bits, with 0 above. -/
theorem regValue_winStride (s : State) (p : Ptr) : s.regValue (.winStride p) = (s.win.stride p).setWidth 32 := by
  simp [State.regValue, placed]

theorem requestsAtOnce_winPtr (s : State) (p : Ptr) (data : Word) :
    s.requestsAtOnce ⟨winPtrAddr p, true, data⟩ = false := by
  simp [State.requestsAtOnce]

theorem requestsAtOnce_winStride (s : State) (p : Ptr) (data : Word) :
    s.requestsAtOnce ⟨winStrideAddr p, true, data⟩ = false := by
  simp [State.requestsAtOnce]

theorem writeReg_winPtr (s : State) (p : Ptr) (data : Word) :
    s.writeReg (.winPtr p) data = (updWin s (·.setPtr p data.toNat)).respondOk none := rfl

theorem writeReg_winStride (s : State) (p : Ptr) (data : Word) :
    s.writeReg (.winStride p) data = (updWin s (·.setStride p (data.setWidth 8))).respondOk none := rfl

/-- A stride is a number from −128 to 127. -/
theorem stride_range (v : BitVec 8) : -128 ≤ v.toInt ∧ v.toInt ≤ 127 := by
  have := v.le_toInt
  have := v.toInt_lt
  omega

/-! ### The accesses -/

theorem read_winPtr {s : State} (p : Ptr) (h : quiet s) (hp : s.power ≠ .retain) :
    ∃ r, exec (.registerRead (winPtrAddr p)) s = .next r.arbitrate ∧
      answeredOk s r (some (BitVec.ofNat 32 (s.win.ptr p))) ∧ unchangedBut [.port, .sup, .moment] s r := by
  obtain ⟨r, hrow, hok, hframe⟩ :=
    hostRow_read h (decodeReg_winPtrAddr p) (accessFails_read (decodeReg_winPtrAddr p) rfl hp) fun _ => rfl
  rw [regValue_winPtr] at hok
  exact ⟨r, by rw [exec_registerRead, hrow], hok, hframe⟩

theorem read_winStride {s : State} (p : Ptr) (h : quiet s) (hp : s.power ≠ .retain) :
    ∃ r, exec (.registerRead (winStrideAddr p)) s = .next r.arbitrate ∧
      answeredOk s r (some ((s.win.stride p).setWidth 32)) ∧ unchangedBut [.port, .sup, .moment] s r := by
  obtain ⟨r, hrow, hok, hframe⟩ :=
    hostRow_read h (decodeReg_winStrideAddr p) (accessFails_read (decodeReg_winStrideAddr p) rfl hp) fun _ => rfl
  rw [regValue_winStride] at hok
  exact ⟨r, by rw [exec_registerRead, hrow], hok, hframe⟩

theorem write_winPtr {s : State} (p : Ptr) (data : Word) (h : quiet s) (hp : s.power ≠ .retain)
    (hlt : data.toNat < s.memWords) :
    ∃ r, exec (.registerWrite (winPtrAddr p) data) s = .next r.arbitrate ∧ answeredOk s r none ∧
      r.win = s.win.setPtr p data.toNat ∧ unchangedBut [.port, .sup, .moment, .win] s r := by
  have hf : s.accessFails ⟨winPtrAddr p, true, data⟩ = none := by
    rw [accessFails_winPtr_write p data hp, if_neg (by omega)]
  obtain ⟨r, hrow, hr⟩ := hostRow_writeWin _ h (decodeReg_winPtrAddr p) hf (requestsAtOnce_winPtr s p data)
    fun t => writeReg_winPtr t p data
  exact ⟨r, by rw [exec_registerWrite, hrow], hr⟩

theorem write_winPtr_beyond {s : State} (p : Ptr) (data : Word) (h : quiet s) (hp : s.power ≠ .retain)
    (hle : s.memWords ≤ data.toNat) :
    ∃ r, exec (.registerWrite (winPtrAddr p) data) s = .next r.arbitrate ∧
      refusedWith s r .badAddress ⟨winPtrAddr p, true, data⟩ ∧ unchangedBut [.port, .sup, .log, .irq, .moment] s r := by
  have hf : s.accessFails ⟨winPtrAddr p, true, data⟩ = some .badAddress := by
    rw [accessFails_winPtr_write p data hp, if_pos hle]
  obtain ⟨r, hrow, hr⟩ := hostRow_refused h hf
  exact ⟨r, by rw [exec_registerWrite, hrow], hr⟩

theorem write_winStride {s : State} (p : Ptr) (data : Word) (h : quiet s) (hp : s.power ≠ .retain) :
    ∃ r, exec (.registerWrite (winStrideAddr p) data) s = .next r.arbitrate ∧ answeredOk s r none ∧
      r.win = s.win.setStride p (data.setWidth 8) ∧ unchangedBut [.port, .sup, .moment, .win] s r := by
  obtain ⟨r, hrow, hr⟩ := hostRow_writeWin _ h (decodeReg_winStrideAddr p) (accessFails_winStride_write p data hp)
    (requestsAtOnce_winStride s p data) fun t => writeReg_winStride t p data
  exact ⟨r, by rw [exec_registerWrite, hrow], hr⟩

/-- In RETAIN a read and a write of a register that RETAIN does not leave accessible both end ERR POWER. -/
theorem access_in_retain {s : State} {addr : BitVec 8} {reg : Reg} (data : Word) (h : quiet s)
    (hd : decodeReg addr = some reg) (hr : reg.inRetain = false) (hp : s.power = .retain) :
    (∃ r, exec (.registerRead addr) s = .next r.arbitrate ∧ refusedWith s r .power ⟨addr, false, 0⟩ ∧
        unchangedBut [.port, .sup, .log, .irq, .moment] s r) ∧
      ∃ r, exec (.registerWrite addr data) s = .next r.arbitrate ∧ refusedWith s r .power ⟨addr, true, data⟩ ∧
        unchangedBut [.port, .sup, .log, .irq, .moment] s r := by
  obtain ⟨r, hread, hr₁⟩ := hostRow_refused (a := ⟨addr, false, 0⟩) h (accessFails_retain hd hr hp)
  obtain ⟨w, hwrite, hw₁⟩ := hostRow_refused (a := ⟨addr, true, data⟩) h (accessFails_retain hd hr hp)
  exact ⟨⟨r, by rw [exec_registerRead, hread], hr₁⟩, ⟨w, by rw [exec_registerWrite, hwrite], hw₁⟩⟩

/-! ## O60 -/

/-- Settles O60: outside RETAIN each access passes or fails the checks of R3 as its register's lemmas say, and in RETAIN check 2
refuses every one. -/
theorem pointerAndStrideRegisters : Obligations.PointerAndStrideRegisters := by
  unfold Obligations.PointerAndStrideRegisters
  intro ptrs strides s data p h
  have hptr : ptrs p = winPtrAddr p := by cases p <;> rfl
  have hstride : strides p = winStrideAddr p := by cases p <;> rfl
  rw [hptr, hstride]
  refine ⟨fun hp => ⟨read_winPtr p h hp, read_winStride p h hp, fun hlt => ?_, write_winPtr_beyond p data h hp, ?_⟩,
    fun hp addr haddr => ?_⟩
  · obtain ⟨r, hexec, hok, hwin, hframe⟩ := write_winPtr p data h hp hlt
    exact ⟨r, hexec, hok, by rw [hwin]; cases p <;> rfl, hframe⟩
  · obtain ⟨r, hexec, hok, hwin, hframe⟩ := write_winStride p data h hp
    obtain ⟨hlow, hhigh⟩ := stride_range (r.win.stride p)
    exact ⟨r, hexec, hok, by rw [hwin]; cases p <;> rfl, hlow, hhigh, hframe⟩
  · simp only [List.mem_cons, List.not_mem_nil, or_false] at haddr
    rcases haddr with rfl | rfl
    · exact access_in_retain data h (decodeReg_winPtrAddr p) rfl hp
    · exact access_in_retain data h (decodeReg_winStrideAddr p) rfl hp

end Sys2Proof.Proofs
end

section
/-! PROOFS. DEV_ID and DEV_CAPS (R181): no operation of the model changes the part that they name, from the shared operations up
to the rows; what the checks of R3 say of the two registers; and O59. -/

namespace Sys2Proof.Proofs

open Sys2Proof.Machine Sys2Proof.Safety Sys2Proof.Laws

/-! ## The part after a shared operation

What keeps the standing part of a state keeps the part, which is in it. -/

theorem part_of_standing {s t : State} (h : standing t = standing s) : t.part = s.part := congrArg Standing.part h

@[simp] theorem ask_part (s : State) (r : Req) : (s.ask r).part = s.part := part_of_standing (ask_standing ..)

@[simp] theorem cause_part (s : State) (r : Req) : (s.cause r).part = s.part := part_of_standing (cause_standing ..)

@[simp] theorem raise_part (s : State) (e : Event) : (s.raise e).part = s.part := part_of_standing (raise_standing ..)

@[simp] theorem raiseSup_part (s : State) (k : Kind) (d : Word) : (s.raiseSup k d).part = s.part :=
  part_of_standing (raiseSup_standing ..)

@[simp] theorem respondOk_part (s : State) (d : Option Word) : (s.respondOk d).part = s.part :=
  part_of_standing (respondOk_standing ..)

@[simp] theorem respondErr_part (s : State) (r : Reason) (a : Access) : (s.respondErr r a).part = s.part :=
  part_of_standing (respondErr_standing ..)

@[simp] theorem respondAborted_part (s : State) (a : Access) : (s.respondAborted a).part = s.part :=
  part_of_standing (respondAborted_standing ..)

@[simp] theorem arbitrate_part (s : State) : s.arbitrate.part = s.part := part_of_standing (arbitrate_standing ..)

@[simp] theorem eccReport_part (s : State) (r : Reader) (rs : List WordRead) : (s.eccReport r rs).part = s.part :=
  part_of_standing (eccReport_standing ..)

@[simp] theorem scrubRaise_part (s : State) : s.scrubRaise.part = s.part := part_of_standing (scrubRaise_standing ..)

@[simp] theorem scrubAdvance_part (s : State) : s.scrubAdvance.part = s.part := part_of_standing (scrubAdvance_standing ..)

@[simp] theorem frameLogic_part (s : State) (v : Voice) (n : LaneId) : (s.frameLogic v n).part = s.part :=
  part_of_standing (frameLogic_standing ..)

@[simp] theorem arrive_part (s : State) (n : LaneId) (d : Word) (sof eof : Bool) : (s.arrive n d sof eof).part = s.part :=
  part_of_standing (arrive_standing ..)

@[simp] theorem takeWritten_part (s : State) (n : LaneId) (i : SlotId) (k : Nat) :
    (s.takeWritten n i k).part = s.part := part_of_standing (takeWritten_standing ..)

@[simp] theorem send_part (s : State) (n : LaneId) : (s.send n).part = s.part := part_of_standing (send_standing ..)

@[simp] theorem sampleTrigger_part (s : State) (n : LaneId) (b : Bool) : (s.sampleTrigger n b).part = s.part :=
  part_of_standing (sampleTrigger_standing ..)

@[simp] theorem askDispatch_part (s : State) : s.askDispatch.part = s.part := part_of_standing (askDispatch_standing ..)

@[simp] theorem endLong_part (s : State) (res : Result) (v : Nat) : (s.endLong res v).part = s.part :=
  part_of_standing (endLong_standing ..)

@[simp] theorem afterBurst_part (s : State) (k : Nat) (p : Phase) : (s.afterBurst k p).part = s.part :=
  part_of_standing (afterBurst_standing ..)

@[simp] theorem abortEngine_part (s : State) : s.abortEngine.part = s.part := part_of_standing (abortEngine_standing ..)

@[simp] theorem windowWrite_part (s : State) (p : Ptr) (d : Word) : (s.windowWrite p d).part = s.part :=
  part_of_standing (windowWrite_standing ..)

@[simp] theorem windowRead_part (s : State) (p : Ptr) : (s.windowRead p).part = s.part :=
  part_of_standing (windowRead_standing ..)

@[simp] theorem withdrawWait_part (s : State) : s.withdrawWait.part = s.part := part_of_standing (withdrawWait_standing ..)

@[simp] theorem written_part (s : State) (k : Nat) : (s.written k).part = s.part := part_of_standing (written_standing ..)

@[simp] theorem readResult_part (s : State) (p : Ptr) (r : WordRead) : (s.readResult p r).part = s.part :=
  part_of_standing (readResult_standing ..)

@[simp] theorem endSafe_part (s : State) : s.endSafe.part = s.part := part_of_standing (endSafe_standing ..)

@[simp] theorem slotDataOk_part (s : State) : s.slotDataOk.part = s.part := part_of_standing (slotDataOk_standing ..)

/-! ## Register accesses -/

@[simp] theorem reportOverflow_part (s : State) : s.reportOverflow.part = s.part := by
  unfold State.reportOverflow; split <;> rfl

@[simp] theorem popWord_part (s : State) : s.popWord.part = s.part := by
  unfold State.popWord; repeat' split
  all_goals simp

@[simp] theorem readEffect_part (s : State) (r : Reg) : (s.readEffect r).part = s.part := by
  unfold State.readEffect; split <;> simp

@[simp] theorem readReg_part (s : State) (r : Reg) : (s.readReg r).part = s.part := by
  unfold State.readReg; repeat' split
  all_goals simp

@[simp] theorem kickSup_part (s : State) : s.kickSup.part = s.part := by
  unfold State.kickSup; split <;> simp

@[simp] theorem store_part (s : State) (r : Reg) (w : Word) : (s.store r w).part = s.part := by
  unfold State.store; split <;> simp [State.enqueue, State.selectSlot, State.writeScrubCfg]

@[simp] theorem requestPower_part (s : State) (p : Power) : (s.requestPower p).part = s.part := by
  unfold State.requestPower; repeat' split
  all_goals simp [State.leaveRetain, State.enterRetain]

@[simp] theorem armSup_part (s : State) : s.armSup.part = s.part := by
  unfold State.armSup; split <;> simp

@[simp] theorem writeReg_part (s : State) (r : Reg) (w : Word) : (s.writeReg r w).part = s.part := by
  unfold State.writeReg; split <;> simp

@[simp] theorem transact_part (s : State) (a : Access) : (s.transact a).part = s.part := by
  unfold State.transact; repeat' split
  all_goals simp

/-! ## Resets

A reset starts every field afresh but the part's own number, from which `State.blank` begins. -/

@[simp] theorem afterReset_part (s : State) (kind : ResetKind) : (s.afterReset kind).part = s.part := rfl

@[simp] theorem acceptAsked_part (s : State) : s.acceptAsked.part = s.part := by
  unfold State.acceptAsked; split <;> simp [State.openFor]

@[simp] theorem serveReset_part (s : State) : s.serveReset.part = s.part := by
  simp only [State.serveReset, State.innerReset]; split <;> simp

@[simp] theorem powerOn_part (s : State) (supen : Bool) : (s.powerOn supen).part = s.part := by simp [State.powerOn]

@[simp] theorem cutGrant_part (s : State) (cut : Nat) : (s.cutGrant cut).part = s.part := by
  unfold State.cutGrant; split <;> rfl

@[simp] theorem pinLow_part (s : State) (cut : Nat) : (s.pinLow cut).part = s.part := by simp [State.pinLow]

@[simp] theorem pinHigh_part (s : State) (supen : Bool) : (s.pinHigh supen).part = s.part := by simp [State.pinHigh]

/-! ## Services and moments -/

/-- A service is a reset or keeps the standing part of the state. -/
@[simp] theorem serveDue_part (s : State) (d : Due) : (s.serveDue d).part = s.part := by
  by_cases h : d = .reset
  · subst h; simp [State.serveDue]
  · exact part_of_standing (serveDue_standing s d h)

@[simp] theorem settleFor_part (k : Nat) : ∀ s : State, (State.settleFor k s).part = s.part := by
  induction k with
  | zero => exact fun _ => rfl
  | succ k ih => intro s; unfold State.settleFor; split <;> simp [ih]

@[simp] theorem settle_part (s : State) : s.settle.part = s.part := settleFor_part _ s

@[simp] theorem serveAskedFor_part (k : Nat) : ∀ s : State, (State.serveAskedFor k s).part = s.part := by
  induction k with
  | zero => exact fun _ => rfl
  | succ k ih =>
    intro s; unfold State.serveAskedFor; repeat' split
    all_goals simp [ih]

@[simp] theorem beforeMark_part (s : State) : s.beforeMark.part = s.part := serveAskedFor_part _ s

@[simp] theorem joinMoment_part (s : State) (src : Source) : (s.joinMoment src).part = s.part := by
  unfold State.joinMoment; repeat' split
  all_goals simp

@[simp] theorem heard_part (s t : State) : (s.heard t).part = t.part := heard_frame s t .part (by decide)

@[simp] theorem serviceRow_part (s : State) (d : Due) : (s.serviceRow d).part = s.part := by
  unfold State.serviceRow; split <;> simp

@[simp] theorem commandRow_part (s : State) (mine : BitVec 8 → Bool) : (s.commandRow mine).part = s.part := by
  unfold State.commandRow; split <;> simp

/-! ## The host's rows -/

@[simp] theorem freshMoment_part (s : State) (a : Access) : (s.freshMoment a).part = s.part := by
  simp [State.freshMoment, State.openFor]

@[simp] theorem meetMoment_part (s : State) (a : Access) : (s.meetMoment a).part = s.part := by
  simp only [State.meetMoment]; repeat' split
  all_goals simp

@[simp] theorem beforeHost_part (s : State) (a : Access) : (s.beforeHost a).part = s.part := by
  unfold State.beforeHost; repeat' split
  all_goals simp

theorem hostRow_part (s : State) (a : Access) : (s.hostRow a).part = s.part := by
  simp only [State.hostRow]; repeat' split
  all_goals simp

/-- The end of a wait changes the part only if its answer does. -/
theorem endWait_part (s : State) {answer : State → Access → State} (h : ∀ t a, (answer t a).part = t.part) :
    (s.endWait answer).part = s.part := by
  unfold State.endWait; repeat' split
  all_goals simp [h]

@[simp] theorem timeOut_part (s : State) : s.timeOut.part = s.part := by
  unfold State.timeOut; split
  · rfl
  · exact endWait_part s fun t a => by simp

@[simp] theorem sampleAbort_part (s : State) (level : Bool) : (s.sampleAbort level).part = s.part := by
  simp only [State.sampleAbort]; split
  · exact endWait_part _ respondAborted_part
  · rfl

@[simp] theorem beforePins_part (s : State) : s.beforePins.part = s.part := by
  unfold State.beforePins; split <;> simp

/-! ## The ends of grants -/

@[simp] theorem askDeferredHalt_part (s : State) (n : LaneId) : (s.askDeferredHalt n).part = s.part := by
  unfold State.askDeferredHalt; split <;> simp

@[simp] theorem endIngressGrant_part (s : State) (n : LaneId) (g : Grant) : (s.endIngressGrant n g).part = s.part := by
  simp only [State.endIngressGrant, arbitrate_part, heard_part]; repeat' split
  all_goals simp

@[simp] theorem endEgressGrant_part (s : State) (n : LaneId) (g : Grant) (flips : List Flip) :
    (s.endEgressGrant n g flips).part = s.part := by simp [State.endEgressGrant]

theorem endWindowWrite_part (s : State) (g : Grant) : (s.endWindowWrite g).part = s.part := by
  simp [State.endWindowWrite]

theorem endWindowRead_part (s : State) (g : Grant) (flips : List Flip) : (s.endWindowRead g flips).part = s.part := by
  simp only [State.endWindowRead, arbitrate_part, closeGrant_part]; split <;> simp

@[simp] theorem raiseWrite_part (s : State) : s.raiseWrite.part = s.part := by
  unfold State.raiseWrite; split <;> rfl

theorem endCopyRead_part (s : State) (g : Grant) (flips : List Flip) : (s.endCopyRead g flips).part = s.part := by
  simp only [State.endCopyRead, arbitrate_part, raiseWrite_part, closeGrant_part]; split <;> simp

theorem endCopyWrite_part (s : State) (g : Grant) : (s.endCopyWrite g).part = s.part := by simp [State.endCopyWrite]

theorem endFillGrant_part (s : State) (g : Grant) : (s.endFillGrant g).part = s.part := by simp [State.endFillGrant]

@[simp] theorem measured_part (s : State) (rs : List WordRead) : (s.measured rs).part = s.part := rfl

@[simp] theorem storeStats_part (s : State) : s.storeStats.part = s.part := by
  unfold State.storeStats; repeat' split
  all_goals rfl

@[simp] theorem failMeasure_part (s : State) (a : Nat) : (s.failMeasure a).part = s.part := by
  simp only [State.failMeasure, endLong_part]; split <;> rfl

theorem endMeasure_part (s : State) (g : Grant) (flips : List Flip) : (s.endMeasure g flips).part = s.part := by
  simp only [State.endMeasure, arbitrate_part, closeGrant_part]; split <;> simp

@[simp] theorem answerRetain_part (s : State) : s.answerRetain.part = s.part := by
  unfold State.answerRetain; split <;> simp [State.enterRetain]

theorem endScrub_part (s : State) (g : Grant) (flips : List Flip) : (s.endScrub g flips).part = s.part := by
  simp [State.endScrub]

/-! ## Time and the lanes' pins -/

@[simp] theorem tickScrubber_part (s : State) : s.tickScrubber.part = s.part := by
  unfold State.tickScrubber; split <;> rfl

@[simp] theorem tickSupervisor_part (s : State) : s.tickSupervisor.part = s.part := by
  unfold State.tickSupervisor; split <;> rfl

@[simp] theorem causeOfTick_part (s : State) : s.causeOfTick.part = s.part := by
  simp only [State.causeOfTick]; repeat' split
  all_goals simp

@[simp] theorem tick_part (s : State) : s.tick.part = s.part := by
  unfold State.tick; split <;> simp

@[simp] theorem finishSweep_part (s : State) : s.finishSweep.part = s.part := by simp [State.finishSweep]

/-- An occurrence at a lane's pins changes the part only if what it does there does. -/
theorem laneRow_part (s : State) (src : Source) {act : State → State} (h : ∀ t, (act t).part = t.part) :
    (s.laneRow src act).part = s.part := by
  simp [State.laneRow, h]

@[simp] theorem beforeTrigger_part (s : State) (n : LaneId) : (s.beforeTrigger n).part = s.part := by
  unfold State.beforeTrigger; split <;> simp

/-! ## The rows -/

/-- Where the answer is a next state, it is of the same part. -/
def KeepsPart (s : State) (o : Answer) : Prop := ∀ t, o = .next t → t.part = s.part

theorem keepsPart_next {s t : State} (h : t.part = s.part) : KeepsPart s (.next t) := by
  rintro _ ⟨⟩; exact h

theorem keepsPart_fault (s : State) (f : Fault) : KeepsPart s (.fault f) := fun _ h => by cases h

/-- A grant end row changes the part only if its end sequence does. -/
theorem grantRow_keepsPart (s : State) (mine : Client → Bool) {finish : Grant → State → State}
    (h : ∀ g t, (finish g t).part = t.part) : KeepsPart s (s.grantRow mine finish) := by
  unfold State.grantRow; repeat' split
  · exact keepsPart_next rfl
  · exact keepsPart_next (by simp [h])
  · exact keepsPart_fault s _
  · exact keepsPart_next rfl

theorem execIngressGrantEnd_keepsPart (s : State) : KeepsPart s (execIngressGrantEnd s) :=
  grantRow_keepsPart s _ fun g t => by split <;> simp

theorem execEgressGrantEnd_keepsPart (flips : List Flip) (s : State) : KeepsPart s (execEgressGrantEnd flips s) :=
  grantRow_keepsPart s _ fun g t => by split <;> simp

theorem execWindowWriteGrantEnd_keepsPart (s : State) : KeepsPart s (execWindowWriteGrantEnd s) :=
  grantRow_keepsPart s _ fun g t => endWindowWrite_part t g

theorem execWindowReadGrantEnd_keepsPart (flips : List Flip) (s : State) : KeepsPart s (execWindowReadGrantEnd flips s) :=
  grantRow_keepsPart s _ fun g t => endWindowRead_part t g flips

theorem execCopyReadGrantEnd_keepsPart (flips : List Flip) (s : State) : KeepsPart s (execCopyReadGrantEnd flips s) :=
  grantRow_keepsPart s _ fun g t => endCopyRead_part t g flips

theorem execCopyWriteGrantEnd_keepsPart (s : State) : KeepsPart s (execCopyWriteGrantEnd s) :=
  grantRow_keepsPart s _ fun g t => endCopyWrite_part t g

theorem execFillGrantEnd_keepsPart (s : State) : KeepsPart s (execFillGrantEnd s) :=
  grantRow_keepsPart s _ fun g t => endFillGrant_part t g

theorem execMeasureGrantEnd_keepsPart (flips : List Flip) (s : State) : KeepsPart s (execMeasureGrantEnd flips s) :=
  grantRow_keepsPart s _ fun g t => endMeasure_part t g flips

theorem execScrubGrantEnd_keepsPart (flips : List Flip) (s : State) : KeepsPart s (execScrubGrantEnd flips s) :=
  grantRow_keepsPart s _ fun g t => endScrub_part t g flips

theorem execPinReset_keepsPart (cut : Nat) (s : State) : KeepsPart s (execPinReset cut s) := by
  unfold execPinReset; repeat' split
  · exact keepsPart_next rfl
  · exact keepsPart_next (pinLow_part s cut)
  · exact keepsPart_fault s _

/-- No command changes the part. -/
theorem exec_keepsPart (c : Instr) (s : State) : KeepsPart s (exec c s) := by
  cases c with
  | registerWrite | registerRead | hostErrWrite | cfgLockWrite | resetArm | resetGo | winDataRead | winDataWrite
  | slotSelWrite | slotDataRead | evtDataRead | evtLostRead | eccCorrCountRead | eccUncorrCountRead | lnCntDataRead
  | acknowledge | eoi | irqPendingWrite | engineAbort | supArm | supKick | scrubCfgWrite | tbPrescaleWrite | lnCfgWrite
  | run | doze | retain | cmdIssue => exact keepsPart_next (hostRow_part s _)
  | slotAssign | slotUnassign | claim | alloc | release | submit | laneStart | laneStop | laneHalt | laneFlush | bind
  | copy | fill | measure | sync | unknownCommand | commandDispatch => exact keepsPart_next (commandRow_part s _)
  | snapshot | publish | ret | take | allocate | windowClosed | scrubRequest | supWarning | supExpired =>
    exact keepsPart_next (serviceRow_part s _)
  | haltAtGrantEnd => exact keepsPart_next (by split <;> simp)
  | timeout => exact keepsPart_next (by simp)
  | abort level => exact keepsPart_next (by simp)
  | ingressGrantEnd => exact execIngressGrantEnd_keepsPart s
  | egressGrantEnd flips => exact execEgressGrantEnd_keepsPart flips s
  | windowWriteGrantEnd => exact execWindowWriteGrantEnd_keepsPart s
  | windowReadGrantEnd flips => exact execWindowReadGrantEnd_keepsPart flips s
  | copyReadGrantEnd flips => exact execCopyReadGrantEnd_keepsPart flips s
  | copyWriteGrantEnd => exact execCopyWriteGrantEnd_keepsPart s
  | fillGrantEnd => exact execFillGrantEnd_keepsPart s
  | measureGrantEnd flips => exact execMeasureGrantEnd_keepsPart flips s
  | scrubGrantEnd flips => exact execScrubGrantEnd_keepsPart flips s
  | wordArrival n data sof eof =>
    exact keepsPart_next ((arbitrate_part _).trans (laneRow_part s _ fun t => arrive_part t n data sof eof))
  | wordSent n => exact keepsPart_next ((arbitrate_part _).trans (laneRow_part s _ fun t => send_part t n))
  | triggerEdge n level =>
    exact keepsPart_next ((laneRow_part _ _ fun t => sampleTrigger_part t n level).trans (beforeTrigger_part s n))
  | timebaseTick => exact keepsPart_next (by simp)
  | initDone => exact keepsPart_next (by split <;> simp)
  | powerOnReset supen => exact keepsPart_next (by simp)
  | pinReset cut => exact execPinReset_keepsPart cut s
  | rstnRelease supen => exact keepsPart_next (by split <;> simp)
  | supervisorReset => exact keepsPart_next (by split <;> simp)
  | softReset => exact keepsPart_next (by split <;> simp)

/-! ## DEV_ID and DEV_CAPS at the port -/

theorem devId_decodes : decodeReg 0x00 = some .devId := by decide

theorem devCaps_decodes : decodeReg 0x01 = some .devCaps := by decide

/-- The identity registers stay accessible in RETAIN, the init sweep refuses no access of them, and they are read-only. -/
theorem identity_access {r : Reg} (h : r = .devId ∨ r = .devCaps) :
    r.inRetain = true ∧ (∀ w, r.initRefused w = false) ∧ r.readOnly = true := by
  rcases h with rfl | rfl <;> exact ⟨rfl, fun _ => rfl, rfl⟩

/-- No check of R3 fails on a read of an identity register, and the first that fails on a write is check 4. -/
theorem accessFails_identity (s : State) {a : Access} {r : Reg} (hd : decodeReg a.addr = some r)
    (hr : r = .devId ∨ r = .devCaps) : s.accessFails a = if a.write then some .readOnly else none := by
  obtain ⟨hretain, hinit, hro⟩ := identity_access hr
  cases hw : a.write <;> simp [State.accessFails, hd, hw, hretain, hinit, hro]

theorem read_identity {s : State} {addr : BitVec 8} {reg : Reg} (h : quiet s) (hd : decodeReg addr = some reg)
    (hr : reg = .devId ∨ reg = .devCaps) :
    ∃ r, exec (.registerRead addr) s = .next r.arbitrate ∧ answeredOk s r (some ((admitted s).regValue reg)) ∧
      unchangedBut [.port, .sup, .moment] s r := by
  have plain (t : State) : t.readReg reg = t.respondOk (some (t.regValue reg)) := by rcases hr with rfl | rfl <;> rfl
  obtain ⟨r, hrow, hread⟩ := hostRow_read h hd (accessFails_identity s (a := ⟨addr, false, 0⟩) hd hr) plain
  exact ⟨r, by rw [exec_registerRead, hrow], hread⟩

theorem write_identity {s : State} {addr : BitVec 8} {reg : Reg} (data : Word) (h : quiet s)
    (hd : decodeReg addr = some reg) (hr : reg = .devId ∨ reg = .devCaps) :
    ∃ r, exec (.registerWrite addr data) s = .next r.arbitrate ∧ refusedWith s r .readOnly ⟨addr, true, data⟩ ∧
      unchangedBut [.port, .sup, .log, .irq, .moment] s r := by
  obtain ⟨r, hrow, hrefused⟩ := hostRow_refused h (accessFails_identity s (a := ⟨addr, true, data⟩) hd hr)
  exact ⟨r, by rw [exec_registerWrite, hrow], hrefused⟩

/-! ## O59 -/

/-- The low 20 bits of DEV_CAPS are the memory size. -/
theorem memWords_eq_caps (p : Part) : p.memWords = (capsWord p).toNat % 1048576 := by cases p <;> decide

/-- Settles O59: the two registers pass and fail the checks of R3 alike in every state, their values are functions of the part,
and no row changes the part. -/
theorem identityRegistersAreConstants : Obligations.IdentityRegistersAreConstants := by
  unfold Obligations.IdentityRegistersAreConstants
  refine ⟨?_, exec_keepsPart⟩
  intro s data h id caps
  have hid : id = idWord s.part := rfl
  have hcaps : caps = capsWord s.part := by cases hp : s.part <;> simp [caps, hp] <;> decide
  rw [hid, hcaps]
  refine ⟨memWords_eq_caps s.part, read_identity h devId_decodes (.inl rfl), read_identity h devCaps_decodes (.inr rfl),
    fun addr haddr => ?_⟩
  simp only [List.mem_cons, List.not_mem_nil, or_false] at haddr
  rcases haddr with rfl | rfl
  · exact write_identity data h devId_decodes (.inl rfl)
  · exact write_identity data h devCaps_decodes (.inr rfl)

end Sys2Proof.Proofs
end

section
/-! PROOFS. The packed values that registers read as (chapter 11): words put together from fields that do not reach into one another
(`fieldsFit`), one lemma for each register. -/

set_option Elab.async false

namespace Sys2Proof.Proofs

open Sys2Proof.Machine Sys2Proof.Safety Sys2Proof.Laws

/-! ## Fields side by side -/

/-- The word with each field's value placed at its bit. -/
def fieldsWord (fields : List (Nat × Nat)) : Word := fields.foldl (fun w f => w ||| placed f.1 f.2) 0#32

/-- The fields stand in rising order within 32 bits, and none reaches into the next. -/
def fieldsFit : List (Nat × Nat) → Prop
  | [] => True
  | [(v, k)] => k ≤ 32 ∧ v < 2 ^ (32 - k)
  | (v, k) :: (v', k') :: fs => k ≤ k' ∧ k' ≤ 32 ∧ v < 2 ^ (k' - k) ∧ fieldsFit ((v', k') :: fs)

/-- A value that fits between two bits, placed at the lower one, stays below the upper one. -/
theorem field_below {v k k' : Nat} (hk : k ≤ k') (hv : v < 2 ^ (k' - k)) : 2 ^ k + v * 2 ^ k ≤ 2 ^ k' := by
  have hsplit : 2 ^ k' = 2 ^ (k' - k) * 2 ^ k := by rw [← pow_add]; congr 1; omega
  rw [hsplit, Nat.add_comm, ← Nat.succ_mul]
  exact Nat.mul_le_mul_right _ hv

theorem foldl_placed_toNat : ∀ (fs : List (Nat × Nat)) (w : Word), fieldsFit fs →
    (∀ f ∈ fs.head?, w.toNat < 2 ^ f.2) →
    (fs.foldl (fun w f => w ||| placed f.1 f.2) w).toNat = w.toNat + packed fs
  | [], w, _, _ => by simp
  | [(v, k)], w, ⟨hk, hv⟩, hw => by
    have hlt : 2 ^ k + v * 2 ^ k ≤ 2 ^ 32 := field_below hk hv
    have hpos : 0 < 2 ^ k := Nat.two_pow_pos k
    have hlow : w.toNat < 2 ^ k := hw _ rfl
    simp only [List.foldl_cons, List.foldl_nil, packed_cons, packed_nil]
    rw [or_placed_toNat w v k hlow (by omega)]
    rfl
  | (v, k) :: (v', k') :: fs, w, ⟨hk, hk', hv, hfit⟩, hw => by
    have hlt : 2 ^ k + v * 2 ^ k ≤ 2 ^ k' := field_below hk hv
    have hpos : 0 < 2 ^ k := Nat.two_pow_pos k
    have hle : 2 ^ k' ≤ 2 ^ 32 := Nat.pow_le_pow_right (by decide) hk'
    have hlow : w.toNat < 2 ^ k := hw _ rfl
    have hor := or_placed_toNat w v k hlow (by omega)
    have hnext : ∀ f ∈ ((v', k') :: fs).head?, (w ||| placed v k).toNat < 2 ^ f.2 := by
      rintro _ ⟨⟩
      show _ < 2 ^ k'
      rw [hor]; omega
    rw [List.foldl_cons, foldl_placed_toNat _ _ hfit hnext, hor]
    simp only [packed_cons, Nat.add_assoc]

/-- Fields side by side make the number that they pack into. -/
theorem fieldsWord_toNat {fs : List (Nat × Nat)} (h : fieldsFit fs) : (fieldsWord fs).toNat = packed fs := by
  cases fs with
  | nil => rfl
  | cons f fs =>
    rw [fieldsWord, foldl_placed_toNat _ 0#32 h fun g _ => Nat.two_pow_pos g.2]
    exact Nat.zero_add _

/-- One number in one word. -/
theorem placed_zero_toNat (v : Nat) (h : v < 4294967296) : (placed v 0).toNat = v := by
  rw [placed_toNat v 0 (by omega)]; omega

theorem toNat_lt_two (b : Bool) : b.toNat < 2 := by cases b <;> decide

/-! ## Codes by their place in a list -/

theorem reason_code (r : Reason) : r.code =
    [Reason.badAddress, .readOnly, .locked, .state, .denied, .ecc, .timeout, .refused, .init, .power, .reset].idxOf r + 1 := by
  cases r <;> rfl

theorem resetKind_code (k : ResetKind) : k.code = [ResetKind.por, .pin, .sup, .soft].idxOf k + 1 := by cases k <;> rfl

theorem supSt_code (x : SupSt) : x.code = [SupSt.off, .running, .armed].idxOf x := by cases x <;> rfl

theorem power_code (p : Power) : p.code = [Power.run, .doze, .retain].idxOf p := by cases p <;> rfl

theorem dir_code (d : Dir) : d.code = [Dir.none, .ingress, .egress].idxOf d := by cases d <;> rfl

theorem ingressPolicy_code (p : IngressPolicy) :
    p.code = [IngressPolicy.dropNew, .overwriteOldest, .stall].idxOf p := by cases p <;> rfl

theorem egressPolicy_code (p : EgressPolicy) : p.code = [EgressPolicy.idle, .repeatLast, .emitFill].idxOf p := by
  cases p <;> rfl

theorem laneSt_code (x : LaneSt) : x.code = [LaneSt.off, .stopped, .running, .stopping].idxOf x := by cases x <;> rfl

theorem slotSt_code (x : SlotSt) : x.code =
    [SlotSt.unassigned, .free, .filling, .ready, .draining, .linger, .claimed, .quarantined].idxOf x := by cases x <;> rfl

theorem owner_code (o : Owner) : o.code =
    ([Owner.none, .lane 0, .lane 1, .lane 2, .lane 3, .host] : List Owner).idxOf o := by
  cases o with
  | none | host => rfl
  | lane n => revert n; decide

theorem kind_code (k : Kind) : k.code =
    [Kind.framePublished, .frameSent, .frameDropped, .frameOverwritten, .frameTruncated, .frameCut, .wordsLost, .strayWords,
      .slotStarved, .triggerMissed, .frameRepeated, .fillSent, .crcMismatch, .laneStopped, .laneHalted, .commandDone,
      .eccCorrected, .eccUncorrectable, .initDone, .scrubPass, .hostError, .supWarning, .supExpired, .supSequenceError,
      .logOverflow, .resetRecord].idxOf k + 1 := by cases k <;> rfl

theorem result_code (r : Result) : r.code =
    [Result.ok, .empty, .full, .badParam, .badState, .badConfig, .overlap, .locked, .denied, .notConsumer, .eccFault,
      .aborted].idxOf r := by cases r <;> rfl

/-! ## The part-wide registers -/

theorem cmdStatus_empty {s : State} (h : s.cmd.queue = []) : (s.regValue .cmdStatus).toNat = 0 := by
  simp [State.regValue, State.cmdStatus, h]

/-- CMD_STATUS with a command at the head that no engine executes (R182). -/
theorem cmdStatus_waiting {s : State} {e : CmdEntry} {rest : List CmdEntry} (hq : s.cmd.queue = e :: rest)
    (hdepth : s.cmd.queue.length ≤ 4) (heng : s.eng.cmd = none) :
    (s.regValue .cmdStatus).toNat = packed
      [(s.cmd.queue.length - 1, 0), (if s.fenced then 2 else 1, 2), (e.tag.toNat, 6), (e.code.toNat, 14)] := by
  have hword : s.regValue .cmdStatus = fieldsWord
      [(s.cmd.queue.length - 1, 0), (if s.fenced then 2 else 1, 2), (e.tag.toNat, 6), (e.code.toNat, 14)] := by
    simp only [State.regValue, State.cmdStatus, hq, heng, fieldsWord, List.foldl_cons, List.foldl_nil, BitVec.zero_or]
    ac_rfl
  have htag := e.tag.isLt
  have hcode := e.code.isLt
  rw [hword, fieldsWord_toNat]
  simp only [fieldsFit]
  split <;> omega

/-- CMD_STATUS with an executing long command (R182). -/
theorem cmdStatus_executing {s : State} {e : CmdEntry} {rest : List CmdEntry} {c : LongCmd} (hq : s.cmd.queue = e :: rest)
    (hdepth : s.cmd.queue.length ≤ 4) (hdone : s.eng.wordsDone < 262144) (heng : s.eng.cmd = some c) :
    (s.regValue .cmdStatus).toNat = packed
      [(s.cmd.queue.length - 1, 0), (c.statusCode, 2), (s.eng.abortPending.toNat, 4), (1, 5), (e.tag.toNat, 6),
        (s.eng.wordsDone, 14)] := by
  have hword : s.regValue .cmdStatus = fieldsWord
      [(s.cmd.queue.length - 1, 0), (8 + c.statusCode + 4 * s.eng.abortPending.toNat, 2), (e.tag.toNat, 6),
        (s.eng.wordsDone % 2 ^ 18, 14)] := by
    simp only [State.regValue, State.cmdStatus, hq, heng, fieldsWord, List.foldl_cons, List.foldl_nil, BitVec.zero_or]
    ac_rfl
  have hcode : c.statusCode ≤ 2 := by cases c <;> simp [LongCmd.statusCode]
  have habort := toNat_lt_two s.eng.abortPending
  have htag := e.tag.isLt
  rw [hword, fieldsWord_toNat (by simp only [fieldsFit]; omega)]
  simp only [packed_cons, packed_nil]
  omega

/-- IRQ_INSERVICE: five bits for each entry above the depth (R183). -/
theorem irqInService_value {s : State} (h : s.irq.stack.length ≤ 4) :
    (s.regValue .irqInService).toNat = packed
      ((s.irq.stack.length, 0) :: s.irq.stack.zipIdx.map fun x => (x.1.group.val + 8 * x.1.prio.val, 8 + 5 * x.2)) := by
  have hword : s.regValue .irqInService = fieldsWord
      ((s.irq.stack.length, 0) ::
        s.irq.stack.zipIdx.map fun x => (x.1.group.val + 8 * x.1.prio.val, 8 + 5 * x.2)) := by
    rw [fieldsWord, List.foldl_cons, List.foldl_map, BitVec.zero_or]; rfl
  have hentry (x : InService) : x.group.val + 8 * x.prio.val < 32 := by omega
  rw [hword, fieldsWord_toNat]
  generalize s.irq.stack = q at h ⊢
  match q, h with
  | [], _ => simp [fieldsFit]
  | [a], _ => have ha := hentry a; simp [fieldsFit]; omega
  | [a, b], _ => have ha := hentry a; have hb := hentry b; simp [fieldsFit]; omega
  | [a, b, c], _ => have ha := hentry a; have hb := hentry b; have hc := hentry c; simp [fieldsFit]; omega
  | [a, b, c, d], _ =>
    have ha := hentry a; have hb := hentry b; have hc := hentry c; have hd := hentry d
    simp [fieldsFit]; omega

theorem hostErr_value (s : State) : (s.regValue .hostErr).toNat = packed
    [(match s.port.err.reason with
        | none => 0
        | some r => r.code, 0),
      (s.port.err.addr.toNat, 4), (s.port.err.write.toNat, 12), (s.port.err.overrun.toNat, 13),
      (s.port.err.count.toNat, 16)] := by
  have hword : s.regValue .hostErr = fieldsWord
      [(match s.port.err.reason with
          | none => 0
          | some r => r.code, 0),
        (s.port.err.addr.toNat, 4), (s.port.err.write.toNat, 12), (s.port.err.overrun.toNat, 13),
        (s.port.err.count.toNat, 16)] := by
    simp only [fieldsWord, List.foldl_cons, List.foldl_nil, BitVec.zero_or]; rfl
  have haddr := s.port.err.addr.isLt
  have hwrite := toNat_lt_two s.port.err.write
  have hover := toNat_lt_two s.port.err.overrun
  have hcount := s.port.err.count.isLt
  rw [hword, fieldsWord_toNat]
  cases hr : s.port.err.reason with
  | none => simp only [fieldsFit]; omega
  | some r =>
    have hcode : r.code < 16 := by cases r <;> decide
    simp only [fieldsFit]; omega

theorem evtStatus_value {s : State} (hrecords : s.log.records.length ≤ 32) (hreserved : s.reserved ≤ 4) :
    (s.regValue .evtStatus).toNat = packed
      [(s.log.records.length, 0), (s.reserved, 8), (if s.log.overflow = 0 then 0 else 1, 12), (s.log.wordSel.val, 16)] := by
  have hlost : (s.log.overflow != 0).toNat = if s.log.overflow = 0 then 0 else 1 := by
    by_cases h : s.log.overflow = 0
    · simp [h]
    · rw [if_neg h, bne_iff_ne.mpr h]; rfl
  have hword : s.regValue .evtStatus = fieldsWord
      [(s.log.records.length, 0), (s.reserved, 8), ((s.log.overflow != 0).toNat, 12), (s.log.wordSel.val, 16)] := by
    simp only [fieldsWord, List.foldl_cons, List.foldl_nil, BitVec.zero_or]; rfl
  have hflag := toNat_lt_two (s.log.overflow != 0)
  rw [hword, ← hlost, fieldsWord_toNat]
  simp only [fieldsFit]; omega

/-- With nothing held back by a closing window, one entry is reserved for each command in the queue (R135). -/
theorem reserved_eq {s : State} (h : s.log.heldBack = []) : s.reserved = s.cmd.queue.length := by
  simp [State.reserved, h]

theorem resetCause_value (s : State) :
    (s.regValue .resetCause).toNat = packed [(s.rst.cause.code, 0), (s.rst.supCount.toNat, 8)] := by
  have hword : s.regValue .resetCause = fieldsWord [(s.rst.cause.code, 0), (s.rst.supCount.toNat, 8)] := by
    simp only [fieldsWord, List.foldl_cons, List.foldl_nil, BitVec.zero_or]; rfl
  have hcode : s.rst.cause.code < 8 := by cases s.rst.cause <;> decide
  have hcount := s.rst.supCount.isLt
  rw [hword, fieldsWord_toNat]
  simp only [fieldsFit]; omega

theorem supStatus_value {s : State} (h : s.sup.windowCount ≤ 16) : (s.regValue .supStatus).toNat = packed
    [(s.sup.st.code, 0), (s.sup.safeMode.toNat, 2), (if s.sup.st = .armed then 16 - s.sup.windowCount else 0, 4),
      (s.sup.counter.toNat, 16)] := by
  have hword : s.regValue .supStatus = fieldsWord
      [(s.sup.st.code, 0), (s.sup.safeMode.toNat, 2), (if s.sup.st = .armed then 16 - s.sup.windowCount else 0, 4),
        (s.sup.counter.toNat, 16)] := by
    simp only [fieldsWord, List.foldl_cons, List.foldl_nil, BitVec.zero_or]; rfl
  have hcode : s.sup.st.code < 4 := by cases s.sup.st <;> decide
  have hsafe := toNat_lt_two s.sup.safeMode
  have hcounter := s.sup.counter.isLt
  rw [hword, fieldsWord_toNat]
  simp only [fieldsFit]
  split <;> omega

theorem powerCtrl_value (s : State) : (s.regValue .powerCtrl).toNat = s.power.code := by
  have hcode : s.power.code < 3 := by cases s.power <;> decide
  exact placed_zero_toNat _ (by omega)

theorem memStatus_value (s : State) : (s.regValue .memStatus).toNat =
    packed [(s.sweep.running.toNat, 0), (s.sweep.initialized.toNat, 1)] := by
  have hword : s.regValue .memStatus = fieldsWord [(s.sweep.running.toNat, 0), (s.sweep.initialized.toNat, 1)] := by
    simp only [fieldsWord, List.foldl_cons, List.foldl_nil, BitVec.zero_or]; rfl
  have hrun := toNat_lt_two s.sweep.running
  have hinit := toNat_lt_two s.sweep.initialized
  rw [hword, fieldsWord_toNat]
  simp only [fieldsFit]; omega

theorem eccLastAddr_value {s : State} (h : s.ecc.last.addr < 524288) : (s.regValue .eccLastAddr).toNat = packed
    [(s.ecc.last.addr, 0), (s.ecc.last.reader.code, 20), (s.ecc.last.valid.toNat, 31)] := by
  have hword : s.regValue .eccLastAddr = fieldsWord
      [(s.ecc.last.addr, 0), (s.ecc.last.reader.code, 20), (s.ecc.last.valid.toNat, 31)] := by
    simp only [fieldsWord, List.foldl_cons, List.foldl_nil, BitVec.zero_or]; rfl
  have hcode : s.ecc.last.reader.code < 7 := by
    cases s.ecc.last.reader with
    | lane n => simp only [Reader.code]; omega
    | window | engine | scrubber => decide
  have hvalid := toNat_lt_two s.ecc.last.valid
  rw [hword, fieldsWord_toNat]
  simp only [fieldsFit]; omega

theorem scrubCfg_value (s : State) : (s.regValue .scrubCfg).toNat =
    packed [(s.scrub.n.toNat, 0), (s.scrub.enabled.toNat, 16), (s.scrub.passEvent.toNat, 17)] := by
  have hword : s.regValue .scrubCfg =
      fieldsWord [(s.scrub.n.toNat, 0), (s.scrub.enabled.toNat, 16), (s.scrub.passEvent.toNat, 17)] := by
    simp only [fieldsWord, List.foldl_cons, List.foldl_nil, BitVec.zero_or]; rfl
  have hn := s.scrub.n.isLt
  have hon := toNat_lt_two s.scrub.enabled
  have hpass := toNat_lt_two s.scrub.passEvent
  rw [hword, fieldsWord_toNat]
  simp only [fieldsFit]; omega

/-- The pending flags by their bits (R159). -/
theorem irqPending_getLsbD (s : State) (g : Group) : (s.regValue .irqPending).getLsbD g.val = s.irq.flag g := by
  have hvalue : s.regValue .irqPending = s.irq.flags.setWidth 32 := by simp [State.regValue, placed]
  have hg : g.val < 32 := by omega
  rw [hvalue, BitVec.getLsbD_setWidth]
  simp [hg, Irq.flag]

theorem irqPending_lt (s : State) : (s.regValue .irqPending).toNat < 256 := by
  have hflags := s.irq.flags.isLt
  have hvalue : (s.regValue .irqPending).toNat = s.irq.flags.toNat := placed_zero_toNat _ (by omega)
  omega

/-! ## The lanes' registers -/

theorem lnCfg_value (s : State) (n : LaneId) : (s.regValue (.lnCfg n)).toNat = packed
    [((s.lane n).cfg.dir.code, 0), ((s.lane n).cfg.backpressure.toNat, 4), ((s.lane n).cfg.inPolicy.code, 8),
      ((s.lane n).cfg.egPolicy.code, 12), ((s.lane n).cfg.triggered.toNat, 16), ((s.lane n).cfg.inspect.toNat, 17),
      ((s.lane n).cfg.crcCheck.toNat, 18), ((s.lane n).cfg.frameEvents.toNat, 19)] := by
  have hword : s.regValue (.lnCfg n) = fieldsWord
      [((s.lane n).cfg.dir.code, 0), ((s.lane n).cfg.backpressure.toNat, 4), ((s.lane n).cfg.inPolicy.code, 8),
        ((s.lane n).cfg.egPolicy.code, 12), ((s.lane n).cfg.triggered.toNat, 16), ((s.lane n).cfg.inspect.toNat, 17),
        ((s.lane n).cfg.crcCheck.toNat, 18), ((s.lane n).cfg.frameEvents.toNat, 19)] := by
    simp only [fieldsWord, List.foldl_cons, List.foldl_nil, BitVec.zero_or]; rfl
  rw [hword, fieldsWord_toNat]
  generalize (s.lane n).cfg = c
  have hdir : c.dir.code < 3 := by cases c.dir <;> decide
  have hin : c.inPolicy.code < 3 := by cases c.inPolicy <;> decide
  have heg : c.egPolicy.code < 3 := by cases c.egPolicy <;> decide
  have hback := toNat_lt_two c.backpressure
  have htrig := toNat_lt_two c.triggered
  have hinspect := toNat_lt_two c.inspect
  have hcrc := toNat_lt_two c.crcCheck
  have hevents := toNat_lt_two c.frameEvents
  simp only [fieldsFit]; omega

theorem lnBind_value (s : State) (n : LaneId) : (s.regValue (.lnBind n)).toNat = match (s.lane n).binding with
    | none => 4
    | some m => m.val := by
  simp only [State.regValue, Lane.bindWord]
  cases (s.lane n).binding with
  | none => rfl
  | some m => exact placed_zero_toNat _ (by omega)

theorem lnStatus_value {s : State} {n : LaneId} (h : (s.lane n).fifo.length ≤ 32) :
    (s.regValue (.lnStatus n)).toNat = packed
      [((s.lane n).st.code, 0), ((s.lane n).sub.code, 4), ((s.lane n).fifo.length, 8),
        ((s.lane n).nextSeq.toNat, 16)] := by
  have hword : s.regValue (.lnStatus n) = fieldsWord
      [((s.lane n).st.code, 0), ((s.lane n).sub.code, 4), ((s.lane n).fifo.length, 8),
        ((s.lane n).nextSeq.toNat, 16)] := by
    simp only [fieldsWord, List.foldl_cons, List.foldl_nil, BitVec.zero_or]; rfl
  rw [hword, fieldsWord_toNat]
  generalize s.lane n = l at h ⊢
  have hst : l.st.code < 4 := by cases l.st <;> decide
  have hsub : l.sub.code < 5 := by cases l.sub <;> decide
  have hseq := l.nextSeq.isLt
  simp only [fieldsFit]; omega

/-- LN_QUEUES by the lane's direction (§11.9): the fields of the other direction read 0. -/
theorem lnQueues_none {s : State} {n : LaneId} (h : (s.lane n).cfg.dir = .none) :
    (s.regValue (.lnQueues n)).toNat = 0 := by
  simp [State.regValue, State.queuesWord, h]

theorem lnQueues_ingress {s : State} {n : LaneId} (h : (s.lane n).cfg.dir = .ingress)
    (hfree : (s.lane n).freeList.length ≤ 16) (hready : (s.lane n).readyQ.length ≤ 16) (howned : s.owned n ≤ 16) :
    (s.regValue (.lnQueues n)).toNat =
      packed [((s.lane n).freeList.length, 0), ((s.lane n).readyQ.length, 8), (s.owned n, 24)] := by
  have hword : s.regValue (.lnQueues n) =
      fieldsWord [((s.lane n).freeList.length, 0), ((s.lane n).readyQ.length, 8), (s.owned n, 24)] := by
    simp only [fieldsWord, List.foldl_cons, List.foldl_nil, BitVec.zero_or, State.regValue, State.queuesWord, h]
  rw [hword, fieldsWord_toNat]
  simp only [fieldsFit]; omega

theorem lnQueues_egress {s : State} {n : LaneId} (h : (s.lane n).cfg.dir = .egress)
    (hsubmit : (s.lane n).submitQ.length ≤ 8) :
    (s.regValue (.lnQueues n)).toNat = packed [((s.lane n).submitQ.length, 16)] := by
  have hword : s.regValue (.lnQueues n) = fieldsWord [((s.lane n).submitQ.length, 16)] := by
    simp only [fieldsWord, List.foldl_cons, List.foldl_nil, BitVec.zero_or, State.regValue, State.queuesWord, h]
  rw [hword, fieldsWord_toNat]
  simp only [fieldsFit]; omega

end Sys2Proof.Proofs
end

section
/-! PROOFS. Facts of the shared operations that many rows use: requests and their outstanding ones, takes of the free runners, events
raised one after another, and the details that events carry. -/

set_option Elab.async false

namespace Sys2Proof.Proofs

open Sys2Proof.Machine Sys2Proof.Safety Sys2Proof.Laws

/-! ## Requests -/

theorem mem_insertReq (r q : Req) (l : List Req) : q ∈ insertReq r l ↔ q = r ∨ q ∈ l := by
  induction l with
  | nil => simp [insertReq]
  | cons x xs ih =>
    simp only [insertReq]
    split
    · simp
    · simp only [List.mem_cons, ih]; tauto

theorem outstanding_iff (s : State) (q : Req) :
    s.outstanding q = true ↔ q ∈ s.moment.asked ∨ q ∈ s.moment.caused := by
  simp [State.outstanding]

theorem outstanding_ask (s : State) (r q : Req) : (s.ask r).outstanding q = (q == r || s.outstanding q) := by
  rw [Bool.eq_iff_iff, Bool.or_eq_true, beq_iff_eq]
  unfold State.ask
  split
  next h => exact ⟨.inr, fun hq => hq.elim (fun e => e ▸ h) id⟩
  next => simp only [outstanding_iff, mem_insertReq, or_assoc]

theorem outstanding_cause (s : State) (r q : Req) : (s.cause r).outstanding q = (q == r || s.outstanding q) := by
  rw [Bool.eq_iff_iff, Bool.or_eq_true, beq_iff_eq]
  unfold State.cause
  split
  next h => exact ⟨.inr, fun hq => hq.elim (fun e => e ▸ h) id⟩
  next =>
    simp only [outstanding_iff, List.mem_append, List.mem_singleton]
    tauto

theorem outstanding_withdraw (s : State) (r q : Req) : (s.withdraw r).outstanding q = (q != r && s.outstanding q) := by
  rw [Bool.eq_iff_iff, Bool.and_eq_true, bne_iff_ne, outstanding_iff, outstanding_iff]
  simp only [State.withdraw, List.mem_filter, bne_iff_ne]
  tauto

theorem outstanding_congr {s t : State} (h : t.moment = s.moment) (q : Req) : t.outstanding q = s.outstanding q := by
  simp only [State.outstanding, h]

/-- A request that is not outstanding is caused behind those that are. -/
theorem cause_new {s : State} {r : Req} (h : s.outstanding r = false) :
    s.cause r = { s with moment := { s.moment with caused := s.moment.caused ++ [r] } } := by
  rw [State.cause, if_neg (by rw [h]; decide)]

theorem cause_old {s : State} {r : Req} (h : s.outstanding r = true) : s.cause r = s := by
  rw [State.cause, if_pos h]

/-- Requests caused behind everything that the moment has. -/
def withCaused (s : State) (rs : List Req) : State :=
  { s with moment := { s.moment with caused := s.moment.caused ++ rs } }

/-- A request that an operation causes under a condition. -/
theorem causeIf_eq {s : State} {r : Req} (c : Bool) (h : s.outstanding r = false) :
    (if c then s.cause r else s) = withCaused s (if c then [r] else []) := by
  cases c with
  | false => simp [withCaused]
  | true => exact cause_new h

theorem ask_new {s : State} {r : Req} (h : s.outstanding r = false) :
    s.ask r = { s with moment := { s.moment with asked := insertReq r s.moment.asked } } := by
  rw [State.ask, if_neg (by rw [h]; decide)]

/-! ## What is due -/

/-- A request is what is served next: no window closes, no reset is ready, and the request leads the moment's. -/
theorem nextDue_req {s : State} {q : Req} (h : s.nextDue = some (.req q)) :
    s.rst.pinHeld = false ∧ s.closingDue = false ∧ s.resetReady = false ∧
      ((∃ rest, s.moment.asked = q :: rest) ∨ s.moment.asked = [] ∧ ∃ rest, s.moment.caused = q :: rest) := by
  unfold State.nextDue at h
  split at h
  · cases h
  · split at h
    · cases h
    · split at h
      · cases h
      · refine ⟨by simp_all, by simp_all, by simp_all, ?_⟩
        split at h
        next r rest hasked => cases h; exact .inl ⟨_, hasked⟩
        next r rest hasked hcaused => cases h; exact .inr ⟨hasked, _, hcaused⟩
        next => cases h

/-- The state as the operation served next finds it: its request is taken out of the moment, and the moment is closed. -/
def begun (s : State) : State := { s with moment := s.moment.popped }

theorem begun_frame (s : State) : unchangedBut [.moment] s (begun s) := by
  intro f hf; cases f <;> first | rfl | exact absurd (by decide) hf

/-- A service of a request that is what is due next. -/
theorem serviceRow_req {s : State} {q : Req} (h : s.nextDue = some (.req q)) :
    s.serviceRow (.req q) = ((begun s).perform q).arbitrate :=
  serviceRow_due h

/-- Beginning a service leaves every other request as it stood. -/
theorem begun_outstanding {s : State} {q r : Req} (h : s.nextDue = some (.req q)) (hr : r ≠ q) :
    (begun s).outstanding r = s.outstanding r := by
  obtain ⟨_, _, _, ⟨rest, hasked⟩ | ⟨hasked, rest, hcaused⟩⟩ := nextDue_req h
  · simp [begun, State.outstanding, Moment.popped, hasked, hr]
  · simp [begun, State.outstanding, Moment.popped, hasked, hcaused, hr]

/-! ## Lanes and slots read through a frame -/

theorem lane_of_lanes {s t : State} (h : t.lanes = s.lanes) (n : LaneId) : t.lane n = s.lane n := by
  rw [State.lane, State.lane, h]

theorem slot_of_slots {s t : State} (h : t.slots = s.slots) (i : SlotId) : t.slot i = s.slot i := by
  rw [State.slot, State.slot, h]

/-- The lanes outside a frame. -/
theorem frame_lane {fs : List Field} {s t : State} (h : unchangedBut fs s t) (n : LaneId)
    (hf : Field.lanes ∉ fs := by decide) : t.lane n = s.lane n := lane_of_lanes (h .lanes hf) n

/-- The slot records outside a frame. -/
theorem frame_slot {fs : List Field} {s t : State} (h : unchangedBut fs s t) (i : SlotId)
    (hf : Field.slots ∉ fs := by decide) : t.slot i = s.slot i := slot_of_slots (h .slots hf) i

/-- The outstanding requests outside a frame. -/
theorem frame_outstanding {fs : List Field} {s t : State} (h : unchangedBut fs s t) (q : Req)
    (hf : Field.moment ∉ fs := by decide) : t.outstanding q = s.outstanding q := outstanding_congr (h .moment hf) q

theorem lane_updLane (s : State) (n m : LaneId) (f : Lane → Lane) :
    (s.updLane n f).lane m = if m = n then f (s.lane n) else s.lane m := by
  split
  next h => subst h; exact lane_updLane_same s m f
  next h => exact lane_updLane_other s n m f h

theorem slot_updSlot (s : State) (i j : SlotId) (f : Slot → Slot) :
    (s.updSlot i f).slot j = if j = i then f (s.slot i) else s.slot j := by
  split
  next h => subst h; exact slot_updSlot_same s j f
  next h => exact slot_updSlot_other s i j f h

/-! ## Takes of the free runners (R104, R117) -/

theorem mem_laneList (n : LaneId) : n ∈ laneList := by revert n; decide

theorem idleFreeRunner_iff (l : Lane) : idleFreeRunner l = true ↔
    l.cfg.dir = .egress ∧ l.cfg.triggered = false ∧ l.st = .running ∧ l.sub = .idle := by
  simp [idleFreeRunner, and_assoc]

theorem nudge_eq (s : State) (n : LaneId) : s.nudge n = if idleFreeRunner (s.lane n) then s.causeTake n else s := by
  simp only [State.nudge, ← idleFreeRunner_iff]

theorem causeTake_lane (s : State) (n m : LaneId) :
    (s.causeTake n).lane m = if m = n then { s.lane n with sub := .taking } else s.lane m := by
  rw [State.causeTake, frame_lane (cause_frame _ _), lane_updLane]

theorem causeTake_outstanding (s : State) (n : LaneId) (q : Req) :
    (s.causeTake n).outstanding q = (q == .take n || s.outstanding q) := by
  rw [State.causeTake, outstanding_cause, outstanding_congr (updLane_moment s n _)]

theorem nudge_lane (s : State) (n m : LaneId) : (s.nudge n).lane m = if m = n then takesAgain (s.lane m) else s.lane m := by
  rw [nudge_eq, takesAgain]
  by_cases hm : m = n
  · subst hm
    cases h : idleFreeRunner (s.lane m) <;> simp [causeTake_lane]
  · cases h : idleFreeRunner (s.lane n) <;> simp [causeTake_lane, hm]

theorem nudge_outstanding (s : State) (n : LaneId) (q : Req) :
    (s.nudge n).outstanding q = (q == .take n && idleFreeRunner (s.lane n) || s.outstanding q) := by
  rw [nudge_eq]
  cases h : idleFreeRunner (s.lane n) <;> simp [causeTake_outstanding]

theorem takesAgain_idem (l : Lane) : takesAgain (takesAgain l) = takesAgain l := by
  unfold takesAgain
  cases h : idleFreeRunner l with
  | false => simp [h]
  | true => simp [idleFreeRunner]

theorem foldl_nudge_lane (ns : List LaneId) (m : LaneId) : ∀ s : State,
    (ns.foldl State.nudge s).lane m = if m ∈ ns then takesAgain (s.lane m) else s.lane m := by
  induction ns with
  | nil => simp
  | cons n ns ih =>
    intro s
    rw [List.foldl_cons, ih, nudge_lane]
    by_cases hm : m = n <;> by_cases hms : m ∈ ns <;> simp [hm, hms, takesAgain_idem]

theorem nudgeAll_lane (s : State) (n : LaneId) : s.nudgeAll.lane n = takesAgain (s.lane n) := by
  rw [State.nudgeAll, foldl_nudge_lane, if_pos (mem_laneList n)]

/-- The takes of some free runners that have none outstanding are caused in their order, behind everything. -/
theorem foldl_nudge_caused (ns : List LaneId) (hnd : ns.Nodup) : ∀ s : State,
    (∀ n ∈ ns, idleFreeRunner (s.lane n) = true → s.outstanding (.take n) = false) →
    (ns.foldl State.nudge s).moment =
      { s.moment with caused := s.moment.caused ++ (ns.filter fun n => idleFreeRunner (s.lane n)).map .take } := by
  induction ns with
  | nil => simp
  | cons n ns ih =>
    intro s hnew
    obtain ⟨hn, hns⟩ := List.nodup_cons.mp hnd
    have hlane (m : LaneId) (hm : m ∈ ns) : (s.nudge n).lane m = s.lane m := by
      rw [nudge_lane, if_neg (ne_of_mem_of_not_mem hm hn)]
    rw [List.foldl_cons, ih hns]
    · have hfilter : (ns.filter fun m => idleFreeRunner ((s.nudge n).lane m)) = ns.filter fun m => idleFreeRunner (s.lane m) :=
        List.filter_congr fun m hm => by rw [hlane m hm]
      rw [hfilter, nudge_eq]
      cases h : idleFreeRunner (s.lane n) with
      | false => simp [h]
      | true =>
        have hout : (s.updLane n fun l => { l with sub := .taking }).outstanding (.take n) = false := hnew n (by simp) h
        rw [if_pos rfl, State.causeTake, cause_new hout]
        simp [h]
    · intro m hm hidle
      rw [hlane m hm] at hidle
      rw [nudge_outstanding, hnew m (List.mem_cons_of_mem _ hm) hidle]
      have hne : m ≠ n := ne_of_mem_of_not_mem hm hn
      simp [hne]

theorem foldl_nudge_outstanding (ns : List LaneId) (m : LaneId) : ∀ s : State,
    (ns.foldl State.nudge s).outstanding (.take m) =
      (decide (m ∈ ns) && idleFreeRunner (s.lane m) || s.outstanding (.take m)) := by
  induction ns with
  | nil => simp
  | cons n ns ih =>
    intro s
    rw [List.foldl_cons, ih, nudge_outstanding, nudge_lane]
    by_cases hm : m = n
    · subst hm
      simp only [beq_self_eq_true, if_true, List.mem_cons, true_or, decide_true, Bool.true_and]
      cases h : idleFreeRunner (s.lane m) <;> simp [takesAgain, h]
    · have hne : (Req.take m == Req.take n) = false := by simp [hm]
      simp [hm, hne]

/-- Every idle free runner takes again (R117). -/
theorem nudgeAll_takes (s : State) : freeRunnersTake true s s.nudgeAll := by
  intro n
  refine ⟨nudgeAll_lane s n, ?_⟩
  rw [State.nudgeAll, foldl_nudge_outstanding, decide_eq_true (mem_laneList n)]

/-! ## Events raised one after another -/

/-- Nothing raised: the log and the flags are as they were. -/
theorem raises_start {fs : List Field} {s t : State} (h : unchangedBut fs s t)
    (hlog : Field.log ∉ fs := by decide) (hirq : Field.irq ∉ fs := by decide) : raises [] s t :=
  ⟨h .log hlog, h .irq hirq⟩

/-- What comes between two events touches nothing that an event depends on. -/
theorem raises_frame {fs : List Field} {es : List Event} {s t u : State} (h : raises es s t) (k : unchangedBut fs t u)
    (hd : ∀ f ∈ [Field.log, .irq, .cmd, .sup], f ∉ fs := by decide) : raises es s u := by
  have hlog := k .log (hd _ (by simp))
  have hirq := k .irq (hd _ (by simp))
  have hcmd := k .cmd (hd _ (by simp))
  have hsup := k .sup (hd _ (by simp))
  obtain ⟨h1, h2⟩ := h
  constructor
  · rw [show u.cmd = t.cmd from hcmd, show u.sup = t.sup from hsup]; exact Eq.trans hlog h1
  · rw [show u.cmd = t.cmd from hcmd, show u.sup = t.sup from hsup]; exact Eq.trans hirq h2

/-- One event more. -/
theorem raises_raise {es : List Event} {s t : State} (h : raises es s t) (e : Event) : raises (es ++ [e]) s (t.raise e) := by
  have hframe := raise_frame t e
  have hcmd : (t.raise e).cmd = t.cmd := hframe .cmd (by decide)
  have hsup : (t.raise e).sup = t.sup := hframe .sup (by decide)
  have hfold := frame_foldl State.raise raise_frame es { s with cmd := t.cmd, sup := t.sup }
  obtain ⟨hlog, hirq⟩ := h
  simp only [raises, hcmd, hsup, List.foldl_append, List.foldl_cons, List.foldl_nil]
  exact raise_congr e hlog hirq (hfold .cmd (by decide)).symm (hfold .sup (by decide)).symm

/-- A first event. -/
theorem raises_first {fs : List Field} {s t : State} (h : unchangedBut fs s t) (e : Event)
    (hlog : Field.log ∉ fs := by decide) (hirq : Field.irq ∉ fs := by decide) : raises [e] s (t.raise e) :=
  raises_raise (raises_start h hlog hirq) e

/-- A lane's event, with the stamp of the present. -/
theorem raiseLane_eq {s t : State} {n : LaneId} {kind : Kind} {slot : Option SlotId} {detail : Word} {k : Nat}
    (htb : t.tb = s.tb) (hd : detail = BitVec.ofNat 32 k) :
    t.raiseLane n kind slot detail = t.raise (laneEvent s n kind slot k) := by
  rw [State.raiseLane, State.event, htb, hd, laneEvent]

theorem raises_raiseLane {es : List Event} {s t : State} (h : raises es s t) {n : LaneId} {kind : Kind}
    {slot : Option SlotId} {detail : Word} {k : Nat} (htb : t.tb = s.tb) (hd : detail = BitVec.ofNat 32 k) :
    raises (es ++ [laneEvent s n kind slot k]) s (t.raiseLane n kind slot detail) := by
  rw [raiseLane_eq htb hd]
  exact raises_raise h _

/-! ## Details -/

theorem fieldsWord_eq {fs : List (Nat × Nat)} (h : fieldsFit fs) : fieldsWord fs = BitVec.ofNat 32 (packed fs) := by
  rw [← fieldsWord_toNat h, BitVec.ofNat_toNat, BitVec.setWidth_eq]

theorem placed_zero_eq (v : Nat) : placed v 0 = BitVec.ofNat 32 v := rfl

theorem halves_eq {lo hi : Nat} (hlo : lo < 65536) (hhi : hi < 65536) :
    halves lo hi = BitVec.ofNat 32 (lo + 65536 * hi) := by
  have hword : halves lo hi = fieldsWord [(lo % 2 ^ 16, 0), (hi % 2 ^ 16, 16)] := by
    simp only [fieldsWord, List.foldl_cons, List.foldl_nil, BitVec.zero_or]; rfl
  rw [hword, fieldsWord_eq (by simp only [fieldsFit]; omega)]
  simp only [packed_cons, packed_nil]
  congr 1
  omega

theorem commandDetail_eq (value : Nat) (res : Result) (code : BitVec 8) :
    commandDetail value res code = BitVec.ofNat 32 (value % 524288 + 524288 * res.code + 8388608 * code.toNat) := by
  have hword : commandDetail value res code = fieldsWord [(value % 2 ^ 19, 0), (res.code, 19), (code.toNat, 23)] := by
    simp only [fieldsWord, List.foldl_cons, List.foldl_nil, BitVec.zero_or]; rfl
  have hres : res.code < 16 := by cases res <;> decide
  have hcode := code.isLt
  rw [hword, fieldsWord_eq (by simp only [fieldsFit]; omega)]
  simp only [packed_cons, packed_nil]
  congr 1
  omega

theorem satInc_eq (c : BitVec 16) : satInc c = plus c 1 := rfl

end Sys2Proof.Proofs
end

section
/-! PROOFS. Plain host accesses at a quiet port (chapter 1): refused accesses, plain reads, and the writes of the port's own registers. -/

set_option Elab.async false

namespace Sys2Proof.Proofs

open Sys2Proof.Machine Sys2Proof.Safety Sys2Proof.Laws

/-! ## Refused accesses -/

/-- Settles O12: both rows are those of a refused access. -/
theorem refusedAccessLatchesItsReason : Obligations.RefusedAccessLatchesItsReason := by
  unfold Obligations.RefusedAccessLatchesItsReason
  intro s addr data reason h
  refine ⟨fun hf => ?_, fun hf => ?_⟩
  · obtain ⟨r, hrow, hr⟩ := hostRow_refused h hf
    exact ⟨r, by rw [exec_registerWrite, hrow], hr⟩
  · obtain ⟨r, hrow, hr⟩ := hostRow_refused h hf
    exact ⟨r, by rw [exec_registerRead, hrow], hr⟩

/-- A host request with no transaction outstanding, where the moment it meets leaves the port accepting. -/
theorem hostRow_met {s t : State} {a : Access} (hw : s.port.waiting = none) (hb : s.beforeHost a = t)
    (hw' : t.port.waiting = none) (ha : t.accepting = true) : s.hostRow a = (t.transact a).arbitrate := by
  simp [State.hostRow, hw, hb, hw', ha]

/-! ## Plain reads -/

/-- The registers whose read has no effect of its own (R12). -/
def readsPlainly (reg : Reg) : Prop :=
  (∀ p, reg ≠ .winData p) ∧ reg ∉ [.evtData, .evtLost, .irqVector, .eccCorrCount, .eccUncorrCount, .slotData] ∧
    ∀ n, reg ≠ .lnCntData n

theorem readReg_plain {reg : Reg} (h : readsPlainly reg) (t : State) :
    t.readReg reg = t.respondOk (some (t.regValue reg)) := by
  obtain ⟨hwin, hlist, hcount⟩ := h
  cases reg with
  | winData p => exact absurd rfl (hwin p)
  | lnCntData n => exact absurd rfl (hcount n)
  | evtData | evtLost | irqVector | eccCorrCount | eccUncorrCount | slotData => simp at hlist
  | _ => rfl

/-- Accepting an access changes no register's value. -/
theorem admitted_regValue (s : State) (reg : Reg) : (admitted s).regValue reg = s.regValue reg := by
  cases reg <;> rfl

theorem read_plain {s : State} {addr : BitVec 8} {reg : Reg} (h : quiet s) (hd : decodeReg addr = some reg)
    (hf : s.accessFails ⟨addr, false, 0⟩ = none) (hplain : readsPlainly reg) :
    ∃ r, exec (.registerRead addr) s = .next r.arbitrate ∧ answeredOk s r (some (s.regValue reg)) ∧
      unchangedBut [.port, .sup, .moment] s r := by
  obtain ⟨r, hrow, hok, hframe⟩ := hostRow_read h hd hf (readReg_plain hplain)
  rw [admitted_regValue] at hok
  exact ⟨r, by rw [exec_registerRead, hrow], hok, hframe⟩

theorem fenced_code (s : State) :
    (if s.fenced then 2 else 1) = if s.cmd.haltDeferred = false ∧ s.win.buffer ≠ [] then 2 else 1 := by
  simp [State.fenced]

/-- Settles O14: a plain read is a read without effect, and each packed value is that of its register's lemma. -/
theorem plainReadHasNoSideEffect : Obligations.PlainReadHasNoSideEffect := by
  unfold Obligations.PlainReadHasNoSideEffect
  refine ⟨fun s addr reg h hd hf hwin hlist hcount => read_plain h hd hf ⟨hwin, hlist, hcount⟩, fun s => ?_⟩
  refine ⟨cmdStatus_empty, ?_, ?_, irqInService_value, ?_, evtStatus_value, reserved_eq, ?_, ?_, ?_, rfl, memStatus_value s, ?_,
    ?_, scrubCfg_value s, ?_, rfl, ?_, ?_, irqPending_getLsbD s, irqPending_lt s, ?_, ?_, fun n => ?_⟩
  · intro e rest hq hdepth heng
    beta_reduce; rw [cmdStatus_waiting hq hdepth heng, fenced_code]
  · intro e rest hq c hdepth hdone heng
    cases c <;> exact cmdStatus_executing hq hdepth hdone heng
  · refine (hostErr_value s).trans ?_
    cases s.port.err.reason with
    | none => rfl
    | some r => simp only [reason_code]
  · beta_reduce; rw [resetCause_value, resetKind_code]
  · intro hcount
    beta_reduce; rw [supStatus_value hcount, supSt_code]
  · beta_reduce; rw [powerCtrl_value, power_code]
  · intro hlen
    exact placed_zero_toNat _ (by omega)
  · intro haddr
    refine (eccLastAddr_value haddr).trans ?_
    cases s.ecc.last.reader <;> rfl
  · intro hpos
    exact placed_zero_toNat _ (by omega)
  · intro hpre
    exact placed_zero_toNat _ (by omega)
  · exact placed_zero_toNat _ (by omega)
  · exact placed_zero_toNat _ (by cases s.port.lock <;> decide)
  · intro reg hreg
    simp only [List.mem_cons, List.not_mem_nil, or_false] at hreg
    rcases hreg with rfl | rfl | rfl | rfl | rfl | rfl | rfl <;> rfl
  · refine ⟨?_, lnBind_value s n, ?_, lnQueues_none, lnQueues_ingress, lnQueues_egress⟩
    · beta_reduce; rw [lnCfg_value, dir_code, ingressPolicy_code, egressPolicy_code]
    · intro hfifo
      refine (lnStatus_value hfifo).trans ?_
      rw [laneSt_code]
      cases (s.lane n).sub <;> rfl

/-! ## Plain writes -/

/-- A write passes the checks of R3 where its register, the power state, the lock and the register's block allow it. -/
theorem accessFails_write {s : State} {addr : BitVec 8} {data : Word} {reg : Reg} (hd : decodeReg addr = some reg)
    (hpower : s.power = .retain → reg.inRetain = true) (hinit : reg.initRefused true = false)
    (hreadOnly : reg.readOnly = false) (hlock : reg.lockProtected = true → s.port.lock = false)
    (hstate : s.stateRefuses reg data = false) (hplace : s.placeRefused reg data = false) (hissue : reg ≠ .cmdIssue) :
    s.accessFails ⟨addr, true, data⟩ = none := by
  have hp : ¬ (s.power = .retain ∧ reg.inRetain = false) := fun ⟨h1, h2⟩ => by simp [hpower h1] at h2
  have hl : ¬ (reg.lockProtected = true ∧ s.port.lock = true) := fun ⟨h1, h2⟩ => by simp [hlock h1] at h2
  simp [State.accessFails, hd, hp, hinit, hreadOnly, hl, hstate, hplace, hissue]

/-- A write that passes checks 1 to 5 and that its register's block does not allow fails with STATE. -/
theorem accessFails_state {s : State} {addr : BitVec 8} {data : Word} {reg : Reg} (hd : decodeReg addr = some reg)
    (hpower : s.power = .retain → reg.inRetain = true) (hinit : reg.initRefused true = false)
    (hreadOnly : reg.readOnly = false) (hlock : reg.lockProtected = true → s.port.lock = false)
    (hstate : s.stateRefuses reg data = true) : s.accessFails ⟨addr, true, data⟩ = some .state := by
  have hp : ¬ (s.power = .retain ∧ reg.inRetain = false) := fun ⟨h1, h2⟩ => by simp [hpower h1] at h2
  have hl : ¬ (reg.lockProtected = true ∧ s.port.lock = true) := fun ⟨h1, h2⟩ => by simp [hlock h1] at h2
  simp [State.accessFails, hd, hp, hinit, hreadOnly, hl, hstate]

/-- The writes that make no request of their own. -/
theorem requestsAtOnce_plain {s : State} {a : Access} {reg : Reg} (hd : decodeReg a.addr = some reg) (h1 : reg ≠ .cmdIssue)
    (h2 : reg ≠ .slotSel) (h3 : reg ≠ .supKick) : s.requestsAtOnce a = false := by
  unfold State.requestsAtOnce
  rw [hd]
  cases reg <;> simp_all

/-- A write whose whole effect is what it stores: the row of a quiet port. -/
theorem hostRow_storing {s : State} {addr : BitVec 8} {data : Word} {reg : Reg} (h : quiet s)
    (hd : decodeReg addr = some reg) (hf : s.accessFails ⟨addr, true, data⟩ = none)
    (hq : s.requestsAtOnce ⟨addr, true, data⟩ = false)
    (hw : ∀ t : State, t.writeReg reg data = (t.store reg data).respondOk none) :
    s.hostRow ⟨addr, true, data⟩ = (((admitted s).store reg data).respondOk none).arbitrate := by
  rw [hostRow_writing h hd hf hq, hw]

/-! ## The port's own registers -/

/-- The row of a plain write that every state of a quiet port allows: no check fails, and its whole effect is what it stores. -/
theorem exec_storing {s : State} {i : Instr} {addr : BitVec 8} {data : Word} {reg : Reg} (h : quiet s)
    (hrow : exec i s = .next (s.hostWrite addr data)) (hd : decodeReg addr = some reg)
    (hf : s.accessFails ⟨addr, true, data⟩ = none) (hq : s.requestsAtOnce ⟨addr, true, data⟩ = false)
    (hw : ∀ t : State, t.writeReg reg data = (t.store reg data).respondOk none) :
    exec i s = .next (((admitted s).store reg data).respondOk none).arbitrate := by
  rw [hrow, State.hostWrite, hostRow_storing h hd hf hq hw]

theorem write_hostErr {s : State} (data : Word) (h : quiet s) :
    ∃ r, exec (.hostErrWrite data) s = .next r.arbitrate ∧
      r.port = { answered s.port .ok none with err := ⟨none, 0, false, false, 0⟩ } ∧ r.sup = counted s.sup ∧
      r.moment = Moment.empty ∧ unchangedBut [.port, .sup, .moment] s r := by
  refine ⟨_, exec_storing h rfl (reg := .hostErr) rfl (accessFails_write rfl (fun _ => rfl) rfl rfl nofun rfl rfl nofun)
    (requestsAtOnce_plain (reg := .hostErr) rfl nofun nofun nofun) fun _ => rfl, ?_⟩
  rw [respondOk_eq]
  exact ⟨rfl, rfl, rfl, by intro f hf; cases f <;> first | rfl | exact absurd (by decide) hf⟩

theorem write_cfgLock {s : State} (data : Word) (h : quiet s) (hp : s.power ≠ .retain) :
    ∃ r, exec (.cfgLockWrite data) s = .next r.arbitrate ∧
      r.port = { answered s.port .ok none with lock := s.port.lock || data.getLsbD 0 } ∧ r.sup = counted s.sup ∧
      r.moment = Moment.empty ∧ unchangedBut [.port, .sup, .moment] s r := by
  refine ⟨_, exec_storing h rfl (reg := .cfgLock) rfl (accessFails_write rfl (absurd · hp) rfl rfl nofun rfl rfl nofun)
    (requestsAtOnce_plain (reg := .cfgLock) rfl nofun nofun nofun) fun _ => rfl, ?_⟩
  rw [respondOk_eq]
  exact ⟨rfl, rfl, rfl, by intro f hf; cases f <;> first | rfl | exact absurd (by decide) hf⟩

theorem write_resetArm {s : State} (data : Word) (h : quiet s) (hp : s.power ≠ .retain) :
    ∃ r, exec (.resetArm data) s = .next r.arbitrate ∧
      r.port = { answered s.port .ok none with resetArm := true } ∧ r.sup = counted s.sup ∧ r.moment = Moment.empty ∧
      unchangedBut [.port, .sup, .moment] s r := by
  refine ⟨_, exec_storing h rfl (reg := .resetArm) rfl (accessFails_write rfl (absurd · hp) rfl rfl nofun rfl rfl nofun)
    (requestsAtOnce_plain (reg := .resetArm) rfl nofun nofun nofun) fun _ => rfl, ?_⟩
  rw [respondOk_eq]
  exact ⟨rfl, rfl, rfl, by intro f hf; cases f <;> first | rfl | exact absurd (by decide) hf⟩

theorem write_resetGo {s : State} (data : Word) (h : quiet s) (hp : s.power ≠ .retain) (harm : s.port.resetArm = true) :
    ∃ r, exec (.resetGo data) s = .next r.arbitrate ∧ answeredOk s r none ∧ r.rst = { s.rst with softDue := true } ∧
      r.accepting = false ∧ unchangedBut [.port, .sup, .moment, .rst] s r := by
  have hstate : s.stateRefuses .resetGo data = false := by simp [State.stateRefuses, harm]
  refine ⟨_, exec_storing h rfl (reg := .resetGo) rfl (accessFails_write rfl (absurd · hp) rfl rfl nofun hstate rfl nofun)
    (requestsAtOnce_plain (reg := .resetGo) rfl nofun nofun nofun) fun _ => rfl, ?_⟩
  rw [respondOk_eq]
  exact ⟨⟨rfl, rfl, rfl⟩, rfl, by simp [State.accepting, State.store],
    by intro f hf; cases f <;> first | rfl | exact absurd (by decide) hf⟩

/-- Settles O13: each of the four rows is a plain write. -/
theorem portRegistersTakeWrites : Obligations.PortRegistersTakeWrites := by
  unfold Obligations.PortRegistersTakeWrites
  exact ⟨fun _ data h => write_hostErr data h, fun _ data h hp => write_cfgLock data h hp,
    fun _ data h hp => ⟨write_resetArm data h hp, write_resetGo data h hp⟩⟩

end Sys2Proof.Proofs
end

section
/-! PROOFS. The invariants that every step keeps (O5 to O9): the relation `Upholds` between a state and a later one, kept by every
operation that leaves the standing part alone, and shown once for each operation that does not, up to the rows and the step. -/

set_option Elab.async false

namespace Sys2Proof.Proofs

open Sys2Proof.Machine Sys2Proof.Safety Sys2Proof.Laws

/-! ## The two relations -/

/-- The stored priorities of the in-service stack rise strictly from the bottom to the top (R163). -/
def rising (q : List InService) : Prop := (q.map InService.prio).Pairwise (· < ·)

/-- The clamped configuration fields are in their ranges (R11, R41, R166, R171). -/
def inRanges (s : State) : Prop :=
  1 ≤ s.tb.prescale ∧ s.tb.prescale ≤ 4096 ∧ s.sup.timeout ≠ 0 ∧ ∀ n, (s.lane n).markLo ≤ 32 ∧ (s.lane n).markHi ≤ 32

/-- What every change of the state keeps, resets of any kind included. -/
structure KeepsForms (s t : State) : Prop where
  memory : Memory.wf s.mem = true → Memory.wf t.mem = true
  stack : rising s.irq.stack → rising t.irq.stack
  ranges : inRanges s → inRanges t

/-- What a change of the state keeps that is no reset by power or pin: the lock, and an init sweep that is over (R13, R26). -/
structure Upholds (s t : State) : Prop extends KeepsForms s t where
  lock : s.port.lock = true → t.port.lock = true
  sweep : s.sweep.initialized = true ∧ s.sweep.running = false → t.sweep.initialized = true ∧ t.sweep.running = false

theorem KeepsForms.refl (s : State) : KeepsForms s s := ⟨id, id, id⟩

theorem KeepsForms.trans {s t u : State} (h : KeepsForms s t) (k : KeepsForms t u) : KeepsForms s u :=
  ⟨k.memory ∘ h.memory, k.stack ∘ h.stack, k.ranges ∘ h.ranges⟩

theorem Upholds.refl (s : State) : Upholds s s := ⟨.refl s, id, id⟩

theorem Upholds.trans {s t u : State} (h : Upholds s t) (k : Upholds t u) : Upholds s u :=
  ⟨h.toKeepsForms.trans k.toKeepsForms, k.lock ∘ h.lock, k.sweep ∘ h.sweep⟩

theorem laneStanding_of_standing {s t : State} (h : standing t = standing s) (n : LaneId) :
    laneStanding (t.lane n) = laneStanding (s.lane n) := by
  have read (u : State) : (standing u).lanes[n] = laneStanding (u.lane n) := Vector.getElem_map ..
  rw [← read, ← read, h]

theorem inRanges_of_standing {s t : State} (h : standing t = standing s) (hs : inRanges s) : inRanges t := by
  have htb : t.tb = s.tb := congrArg Standing.tb h
  have htimeout : t.sup.timeout = s.sup.timeout := congrArg Standing.timeout h
  obtain ⟨hlo, hhi, hne, hmarks⟩ := hs
  refine ⟨htb ▸ hlo, htb ▸ hhi, htimeout ▸ hne, fun n => ?_⟩
  have hl := laneStanding_of_standing h n
  have hmarkLo : (t.lane n).markLo = (s.lane n).markLo := congrArg LaneStanding.markLo hl
  have hmarkHi : (t.lane n).markHi = (s.lane n).markHi := congrArg LaneStanding.markHi hl
  rw [hmarkLo, hmarkHi]
  exact hmarks n

/-- Everything that is kept stands in the standing part of the state. -/
theorem upholds_of_standing {s t : State} (h : standing t = standing s) : Upholds s t := by
  have hmem : t.mem = s.mem := congrArg Standing.mem h
  have hstack : t.irq.stack = s.irq.stack := congrArg Standing.stack h
  have hlock : t.port.lock = s.port.lock := congrArg Standing.lock h
  have hsweep : t.sweep = s.sweep := congrArg Standing.sweep h
  exact ⟨⟨by rw [hmem]; exact id, by rw [hstack]; exact id, inRanges_of_standing h⟩, by rw [hlock]; exact id,
    by rw [hsweep]; exact id⟩

/-- An operation that leaves the standing part alone follows. -/
theorem Upholds.andThen {s t u : State} (h : Upholds s t) (e : standing u = standing t := by simp) : Upholds s u :=
  h.trans (upholds_of_standing e)

theorem KeepsForms.andThen {s t u : State} (h : KeepsForms s t) (e : standing u = standing t := by simp) :
    KeepsForms s u := h.trans (upholds_of_standing e).toKeepsForms

/-- A change of the memory alone. -/
theorem upholds_mem {s : State} {m : Memory} (h : Memory.wf s.mem = true → Memory.wf m = true) :
    Upholds s { s with mem := m } := ⟨⟨h, id, id⟩, id, id⟩

/-- A change of the in-service stack and the flags alone. -/
theorem upholds_irq {s : State} {q : Irq} (h : rising s.irq.stack → rising q.stack) : Upholds s { s with irq := q } :=
  ⟨⟨id, h, id⟩, id, id⟩

/-- A change of the timebase alone that keeps the prescaler. -/
theorem upholds_tb {s : State} {tb : Timebase} (h : tb.prescale = s.tb.prescale) : Upholds s { s with tb := tb } :=
  ⟨⟨id, id, fun ⟨h1, h2, h3, h4⟩ => ⟨by rw [h]; exact h1, by rw [h]; exact h2, h3, h4⟩⟩, id, id⟩

/-- A change of the supervisor alone that keeps the timeout. -/
theorem upholds_sup {s : State} {p : Supervisor} (h : p.timeout = s.sup.timeout) : Upholds s { s with sup := p } :=
  ⟨⟨id, id, fun ⟨h1, h2, h3, h4⟩ => ⟨h1, h2, by rw [h]; exact h3, h4⟩⟩, id, id⟩

/-- A change of one lane that leaves its marks in their range. -/
theorem upholds_updLane (s : State) (n : LaneId) {f : Lane → Lane}
    (h : ∀ l : Lane, l.markLo ≤ 32 ∧ l.markHi ≤ 32 → (f l).markLo ≤ 32 ∧ (f l).markHi ≤ 32) :
    Upholds s (s.updLane n f) := by
  refine ⟨⟨id, id, fun ⟨h1, h2, h3, h4⟩ => ⟨h1, h2, h3, fun m => ?_⟩⟩, id, id⟩
  by_cases hm : m = n
  · subst hm; rw [lane_updLane_same]; exact h _ (h4 m)
  · rw [lane_updLane_other s n m f hm]; exact h4 m

/-! ## Register accesses -/

theorem rising_dropLast {q : List InService} (h : rising q) : rising q.dropLast := by
  unfold rising
  rw [List.map_dropLast]
  exact h.sublist (List.dropLast_sublist _)

/-- What an acknowledge picks qualifies: it is found among the groups that do. -/
theorem winner_qualifies {q : Irq} {g : Group} (h : q.winner = some g) : q.qualifies g = true := by
  have keep : ∀ (l : List Group) (b : Option Group),
      l.foldl (fun best g =>
        match best with
        | none => some g
        | some b => if q.priority b < q.priority g then some g else some b) b = some g → g ∈ l ∨ b = some g := by
    intro l
    induction l with
    | nil => exact fun b hb => .inr hb
    | cons x xs ih =>
      intro b hb
      rcases ih _ hb with hmem | hnew
      · exact .inl (List.mem_cons_of_mem _ hmem)
      · cases b with
        | none => exact .inl (by simp_all)
        | some b => by_cases hlt : q.priority b < q.priority x <;> simp_all
  rcases keep _ _ h with hmem | hnone
  · exact (List.mem_filter.1 hmem).2
  · cases hnone

/-- Every entry of a rising stack is at most its top. -/
theorem le_top {q : List InService} (h : rising q) {top : InService} (ht : q.getLast? = some top) {x : InService}
    (hx : x ∈ q) : x.prio ≤ top.prio := by
  obtain ⟨l, rfl⟩ := List.getLast?_eq_some_iff.1 ht
  simp only [rising, List.map_append, List.map_cons, List.map_nil, List.pairwise_append] at h
  rcases List.mem_append.1 hx with hl | hl
  · exact (h.2.2 _ (List.mem_map_of_mem hl) _ (List.mem_singleton_self _)).le
  · rw [List.mem_singleton.1 hl]

/-- An acknowledge pushes a priority above the top (R161, R163). -/
theorem acknowledged_rising {q : Irq} (h : rising q.stack) : rising q.acknowledged.stack := by
  unfold Irq.acknowledged
  split
  · exact h
  · rename_i g hg
    have hq := winner_qualifies hg
    simp only [Irq.qualifies, Bool.and_eq_true] at hq
    obtain ⟨-, htop⟩ := hq
    simp only [rising, List.map_append, List.map_cons, List.map_nil, List.pairwise_append]
    refine ⟨h, List.pairwise_singleton _ _, ?_⟩
    rintro p hp _ ⟨⟩
    · obtain ⟨x, hx, rfl⟩ := List.mem_map.1 hp
      cases hl : q.stack.getLast? with
      | none => rw [List.getLast?_eq_none_iff.1 hl] at hx; cases hx
      | some top =>
        rw [hl] at htop
        exact lt_of_le_of_lt (le_top h hl hx) (of_decide_eq_true htop)
    · contradiction

@[simp] theorem reportOverflow_standing (s : State) : standing s.reportOverflow = standing s := by
  unfold State.reportOverflow; split <;> rfl

@[simp] theorem popWord_standing (s : State) : standing s.popWord = standing s := by
  unfold State.popWord; repeat' split
  · rfl
  · rfl
  · rfl
  · rw [reportOverflow_standing]; rfl

/-- Of the reads only the acknowledge changes what stands: it pushes onto the in-service stack. -/
theorem readEffect_upholds (s : State) (r : Reg) : Upholds s (s.readEffect r) := by
  cases r with
  | irqVector => exact upholds_irq acknowledged_rising
  | evtData => exact upholds_of_standing (popWord_standing s)
  | lnCntData n =>
    simp only [State.readEffect]
    exact upholds_updLane s n fun _ h => h
  | _ => exact upholds_of_standing rfl

theorem readReg_upholds (s : State) (r : Reg) : Upholds s (s.readReg r) := by
  cases r with
  | winData p => exact upholds_of_standing (windowRead_standing s p)
  | slotData =>
    refine upholds_of_standing ?_
    simp only [State.readReg]; split <;> simp
  | _ => exact (readEffect_upholds s _).andThen (respondOk_standing _ _)

@[simp] theorem kickSup_standing (s : State) : standing s.kickSup = standing s := by
  unfold State.kickSup; split
  · rfl
  · simp
  · rw [endSafe_standing]; rfl

@[simp] theorem enqueue_standing (s : State) (w : Word) : standing (s.enqueue w) = standing s := by
  simp only [State.enqueue, askDispatch_standing]; rfl

theorem markWrite_ranges (w : Word) : min 32 (field w 0 6) ≤ 32 ∧ min 32 (field w 8 6) ≤ 32 := by omega

theorem clamp_range (lo hi v : Nat) (h : lo ≤ hi) : lo ≤ clamp lo hi v ∧ clamp lo hi v ≤ hi := by
  unfold clamp; omega

theorem timeoutWrite_ne_zero (w : Word) : BitVec.ofNat 16 (clamp 1 65535 (field w 0 16)) ≠ 0 := by
  obtain ⟨hlo, hhi⟩ := clamp_range 1 65535 (field w 0 16) (by decide)
  intro h
  have h0 : clamp 1 65535 (field w 0 16) % 65536 = 0 := congrArg BitVec.toNat h
  omega

theorem writeScrubCfg_upholds (s : State) (w : Word) : Upholds s (s.writeScrubCfg w) := by
  have h (x : Scrubber) (y : Arbiter) : Upholds s { s with scrub := x, arb := y } := ⟨⟨id, id, id⟩, id, id⟩
  exact (h _ _).andThen (scrubRaise_standing _)

theorem selectSlot_upholds (s : State) (w : Word) : Upholds s (s.selectSlot w) := by
  have h (x : SlotPort) : Upholds s { s with slotPort := x } := ⟨⟨id, id, id⟩, id, id⟩
  exact (h _).andThen (ask_standing _ _)

/-- Of the writes those of TB_PRESCALE, SUP_TIMEOUT, LN_MARKS, CFG_LOCK and IRQ_EOI bear on what is kept, and keep it. -/
theorem store_upholds (s : State) (r : Reg) (w : Word) : Upholds s (s.store r w) := by
  cases r with
  | cfgLock => exact ⟨⟨id, id, id⟩, fun h => by simp [State.store, h], id⟩
  | irqEoi => exact upholds_irq rising_dropLast
  | tbPrescale =>
    obtain ⟨hlo, hhi⟩ := clamp_range 1 4096 (field w 0 13) (by decide)
    exact ⟨⟨id, id, fun ⟨_, _, h3, h4⟩ => ⟨hlo, hhi, h3, h4⟩⟩, id, id⟩
  | supTimeout => exact ⟨⟨id, id, fun ⟨h1, h2, _, h4⟩ => ⟨h1, h2, timeoutWrite_ne_zero w, h4⟩⟩, id, id⟩
  | lnMarks n =>
    simp only [State.store]
    exact upholds_updLane s n fun _ _ => markWrite_ranges w
  | lnCfg n =>
    simp only [State.store]
    refine upholds_updLane s n fun l h => ?_
    unfold Lane.configured; split <;> exact h
  | lnFillLen n | lnFillWord n | lnCntSel n =>
    simp only [State.store]
    exact upholds_updLane s n fun _ h => h
  | cmdIssue => exact upholds_of_standing (enqueue_standing s w)
  | supKick => exact upholds_of_standing (kickSup_standing s)
  | scrubCfg => exact writeScrubCfg_upholds s w
  | slotSel => exact selectSlot_upholds s w
  | _ => exact ⟨⟨id, id, id⟩, id, id⟩

/-- Entering and leaving RETAIN changes the power state and the supervisor's counts. -/
theorem enterRetain_upholds (s : State) : Upholds s s.enterRetain := by
  unfold State.enterRetain
  by_cases h : s.sup.st = .armed <;> simp only [h, if_true, if_false] <;> exact ⟨⟨id, id, id⟩, id, id⟩

theorem leaveRetain_upholds (s : State) : Upholds s s.leaveRetain := by
  unfold State.leaveRetain
  by_cases h : s.sup.st = .off <;> simp only [h, if_true, if_false] <;> exact ⟨⟨id, id, id⟩, id, id⟩

theorem setPower_upholds (s : State) (p : Power) : Upholds s { s with power := p } := ⟨⟨id, id, id⟩, id, id⟩

theorem requestPower_upholds (s : State) (p : Power) : Upholds s (s.requestPower p) := by
  unfold State.requestPower; repeat' split
  · exact (leaveRetain_upholds s).andThen
  · exact (setPower_upholds s .run).andThen
  · exact (setPower_upholds s .doze).andThen
  · exact upholds_of_standing (by simp)
  · exact upholds_of_standing (by simp)
  · exact (enterRetain_upholds s).andThen

theorem armSup_standing (s : State) : standing s.armSup = standing s := by
  unfold State.armSup; split
  · rw [respondOk_standing]; rfl
  all_goals rfl

theorem writeReg_upholds (s : State) (r : Reg) (w : Word) : Upholds s (s.writeReg r w) := by
  cases r with
  | winData p => exact upholds_of_standing (windowWrite_standing s p w)
  | powerCtrl => exact requestPower_upholds s _
  | supArm => exact upholds_of_standing (armSup_standing s)
  | engineAbort => exact upholds_of_standing (by simp [State.writeReg])
  | _ => exact (store_upholds s _ w).andThen (respondOk_standing _ _)

theorem accepted_standing (s : State) : standing s.accepted = standing s := rfl

theorem transact_upholds (s : State) (a : Access) : Upholds s (s.transact a) := by
  have hs : Upholds s s.accepted := upholds_of_standing (accepted_standing s)
  unfold State.transact; repeat' split
  · exact hs.andThen
  · exact hs.trans (writeReg_upholds _ _ _)
  · exact hs.trans (readReg_upholds _ _)
  · exact .refl s

/-! ## Resets -/

theorem lane_afterReset (s : State) (kind : ResetKind) (n : LaneId) :
    (s.afterReset kind).lane n = Lane.reset (s.lane n).trig :=
  Vector.getElem_map (f := fun l : Lane => Lane.reset l.trig) ..

/-- The ranges hold at the defaults. -/
theorem afterReset_inRanges (s : State) (kind : ResetKind) : inRanges (s.afterReset kind) := by
  have htimeout : (s.afterReset kind).sup.timeout = 1000 := by cases kind <;> rfl
  refine ⟨Nat.le_refl 1, show 1 ≤ 4096 by decide, by rw [htimeout]; decide, fun n => ?_⟩
  rw [lane_afterReset]
  exact ⟨show 8 ≤ 32 by decide, show 24 ≤ 32 by decide⟩

theorem afterReset_keepsForms (s : State) (kind : ResetKind) : KeepsForms s (s.afterReset kind) := by
  refine ⟨fun h => ?_, fun _ => List.Pairwise.nil, fun _ => afterReset_inRanges s kind⟩
  unfold State.afterReset; dsimp only; split
  · rfl
  · exact h

/-- A supervisor or soft reset keeps the lock and the sweep (R176). -/
theorem afterReset_upholds (s : State) {kind : ResetKind} (h : kind.keeps = true) : Upholds s (s.afterReset kind) := by
  refine ⟨afterReset_keepsForms s kind, fun hl => ?_, fun hs => ?_⟩
  · show (kind.keeps && s.port.lock) = true
    rw [h, hl]; rfl
  · cases kind with
    | sup | soft => exact hs
    | por | pin => cases h

/-- A pin reset keeps a sweep that is over (R26). -/
theorem afterPin_sweep (s : State) (h : s.sweep.initialized = true ∧ s.sweep.running = false) :
    (s.afterReset .pin).sweep = s.sweep := by
  show (if s.sweep.initialized then s.sweep else _) = s.sweep
  rw [if_pos h.1]

@[simp] theorem recordReset_standing (s : State) : standing s.recordReset = standing s := rfl

@[simp] theorem sampleSupen_standing (s : State) (b : Bool) : standing (s.sampleSupen b) = standing s := rfl

@[simp] theorem openMoment_standing (s : State) (x : List Source) : standing (s.openMoment x) = standing s := rfl

@[simp] theorem openFor_standing (s : State) (a : Access) : standing (s.openFor a) = standing s := rfl

theorem acceptAsked_upholds (s : State) : Upholds s s.acceptAsked := by
  unfold State.acceptAsked; split
  · exact .refl s
  · exact (upholds_of_standing (by rw [openFor_standing]; rfl)).trans (transact_upholds _ _)

theorem serveReset_upholds (s : State) : Upholds s s.serveReset := by
  have hkeeps : s.dueReset.keeps = true := by unfold State.dueReset; split <;> rfl
  have h := (afterReset_upholds s hkeeps).andThen (recordReset_standing _)
  simp only [State.serveReset, State.innerReset]
  refine Upholds.trans ?_ (acceptAsked_upholds _)
  split
  · exact h.andThen
  · exact h

theorem powerOn_keepsForms (s : State) (supen : Bool) : KeepsForms s (s.powerOn supen) :=
  ((afterReset_keepsForms s .por).andThen (by simp)).trans (acceptAsked_upholds _).toKeepsForms

theorem memoryAfter_wf (s : State) (g : Grant) (k : Nat) (h : Memory.wf s.mem = true) :
    Memory.wf (s.memoryAfter g k) = true := by
  unfold State.memoryAfter; split
  · exact writeBack_wf _ _ h
  all_goals exact writeWords_wf _ _ _ h

theorem cutGrant_upholds (s : State) (cut : Nat) : Upholds s (s.cutGrant cut) := by
  unfold State.cutGrant; split
  · exact .refl s
  · exact upholds_mem (memoryAfter_wf s _ _)

theorem setPinHeld_upholds (s : State) (b : Bool) : Upholds s { s with rst := { s.rst with pinHeld := b } } :=
  ⟨⟨id, id, id⟩, id, id⟩

theorem pinLow_keepsForms (s : State) (cut : Nat) : KeepsForms s (s.pinLow cut) :=
  ((cutGrant_upholds s cut).toKeepsForms.trans (afterReset_keepsForms _ .pin)).trans
    (setPinHeld_upholds _ true).toKeepsForms

theorem pinLow_sweep (s : State) (cut : Nat) (h : s.sweep.initialized = true ∧ s.sweep.running = false) :
    (s.pinLow cut).sweep.initialized = true ∧ (s.pinLow cut).sweep.running = false := by
  have hcut := (cutGrant_upholds s cut).sweep h
  show ((s.cutGrant cut).afterReset .pin).sweep.initialized = true ∧ ((s.cutGrant cut).afterReset .pin).sweep.running = false
  rw [afterPin_sweep _ hcut]
  exact hcut

theorem pinHigh_upholds (s : State) (supen : Bool) : Upholds s (s.pinHigh supen) :=
  ((setPinHeld_upholds s false).andThen (by simp)).trans (acceptAsked_upholds _)

/-! ## Services and moments -/

theorem serveDue_upholds (s : State) (d : Due) : Upholds s (s.serveDue d) := by
  by_cases h : d = .reset
  · subst h; exact (serveReset_upholds s).andThen (arbitrate_standing _)
  · exact upholds_of_standing (serveDue_standing s d h)

theorem settleFor_upholds (k : Nat) : ∀ s : State, Upholds s (State.settleFor k s) := by
  induction k with
  | zero => exact .refl
  | succ k ih =>
    intro s; unfold State.settleFor; split
    · exact .refl s
    · exact (serveDue_upholds s _).trans (ih _)

theorem settle_upholds (s : State) : Upholds s s.settle := settleFor_upholds _ s

theorem serveAskedFor_upholds (k : Nat) : ∀ s : State, Upholds s (State.serveAskedFor k s) := by
  induction k with
  | zero => exact .refl
  | succ k ih =>
    intro s; unfold State.serveAskedFor; repeat' split
    · exact (serveDue_upholds s _).trans (ih _)
    all_goals exact .refl s

theorem beforeMark_upholds (s : State) : Upholds s s.beforeMark := serveAskedFor_upholds _ s

theorem joinMoment_upholds (s : State) (src : Source) : Upholds s (s.joinMoment src) := by
  unfold State.joinMoment; repeat' split
  · exact upholds_of_standing (openMoment_standing _ _)
  · exact (settle_upholds s).andThen (openMoment_standing _ _)
  · exact upholds_of_standing rfl

@[simp] theorem heard_standing (s t : State) : standing (s.heard t) = standing t := by
  unfold State.heard; split <;> rfl

theorem serviceRow_upholds (s : State) (d : Due) : Upholds s (s.serviceRow d) := by
  unfold State.serviceRow; split
  · exact serveDue_upholds s d
  · exact .refl s

theorem commandRow_upholds (s : State) (mine : BitVec 8 → Bool) : Upholds s (s.commandRow mine) := by
  unfold State.commandRow; split
  · exact serviceRow_upholds s _
  · exact .refl s

/-! ## The host's rows -/

theorem freshMoment_upholds (s : State) (a : Access) : Upholds s (s.freshMoment a) :=
  (settle_upholds s).andThen (openFor_standing _ a)

theorem meetMoment_upholds (s : State) (a : Access) : Upholds s (s.meetMoment a) := by
  have h : Upholds s (if decodeReg a.addr = some .cmdIssue then s.beforeMark else s) := by
    split
    · exact beforeMark_upholds s
    · exact .refl s
  simp only [State.meetMoment]
  generalize (if decodeReg a.addr = some .cmdIssue then s.beforeMark else s) = t at h ⊢
  split
  · exact h.trans (freshMoment_upholds _ a)
  · exact h.andThen (moment_standing _ _)

theorem beforeHost_upholds (s : State) (a : Access) : Upholds s (s.beforeHost a) := by
  unfold State.beforeHost; repeat' split
  · exact freshMoment_upholds s a
  · exact .refl s
  · exact upholds_of_standing (openMoment_standing _ _)
  · exact meetMoment_upholds s a
  · exact freshMoment_upholds s a

theorem hostRow_upholds (s : State) (a : Access) : Upholds s (s.hostRow a) := by
  simp only [State.hostRow]; repeat' split
  · exact .refl s
  · exact beforeHost_upholds s a
  · exact ((beforeHost_upholds s a).trans (transact_upholds _ a)).andThen
  · exact (beforeHost_upholds s a).andThen rfl

/-- The end of a wait keeps the standing part where its answer does. -/
theorem endWait_standing (s : State) {answer : State → Access → State} (h : ∀ t a, standing (answer t a) = standing t) :
    standing (s.endWait answer) = standing s := by
  unfold State.endWait; repeat' split
  all_goals simp [h]

@[simp] theorem timeOut_standing (s : State) : standing s.timeOut = standing s := by
  unfold State.timeOut; split
  · rfl
  · exact endWait_standing s fun t a => by simp

@[simp] theorem sampleAbort_standing (s : State) (level : Bool) : standing (s.sampleAbort level) = standing s := by
  simp only [State.sampleAbort]; split
  · rw [endWait_standing _ respondAborted_standing]; rfl
  · rfl

theorem beforePins_upholds (s : State) : Upholds s s.beforePins := by
  unfold State.beforePins; split
  · exact settle_upholds s
  · exact .refl s

/-! ## The ends of grants -/

@[simp] theorem closeGrant_standing (s : State) : standing s.closeGrant = standing s := rfl

@[simp] theorem askDeferredHalt_standing (s : State) (n : LaneId) : standing (s.askDeferredHalt n) = standing s := by
  unfold State.askDeferredHalt; split <;> simp

theorem wroteGrant_upholds (s : State) (g : Grant) : Upholds s (s.wroteGrant g) := upholds_mem (memoryAfter_wf s g _)

theorem disturbed_upholds (s : State) (flips : List Flip) : Upholds s (s.disturbed flips) :=
  upholds_mem (disturb_wf _ flips s.mem)

/-- Steps 1 and 2 of a read grant's end. -/
theorem readGrant_upholds (s : State) (flips : List Flip) : Upholds s (s.beforeMark.disturbed flips) :=
  (beforeMark_upholds s).trans (disturbed_upholds _ flips)

theorem endIngressGrant_upholds (s : State) (n : LaneId) (g : Grant) : Upholds s (s.endIngressGrant n g) := by
  refine (wroteGrant_upholds s g).andThen ?_
  simp only [State.endIngressGrant, arbitrate_standing, heard_standing]
  repeat' split
  all_goals simp

theorem endEgressGrant_upholds (s : State) (n : LaneId) (g : Grant) (flips : List Flip) :
    Upholds s (s.endEgressGrant n g flips) :=
  (readGrant_upholds s flips).andThen (by
    simp [State.endEgressGrant, keepsStanding_iff, laneStanding, Lane.fetchedWords])

theorem endWindowWrite_upholds (s : State) (g : Grant) : Upholds s (s.endWindowWrite g) :=
  ((beforeMark_upholds s).trans (wroteGrant_upholds _ g)).andThen (by simp [State.endWindowWrite])

theorem endWindowRead_upholds (s : State) (g : Grant) (flips : List Flip) : Upholds s (s.endWindowRead g flips) := by
  refine (readGrant_upholds s flips).andThen ?_
  simp only [State.endWindowRead, arbitrate_standing, closeGrant_standing]; split <;> simp

@[simp] theorem raiseWrite_standing (s : State) : standing s.raiseWrite = standing s := by
  unfold State.raiseWrite; split <;> rfl

@[simp] theorem holdBurst_standing (s : State) (rs : List WordRead) : standing (s.holdBurst rs) = standing s := rfl

theorem endCopyRead_upholds (s : State) (g : Grant) (flips : List Flip) : Upholds s (s.endCopyRead g flips) := by
  refine (readGrant_upholds s flips).andThen ?_
  simp only [State.endCopyRead, arbitrate_standing, raiseWrite_standing, closeGrant_standing]; split <;> simp

@[simp] theorem countDone_standing (s : State) (k : Nat) : standing (s.countDone k) = standing s := rfl

theorem endCopyWrite_upholds (s : State) (g : Grant) : Upholds s (s.endCopyWrite g) :=
  (wroteGrant_upholds s g).andThen (by simp [State.endCopyWrite])

theorem endFillGrant_upholds (s : State) (g : Grant) : Upholds s (s.endFillGrant g) :=
  (wroteGrant_upholds s g).andThen (by simp [State.endFillGrant])

@[simp] theorem measured_standing (s : State) (rs : List WordRead) : standing (s.measured rs) = standing s := rfl

@[simp] theorem storeStats_standing (s : State) : standing s.storeStats = standing s := by
  unfold State.storeStats; repeat' split
  all_goals rfl

@[simp] theorem failMeasure_standing (s : State) (a : Nat) : standing (s.failMeasure a) = standing s := by
  simp only [State.failMeasure, endLong_standing]; split <;> rfl

theorem endMeasure_upholds (s : State) (g : Grant) (flips : List Flip) : Upholds s (s.endMeasure g flips) := by
  refine (readGrant_upholds s flips).andThen ?_
  simp only [State.endMeasure, arbitrate_standing, closeGrant_standing]; split <;> simp

theorem answerRetain_upholds (s : State) : Upholds s s.answerRetain := by
  unfold State.answerRetain; split
  · exact (enterRetain_upholds s).andThen
  all_goals exact .refl s

theorem endScrub_upholds (s : State) (g : Grant) (flips : List Flip) : Upholds s (s.endScrub g flips) := by
  have hwriteBack :=
    (readGrant_upholds s flips).trans (upholds_mem (writeBack_wf _ ((s.beforeMark.disturbed flips).grantReads g)))
  refine Upholds.andThen (Upholds.trans (hwriteBack.andThen ?_) (answerRetain_upholds _)) (arbitrate_standing _)
  rw [scrubRaise_standing, closeGrant_standing, scrubAdvance_standing]
  exact eccReport_standing _ _ _

/-! ## Time -/

@[simp] theorem tickScrubber_standing (s : State) : standing s.tickScrubber = standing s := by
  unfold State.tickScrubber; split <;> rfl

@[simp] theorem tickSupervisor_standing (s : State) : standing s.tickSupervisor = standing s := by
  unfold State.tickSupervisor; split <;> rfl

@[simp] theorem causeOfTick_standing (s : State) : standing s.causeOfTick = standing s := by
  simp only [State.causeOfTick]; repeat' split
  all_goals simp

theorem tick_upholds (s : State) : Upholds s s.tick := by
  unfold State.tick; split
  · exact (upholds_tb (tb := { s.tb with count := s.tb.count + 1, prescaleCount := 0 }) rfl).andThen
  · exact .refl s

theorem finishSweep_upholds (s : State) : Upholds s s.finishSweep := by
  have h : Upholds s { s with mem := s.mem.zeroFrom s.sweep.next s.memWords, sweep := ⟨false, 0, true⟩ } :=
    ⟨⟨zeroFrom_wf _ _ _, id, id⟩, id, fun _ => ⟨rfl, rfl⟩⟩
  exact h.andThen ((scrubRaise_standing _).trans (raise_standing _ _))

theorem sweepWord_upholds (s : State) : Upholds s s.sweepWord := by
  unfold State.sweepWord; split
  · exact ⟨⟨write_wf _ _ _, id, id⟩, id, id⟩
  · exact finishSweep_upholds s

theorem clockSweep_upholds (s : State) : Upholds s s.clockSweep := by
  unfold State.clockSweep; split
  · exact (sweepWord_upholds s).andThen
  · exact .refl s

@[simp] theorem clockStall_standing (s : State) : standing s.clockStall = standing s := by
  simp only [State.clockStall]; repeat' split
  · rw [timeOut_standing]; rfl
  all_goals rfl

@[simp] theorem clockWindow_standing (s : State) : standing s.clockWindow = standing s := by
  unfold State.clockWindow; split <;> simp

theorem clockTimebase_upholds (s : State) : Upholds s s.clockTimebase := by
  have h := upholds_tb (s := s) (tb := { s.tb with prescaleCount := s.tb.prescaleCount + 1 }) rfl
  simp only [State.clockTimebase]; repeat' split
  · exact h.trans (tick_upholds _)
  · exact h
  · exact .refl s

theorem clock_upholds (s : State) : Upholds s s.clock := by
  unfold State.clock; split
  · exact .refl s
  · exact (((upholds_of_standing (openMoment_standing s [])).trans (clockSweep_upholds _)).andThen (by simp)).trans
      (clockTimebase_upholds _)

theorem idle_upholds (s : State) : Upholds s s.idle := by
  unfold State.idle; split
  · exact serveDue_upholds s _
  · exact clock_upholds s

/-! ## The rows -/

/-- An occurrence at a lane's pins keeps what its action there keeps. -/
theorem laneRow_upholds (s : State) (src : Source) {act : State → State} (h : ∀ t, standing (act t) = standing t) :
    Upholds s (s.laneRow src act) := (joinMoment_upholds s src).andThen ((heard_standing _ _).trans (h _))

theorem beforeTrigger_upholds (s : State) (n : LaneId) : Upholds s (s.beforeTrigger n) := by
  unfold State.beforeTrigger; split
  · exact settle_upholds s
  · exact .refl s

/-- Where the answer is a next state, it is related to the state before. -/
def Answers (rel : State → State → Prop) (s : State) (o : Answer) : Prop := ∀ t, o = .next t → rel s t

theorem answers_next {rel : State → State → Prop} {s t : State} (h : rel s t) : Answers rel s (.next t) := by
  rintro _ ⟨⟩; exact h

theorem answers_fault (rel : State → State → Prop) (s : State) (f : Fault) : Answers rel s (.fault f) :=
  fun _ h => by cases h

/-- A grant end row keeps what its end sequence keeps. -/
theorem grantRow_upholds (s : State) (mine : Client → Bool) {finish : Grant → State → State}
    (h : ∀ g t, Upholds t (finish g t)) : Answers Upholds s (s.grantRow mine finish) := by
  unfold State.grantRow; repeat' split
  · exact answers_next (.refl s)
  · exact answers_next ((joinMoment_upholds s _).trans (h _ _))
  · exact answers_fault _ s _
  · exact answers_next (.refl s)

theorem execIngressGrantEnd_upholds (s : State) : Answers Upholds s (execIngressGrantEnd s) :=
  grantRow_upholds s _ fun g t => by
    split
    · exact endIngressGrant_upholds t _ g
    · exact .refl t

theorem execEgressGrantEnd_upholds (flips : List Flip) (s : State) :
    Answers Upholds s (execEgressGrantEnd flips s) :=
  grantRow_upholds s _ fun g t => by
    split
    · exact endEgressGrant_upholds t _ g flips
    · exact .refl t

theorem execWindowWriteGrantEnd_upholds (s : State) :
    Answers Upholds s (execWindowWriteGrantEnd s) :=
  grantRow_upholds s _ fun g t => endWindowWrite_upholds t g

theorem execWindowReadGrantEnd_upholds (flips : List Flip) (s : State) :
    Answers Upholds s (execWindowReadGrantEnd flips s) :=
  grantRow_upholds s _ fun g t => endWindowRead_upholds t g flips

theorem execCopyReadGrantEnd_upholds (flips : List Flip) (s : State) :
    Answers Upholds s (execCopyReadGrantEnd flips s) :=
  grantRow_upholds s _ fun g t => endCopyRead_upholds t g flips

theorem execCopyWriteGrantEnd_upholds (s : State) :
    Answers Upholds s (execCopyWriteGrantEnd s) :=
  grantRow_upholds s _ fun g t => endCopyWrite_upholds t g

theorem execFillGrantEnd_upholds (s : State) :
    Answers Upholds s (execFillGrantEnd s) :=
  grantRow_upholds s _ fun g t => endFillGrant_upholds t g

theorem execMeasureGrantEnd_upholds (flips : List Flip) (s : State) :
    Answers Upholds s (execMeasureGrantEnd flips s) :=
  grantRow_upholds s _ fun g t => endMeasure_upholds t g flips

theorem execScrubGrantEnd_upholds (flips : List Flip) (s : State) :
    Answers Upholds s (execScrubGrantEnd flips s) :=
  grantRow_upholds s _ fun g t => endScrub_upholds t g flips

/-- Every command but the power-on reset and the pin reset. -/
theorem exec_upholds (c : Instr) (s : State) (hpor : ∀ b, c ≠ .powerOnReset b) (hpin : ∀ k, c ≠ .pinReset k) :
    Answers Upholds s (exec c s) := by
  cases c with
  | registerWrite | registerRead | hostErrWrite | cfgLockWrite | resetArm | resetGo | winDataRead | winDataWrite
  | slotSelWrite | slotDataRead | evtDataRead | evtLostRead | eccCorrCountRead | eccUncorrCountRead | lnCntDataRead
  | acknowledge | eoi | irqPendingWrite | engineAbort | supArm | supKick | scrubCfgWrite | tbPrescaleWrite | lnCfgWrite
  | run | doze | retain | cmdIssue => exact answers_next (hostRow_upholds s _)
  | slotAssign | slotUnassign | claim | alloc | release | submit | laneStart | laneStop | laneHalt | laneFlush | bind
  | copy | fill | measure | sync | unknownCommand | commandDispatch => exact answers_next (commandRow_upholds s _)
  | snapshot | publish | ret | take | allocate | windowClosed | scrubRequest | supWarning | supExpired =>
    exact answers_next (serviceRow_upholds s _)
  | haltAtGrantEnd =>
    refine answers_next ?_
    split
    · exact serviceRow_upholds s _
    · exact .refl s
  | timeout => exact answers_next ((beforePins_upholds s).andThen)
  | abort level => exact answers_next ((beforePins_upholds s).andThen)
  | ingressGrantEnd => exact execIngressGrantEnd_upholds s
  | egressGrantEnd flips => exact execEgressGrantEnd_upholds flips s
  | windowWriteGrantEnd => exact execWindowWriteGrantEnd_upholds s
  | windowReadGrantEnd flips => exact execWindowReadGrantEnd_upholds flips s
  | copyReadGrantEnd flips => exact execCopyReadGrantEnd_upholds flips s
  | copyWriteGrantEnd => exact execCopyWriteGrantEnd_upholds s
  | fillGrantEnd => exact execFillGrantEnd_upholds s
  | measureGrantEnd flips => exact execMeasureGrantEnd_upholds flips s
  | scrubGrantEnd flips => exact execScrubGrantEnd_upholds flips s
  | wordArrival n data sof eof =>
    exact answers_next ((laneRow_upholds s (.stream n) fun t => arrive_standing t n data sof eof).andThen
      (arbitrate_standing _))
  | wordSent n =>
    exact answers_next ((laneRow_upholds s (.stream n) fun t => send_standing t n).andThen (arbitrate_standing _))
  | triggerEdge n level =>
    exact answers_next ((beforeTrigger_upholds s n).trans (laneRow_upholds _ _ fun t => sampleTrigger_standing t n level))
  | timebaseTick =>
    exact answers_next (((settle_upholds s).andThen (openMoment_standing _ [])).trans (tick_upholds _))
  | initDone =>
    refine answers_next (((settle_upholds s).andThen (openMoment_standing _ [])).trans ?_)
    split
    · exact (finishSweep_upholds _).andThen
    · exact .refl _
  | powerOnReset supen => exact absurd rfl (hpor supen)
  | pinReset cut => exact absurd rfl (hpin cut)
  | rstnRelease supen =>
    refine answers_next ?_
    split
    · exact (pinHigh_upholds s supen).andThen
    · exact .refl s
  | supervisorReset | softReset =>
    refine answers_next ?_
    split
    · exact serviceRow_upholds s _
    all_goals exact .refl s

theorem execPinReset_keeps (cut : Nat) (s t : State) (h : exec (.pinReset cut) s = .next t) :
    KeepsForms s t ∧ (s.sweep.initialized = true ∧ s.sweep.running = false →
      t.sweep.initialized = true ∧ t.sweep.running = false) := by
  have h : execPinReset cut s = .next t := h
  unfold execPinReset at h; repeat' split at h
  · cases h; exact ⟨.refl s, id⟩
  · cases h; exact ⟨pinLow_keepsForms s cut, pinLow_sweep s cut⟩
  · cases h

/-- Every command. -/
theorem exec_keepsForms (c : Instr) (s : State) : Answers KeepsForms s (exec c s) := by
  by_cases hpor : ∃ b, c = .powerOnReset b
  · obtain ⟨b, rfl⟩ := hpor
    exact answers_next ((powerOn_keepsForms s b).andThen)
  · by_cases hpin : ∃ k, c = .pinReset k
    · obtain ⟨k, rfl⟩ := hpin
      exact fun t h => (execPinReset_keeps k s t h).1
    · exact fun t h => (exec_upholds c s (fun b e => hpor ⟨b, e⟩) (fun k e => hpin ⟨k, e⟩) t h).toKeepsForms

/-- Every step. -/
theorem step_keepsForms {s t : State} (h : step s = .next t) : KeepsForms s t := by
  unfold step at h; split at h
  · cases h; exact (idle_upholds s).toKeepsForms
  · rename_i c rest _
    have hpending : Upholds s { s with pending := rest } := upholds_of_standing rfl
    exact hpending.toKeepsForms.trans (exec_keepsForms c _ t h)

/-! ## O1, O5 to O9 -/

/-- Settles O1: by the definition of the step. -/
theorem stepRunsTheFrontCommand : Obligations.StepRunsTheFrontCommand := fun _ _ _ => rfl

/-- Settles O5: every operation that writes memory keeps the canonical form (`Laws.set_wf` and those built on it). -/
theorem stepKeepsMemoryForm : Obligations.StepKeepsMemoryForm := fun _ _ hwf hstep => (step_keepsForms hstep).memory hwf

/-- Settles O6: the reset memory is the empty list. -/
theorem resetMemoryForm : Obligations.ResetMemoryForm :=
  ⟨rfl, rfl, fun _ => fresh_delivered 0⟩

/-- Strictly rising priorities below 4 are at most four. -/
theorem rising_length {q : List InService} (h : rising q) : q.length ≤ 4 := by
  have hnodup : (q.map InService.prio).Nodup := h.imp fun hlt => hlt.ne
  simpa using hnodup.length_le_card

/-- Settles O7: only an acknowledge, which pushes a priority above the top, IRQ_EOI and resets change the stack. -/
theorem stepKeepsInServiceRising : Obligations.StepKeepsInServiceRising := fun _ _ hrising hstep =>
  have hnext := (step_keepsForms hstep).stack hrising
  ⟨hnext, rising_length hnext⟩

/-- Settles O8: only the two resets that the statement leaves out clear the lock, and of those only the power-on reset starts the
sweep anew once it is over. -/
theorem lockAndInitializedStaySet : Obligations.LockAndInitializedStaySet := by
  refine ⟨fun c s t hlock hexec hpor hpin => (exec_upholds c s hpor hpin t hexec).lock hlock,
    fun c s t hinit hrun hexec hpor => ?_⟩
  by_cases hpin : ∃ k, c = .pinReset k
  · obtain ⟨k, rfl⟩ := hpin
    exact (execPinReset_keeps k s t hexec).2 ⟨hinit, hrun⟩
  · exact (exec_upholds c s hpor (fun k e => hpin ⟨k, e⟩) t hexec).sweep ⟨hinit, hrun⟩

/-- Settles O9: the writes of the four registers clamp, and a reset stores values within the ranges. -/
theorem stepKeepsConfigRanges : Obligations.StepKeepsConfigRanges :=
  ⟨⟨by decide, by decide, by decide, by decide⟩, fun _ _ hranges hstep => (step_keepsForms hstep).ranges hranges⟩

end Sys2Proof.Proofs
end

section
/-! PROOFS. The registers whose reads have an effect, the slot record port, the Event Log's read port and the Interrupt Controller
(R12, R71 to R73, R151 to R163). -/

set_option Elab.async false

namespace Sys2Proof.Proofs

open Sys2Proof.Machine Sys2Proof.Safety Sys2Proof.Laws

/-! ## A read with an effect -/

/-- The row of an instant read at a quiet port outside RETAIN: the effect, and the value from before it. -/
theorem exec_reading {s : State} {i : Instr} {addr : BitVec 8} {reg : Reg} (h : quiet s) (hp : s.power ≠ .retain)
    (hrow : exec i s = .next (s.hostRead addr)) (hd : decodeReg addr = some reg) (hi : reg.initRefused false = false)
    (he : ∀ t : State, t.readReg reg = (t.readEffect reg).respondOk (some (t.regValue reg))) :
    exec i s = .next (((admitted s).readEffect reg).respondOk (some (s.regValue reg))).arbitrate := by
  rw [hrow, State.hostRead, hostRow_reading h hd (accessFails_read hd hi hp), he, admitted_regValue]

/-- A register as wide as its value reads as the value below zeros. -/
theorem placed_toNat_zero {w : Nat} (v : BitVec w) : placed v.toNat 0 = v.setWidth 32 := by
  simp [placed]

@[simp] theorem lane_respondOk (s : State) (x : Option Word) (n : LaneId) : (s.respondOk x).lane n = s.lane n := by
  rw [respondOk_eq]; rfl

/-! ## The read-clear counters (R12) -/

theorem read_evtLost {s : State} (h : quiet s) (hp : s.power ≠ .retain) :
    ∃ r, exec .evtLostRead s = .next r.arbitrate ∧ answeredOk s r (some (s.log.lost.setWidth 32)) ∧
      r.log = { s.log with lost := 0 } ∧ unchangedBut [.port, .sup, .moment, .log] s r := by
  refine ⟨_, exec_reading h hp rfl (reg := .evtLost) rfl rfl fun _ => rfl, ?_⟩
  rw [respondOk_eq, ← placed_toNat_zero]
  exact ⟨⟨rfl, rfl, rfl⟩, rfl, by intro f hf; cases f <;> first | rfl | exact absurd (by decide) hf⟩

theorem read_eccCorrCount {s : State} (h : quiet s) (hp : s.power ≠ .retain) :
    ∃ r, exec .eccCorrCountRead s = .next r.arbitrate ∧ answeredOk s r (some (s.ecc.corrCount.setWidth 32)) ∧
      r.ecc = { s.ecc with corrCount := 0, reportArmed := true } ∧ unchangedBut [.port, .sup, .moment, .ecc] s r := by
  refine ⟨_, exec_reading h hp rfl (reg := .eccCorrCount) rfl rfl fun _ => rfl, ?_⟩
  rw [respondOk_eq, ← placed_toNat_zero]
  exact ⟨⟨rfl, rfl, rfl⟩, rfl, by intro f hf; cases f <;> first | rfl | exact absurd (by decide) hf⟩

theorem read_eccUncorrCount {s : State} (h : quiet s) (hp : s.power ≠ .retain) :
    ∃ r, exec .eccUncorrCountRead s = .next r.arbitrate ∧ answeredOk s r (some (s.ecc.uncorrCount.setWidth 32)) ∧
      r.ecc = { s.ecc with uncorrCount := 0 } ∧ unchangedBut [.port, .sup, .moment, .ecc] s r := by
  refine ⟨_, exec_reading h hp rfl (reg := .eccUncorrCount) rfl rfl fun _ => rfl, ?_⟩
  rw [respondOk_eq, ← placed_toNat_zero]
  exact ⟨⟨rfl, rfl, rfl⟩, rfl, by intro f hf; cases f <;> first | rfl | exact absurd (by decide) hf⟩

/-- A lane's counters in the order of their indices (R80). -/
def counterList (c : Counters) : List (BitVec 16) :=
  [c.published, c.dropped, c.overwritten, c.truncated, c.cut, c.wordsLost, c.strayWords, 0, c.sent, c.repeated, c.fills,
    c.triggersMissed, c.crcMismatch, c.eccWords]

theorem counterAt_eq (c : Counters) (k : Nat) : counterAt c k = (counterList c).getD k 0 := rfl

theorem counters_get (c : Counters) (k : BitVec 4) : c.get k = counterAt c k.toNat := by
  have hk : k.toNat < 16 := k.isLt
  unfold Counters.get
  generalize k.toNat = m at hk
  interval_cases m <;> rfl

theorem counterList_cleared (c : Counters) (k : BitVec 4) : counterList (c.cleared k) = (counterList c).set k.toNat 0 := by
  have hk : k.toNat < 16 := k.isLt
  unfold Counters.cleared
  generalize k.toNat = m at hk
  interval_cases m <;> rfl

theorem counterAt_cleared (c : Counters) (sel : BitVec 4) (k : Nat) :
    counterAt (c.cleared sel) k = if k = sel.toNat then 0 else counterAt c k := by
  rw [counterAt_eq, counterAt_eq, counterList_cleared, List.getD_eq_getElem?_getD, List.getD_eq_getElem?_getD,
    List.getElem?_set]
  by_cases hk : sel.toNat = k
  · rw [if_pos hk, if_pos hk.symm]
    split <;> rfl
  · rw [if_neg hk, if_neg (Ne.symm hk)]

@[simp] theorem decodeReg_lnCfg (n : LaneId) : decodeReg (laneAddr n 0) = some (.lnCfg n) := by revert n; decide

@[simp] theorem decodeReg_lnCntData (n : LaneId) : decodeReg (laneAddr n 8) = some (.lnCntData n) := by revert n; decide

theorem read_lnCntData {s : State} (n : LaneId) (h : quiet s) (hp : s.power ≠ .retain) :
    ∃ r, exec (.lnCntDataRead n) s = .next r.arbitrate ∧
      answeredOk s r (some ((counterAt (s.lane n).counters (s.lane n).cntSel.toNat).setWidth 32)) ∧
      r.lane n = { s.lane n with counters := (r.lane n).counters } ∧
      (∀ k : Nat, counterAt (r.lane n).counters k =
        if k = (s.lane n).cntSel.toNat then 0 else counterAt (s.lane n).counters k) ∧
      otherLanes n s r ∧ unchangedBut [.port, .sup, .moment, .lanes] s r := by
  refine ⟨_, exec_reading h hp rfl (decodeReg_lnCntData n) rfl fun _ => rfl, ?_⟩
  rw [← counters_get, ← placed_toNat_zero]
  have hsame : ((admitted s).readEffect (.lnCntData n)).lane n =
      { s.lane n with counters := (s.lane n).counters.cleared (s.lane n).cntSel } := lane_updLane_same _ _ _
  simp only [lane_respondOk, hsame]
  refine ⟨respondOk_answers _ rfl rfl rfl, trivial, counterAt_cleared _ _, fun m hm => ?_,
    frame_comp (frame_comp (hs := [.port, .moment, .lanes]) (admitted_frame s) (updLane_frame _ n _)) (respondOk_frame _ _)⟩
  rw [lane_respondOk]
  exact lane_updLane_other _ n m _ hm

/-- Settles O16: each of the four reads returns its count and clears it. -/
theorem countersClearWhenRead : Obligations.CountersClearWhenRead := by
  unfold Obligations.CountersClearWhenRead
  exact fun s h hp => ⟨read_evtLost h hp, read_eccCorrCount h hp, read_eccUncorrCount h hp, fun n => read_lnCntData n h hp⟩

/-! ## Qualification and the winner (R161, R162) -/

theorem priority_val (q : Irq) (g : Group) : (q.priority g).val = q.prio.toNat / 4 ^ g.val % 4 := by
  simp only [Irq.priority, Nat.shiftRight_eq_div_pow, Nat.pow_mul]

theorem qualifies_iff (q : Irq) (g : Group) : q.qualifies g = true ↔
    q.flags.getLsbD g.val = true ∧ q.enable.getLsbD g.val = true ∧
      ∀ top, q.stack.getLast? = some top → top.prio.val < q.prio.toNat / 4 ^ g.val % 4 := by
  rw [← priority_val]
  unfold Irq.qualifies Irq.flag Irq.enabled
  cases q.stack.getLast? with
  | none => simp
  | some top => simp [and_assoc]

theorem mem_groupOrder (g : Group) : g ∈ groupOrder := by revert g; decide

theorem line_iff (q : Irq) : q.line = true ↔ ∃ g, q.qualifies g = true := by
  simp [Irq.line, mem_groupOrder]

/-- One step of the choice among qualifying groups: a later group takes the place of the best so far only with a higher
priority. -/
def better (p : Group → Fin 4) (best : Option Group) (g : Group) : Option Group :=
  match best with
  | none => some g
  | some b => if p b < p g then some g else some b

/-- The choice of the groups in `l` behind `b`, standing in the order `ord`, has the highest priority and is the first of that
priority. -/
theorem foldl_better (p : Group → Fin 4) (ord : Group → Nat) : ∀ (l : List Group) (b : Group),
    (b :: l).Pairwise (fun x y => ord x ≤ ord y) →
    ∃ g, l.foldl (better p) (some b) = some g ∧ g ∈ b :: l ∧
      ∀ h ∈ b :: l, p h < p g ∨ p h = p g ∧ ord g ≤ ord h
  | [], b, _ => ⟨b, rfl, by simp, by simp⟩
  | x :: xs, b, hord => by
    obtain ⟨hb, hx⟩ := List.pairwise_cons.mp hord
    have hbx : ord b ≤ ord x := hb x (by simp)
    by_cases hlt : p b < p x
    · obtain ⟨g, hg, hmem, hbest⟩ := foldl_better p ord xs x hx
      refine ⟨g, by rw [List.foldl_cons, better, if_pos hlt, hg], List.mem_cons_of_mem _ hmem, fun h hh => ?_⟩
      rcases List.mem_cons.mp hh with rfl | hh
      · have := hbest x (by simp)
        left; omega
      · exact hbest h hh
    · obtain ⟨g, hg, hmem, hbest⟩ := foldl_better p ord xs b
        (List.pairwise_cons.mpr ⟨fun y hy => hb y (List.mem_cons_of_mem _ hy), (List.pairwise_cons.mp hx).2⟩)
      refine ⟨g, by rw [List.foldl_cons, better, if_neg hlt, hg], ?_, fun h hh => ?_⟩
      · rcases List.mem_cons.mp hmem with rfl | hmem <;> simp [*]
      · rcases List.mem_cons.mp hh with rfl | hh
        · exact hbest h (by simp)
        · rcases List.mem_cons.mp hh with rfl | hh
          · have := hbest b (by simp)
            omega
          · exact hbest h (List.mem_cons_of_mem _ hh)

/-- A group's place in the order of R162. -/
def orderOf (g : Group) : Nat := [7, 5, 4, 0, 1, 2, 3, 6].idxOf g.val

theorem groupOrder_pairwise : groupOrder.Pairwise fun x y => orderOf x ≤ orderOf y := by decide

theorem winner_eq (q : Irq) : q.winner = (groupOrder.filter q.qualifies).foldl (better q.priority) none := by
  unfold Irq.winner
  rfl

/-- There is no winner where no group qualifies, and otherwise the best of those that do. -/
theorem winner_cases (q : Irq) :
    (q.winner = none ∧ ∀ g, q.qualifies g = false) ∨
      ∃ g, q.winner = some g ∧ q.qualifies g = true ∧
        ∀ h, q.qualifies h = true →
          q.priority h < q.priority g ∨ q.priority h = q.priority g ∧ orderOf g ≤ orderOf h := by
  have hmem (g : Group) : g ∈ groupOrder.filter q.qualifies ↔ q.qualifies g = true := by
    simp [mem_groupOrder]
  have hord := groupOrder_pairwise.filter q.qualifies
  rw [winner_eq]
  generalize groupOrder.filter q.qualifies = l at hmem hord
  cases l with
  | nil => exact .inl ⟨rfl, fun g => by have := hmem g; simp at this; exact this⟩
  | cons b l =>
    obtain ⟨g, hg, hin, hbest⟩ := foldl_better q.priority orderOf l b hord
    exact .inr ⟨g, hg, (hmem g).mp hin, fun h hh => hbest h ((hmem h).mpr hh)⟩

/-- Settles O24: qualification, the line and the choice, each by its lemma. -/
theorem winnerIsHighestThenFirst : Obligations.WinnerIsHighestThenFirst := by
  unfold Obligations.WinnerIsHighestThenFirst
  intro q
  refine ⟨qualifies_iff q, line_iff q, ?_, ?_⟩
  · intro g hg
    rcases winner_cases q with ⟨hnone, _⟩ | ⟨g', hsome, hq, hbest⟩
    · rw [hnone] at hg; cases hg
    · obtain rfl : g' = g := Option.some.inj (hsome.symm.trans hg)
      exact ⟨hq, hbest⟩
  · rcases winner_cases q with ⟨hnone, hall⟩ | ⟨g, hsome, hq, _⟩
    · exact ⟨fun _ => hall, fun _ => hnone⟩
    · refine ⟨fun h => ?_, fun h => ?_⟩
      · rw [hsome] at h; cases h
      · rw [h g] at hq; cases hq

/-! ## Acknowledge, end of service and the clearing of flags (R159, R162, R163) -/

theorem groupBit_getLsbD (g h : Group) : (groupBit g).getLsbD h.val = (h == g) := by revert g h; decide

theorem clearFlags_flag (q : Irq) (mask : BitVec 8) (g : Group) :
    (q.clearFlags mask).flag g = (q.flag g && !mask.getLsbD g.val) := by
  have hg : g.val < 8 := g.isLt
  simp [Irq.clearFlags, Irq.flag, hg]

/-- The group below its priority (R162). -/
theorem vector_some {q : Irq} {g : Group} (h : q.winner = some g) :
    q.vector = BitVec.ofNat 32 (g.val + 16 * (q.priority g).val) := by
  have hg : (placed g.val 0).toNat = g.val := placed_zero_toNat _ (by omega)
  apply BitVec.eq_of_toNat_eq
  rw [Irq.vector, h]
  simp only
  rw [or_placed_toNat _ _ _ (by omega) (by omega), hg, BitVec.toNat_ofNat]
  omega

theorem acknowledged_none {q : Irq} (h : q.winner = none) : q.acknowledged = q := by
  rw [Irq.acknowledged, h]

theorem acknowledged_some {q : Irq} {g : Group} (h : q.winner = some g) :
    q.acknowledged = { q.clearFlags (groupBit g) with stack := q.stack ++ [⟨g, q.priority g⟩] } := by
  rw [Irq.acknowledged, h]

theorem exec_acknowledge {s : State} (h : quiet s) (hp : s.power ≠ .retain) :
    exec .acknowledge s =
      .next (State.respondOk { admitted s with irq := s.irq.acknowledged } (some s.irq.vector)).arbitrate :=
  exec_reading h hp rfl (reg := .irqVector) rfl rfl fun _ => rfl

theorem acknowledge_nothing {s : State} (h : quiet s) (hp : s.power ≠ .retain) (hw : s.irq.winner = none) :
    ∃ r, exec .acknowledge s = .next r.arbitrate ∧ answeredOk s r (some 0xFF) ∧
      unchangedBut [.port, .sup, .moment] s r := by
  refine ⟨_, exec_acknowledge h hp, ?_⟩
  rw [acknowledged_none hw, show s.irq.vector = 0xFF by rw [Irq.vector, hw], respondOk_eq]
  exact ⟨⟨rfl, rfl, rfl⟩, by intro f hf; cases f <;> first | rfl | exact absurd (by decide) hf⟩

theorem acknowledge_winner {s : State} {g : Group} (h : quiet s) (hp : s.power ≠ .retain) (hw : s.irq.winner = some g) :
    ∃ r, exec .acknowledge s = .next r.arbitrate ∧
      answeredOk s r (some (BitVec.ofNat 32 (g.val + 16 * (s.irq.priority g).val))) ∧
      r.irq = { s.irq with flags := r.irq.flags, stack := s.irq.stack ++ [⟨g, s.irq.priority g⟩] } ∧
      (∀ h : Group, r.irq.flag h = (s.irq.flag h && h != g)) ∧
      unchangedBut [.port, .sup, .moment, .irq] s r := by
  refine ⟨_, exec_acknowledge h hp, ?_⟩
  rw [acknowledged_some hw, vector_some hw, respondOk_eq]
  refine ⟨⟨rfl, rfl, rfl⟩, rfl, fun k => ?_, by intro f hf; cases f <;> first | rfl | exact absurd (by decide) hf⟩
  have hflag := clearFlags_flag s.irq (groupBit g) k
  rw [groupBit_getLsbD] at hflag
  exact hflag

theorem eoi_pops {s : State} (data : Word) (h : quiet s) (hp : s.power ≠ .retain) (hs : s.irq.stack ≠ []) :
    ∃ r, exec (.eoi data) s = .next r.arbitrate ∧ answeredOk s r none ∧
      r.irq = { s.irq with stack := s.irq.stack.dropLast } ∧ unchangedBut [.port, .sup, .moment, .irq] s r := by
  have hstate : s.stateRefuses .irqEoi data = false := by simp [State.stateRefuses, hs]
  refine ⟨_, exec_storing h rfl (reg := .irqEoi) rfl (accessFails_write rfl (absurd · hp) rfl rfl nofun hstate rfl nofun)
    (requestsAtOnce_plain (reg := .irqEoi) rfl nofun nofun nofun) fun _ => rfl, ?_⟩
  rw [respondOk_eq]
  exact ⟨⟨rfl, rfl, rfl⟩, rfl, by intro f hf; cases f <;> first | rfl | exact absurd (by decide) hf⟩

theorem eoi_refused {s : State} (data : Word) (h : quiet s) (hp : s.power ≠ .retain) (hs : s.irq.stack = []) :
    ∃ r, exec (.eoi data) s = .next r.arbitrate ∧ refusedWith s r .state ⟨0x38, true, data⟩ ∧
      unchangedBut [.port, .sup, .log, .irq, .moment] s r := by
  have hf : s.accessFails ⟨0x38, true, data⟩ = some .state :=
    accessFails_state (reg := .irqEoi) rfl (absurd · hp) rfl rfl nofun (by simp [State.stateRefuses, hs])
  obtain ⟨r, hrow, hr⟩ := hostRow_refused h hf
  exact ⟨r, congrArg Host.Outcome.next hrow, hr⟩

theorem irqPending_clears {s : State} (data : Word) (h : quiet s) (hp : s.power ≠ .retain) :
    ∃ r, exec (.irqPendingWrite data) s = .next r.arbitrate ∧ answeredOk s r none ∧
      r.irq = { s.irq with flags := r.irq.flags } ∧
      (∀ g : Group, r.irq.flag g = (s.irq.flag g && !data.getLsbD g.val)) ∧
      unchangedBut [.port, .sup, .moment, .irq] s r := by
  refine ⟨_, exec_storing h rfl (reg := .irqPending) rfl (accessFails_write rfl (absurd · hp) rfl rfl nofun rfl rfl nofun)
    (requestsAtOnce_plain (reg := .irqPending) rfl nofun nofun nofun) fun _ => rfl, ?_⟩
  rw [respondOk_eq]
  refine ⟨⟨rfl, rfl, rfl⟩, rfl, fun g => ?_, by intro f hf; cases f <;> first | rfl | exact absurd (by decide) hf⟩
  have hflag := clearFlags_flag s.irq (data.setWidth 8) g
  rw [BitVec.getLsbD_setWidth, decide_eq_true g.isLt, Bool.true_and] at hflag
  exact hflag

/-- Settles O25: an acknowledge with and without a winner, the two ends of service, and the clearing of flags. -/
theorem interruptsAreAcknowledgedAndEnded : Obligations.InterruptsAreAcknowledgedAndEnded := by
  unfold Obligations.InterruptsAreAcknowledgedAndEnded
  exact ⟨fun s h hp => ⟨acknowledge_nothing h hp, fun g => acknowledge_winner h hp⟩,
    fun s data h hp => ⟨eoi_pops data h hp, eoi_refused data h hp, irqPending_clears data h hp⟩⟩

/-! ## The Event Log's read port (R151, R155, R157) -/

theorem exec_evtDataRead {s : State} (h : quiet s) (hp : s.power ≠ .retain) :
    exec .evtDataRead s = .next ((admitted s).popWord.respondOk (some s.evtWord)).arbitrate :=
  exec_reading h hp rfl (reg := .evtData) rfl rfl fun _ => rfl

/-- What a read of EVT_DATA leaves of a log whose records are `first :: rest`. -/
theorem popWord_eq {s : State} {first : Record} {rest : List Record} (hl : s.log.records = first :: rest) :
    s.popWord = { s with log :=
      if s.log.wordSel ≠ 2 then { s.log with wordSel := s.log.wordSel + 1 }
      else if s.log.overflow ≠ 0 ∧ rest.length + s.reserved < 32 then
        { s.log with
          records := rest ++
            [⟨s.log.nextSeq, ⟨.logOverflow, none, 11, none, s.tb.count, s.log.overflow.setWidth 32⟩⟩]
          nextSeq := s.log.nextSeq + 1, wordSel := 0, overflow := 0 }
      else { s.log with records := rest, wordSel := 0 } } := by
  unfold State.popWord
  rw [hl]
  match hsel : s.log.wordSel with
  | 0 => rfl
  | 1 => rfl
  | 2 =>
    simp only [State.reportOverflow]
    by_cases hover : s.log.overflow ≠ 0 ∧ rest.length + s.reserved < 32
    · refine (if_pos hover).trans ?_
      rw [if_neg (not_not.mpr rfl), if_pos hover]; rfl
    · refine (if_neg hover).trans ?_
      rw [if_neg (not_not.mpr rfl), if_neg hover]

theorem read_emptyLog {s : State} (h : quiet s) (hp : s.power ≠ .retain) (hl : s.log.records = []) :
    ∃ r, exec .evtDataRead s = .next r.arbitrate ∧ answeredOk s r (some 0) ∧ unchangedBut [.port, .sup, .moment] s r := by
  refine ⟨_, exec_evtDataRead h hp, ?_⟩
  have hpop : (admitted s).popWord = admitted s := by
    unfold State.popWord; rw [show (admitted s).log.records = [] from hl]
  have hword : s.evtWord = 0 := by rw [State.evtWord, hl]
  rw [hpop, hword, respondOk_eq]
  exact ⟨⟨rfl, rfl, rfl⟩, by intro f hf; cases f <;> first | rfl | exact absurd (by decide) hf⟩

theorem read_headRecord {s : State} {first : Record} {rest : List Record} (h : quiet s) (hp : s.power ≠ .retain)
    (hl : s.log.records = first :: rest) :
    ∃ r, exec .evtDataRead s = .next r.arbitrate ∧ answeredOk s r (some (first.word s.log.wordSel)) ∧
      r.log =
        (if s.log.wordSel ≠ 2 then { s.log with wordSel := s.log.wordSel + 1 }
        else if s.log.overflow ≠ 0 ∧ rest.length + s.reserved < 32 then
          { s.log with
            records := rest ++
              [⟨s.log.nextSeq, ⟨.logOverflow, none, 11, none, s.tb.count, s.log.overflow.setWidth 32⟩⟩]
            nextSeq := s.log.nextSeq + 1, wordSel := 0, overflow := 0 }
        else { s.log with records := rest, wordSel := 0 }) ∧
      unchangedBut [.port, .sup, .moment, .log] s r := by
  refine ⟨_, exec_evtDataRead h hp, ?_⟩
  have hword : s.evtWord = first.word s.log.wordSel := by rw [State.evtWord, hl]
  rw [popWord_eq (s := admitted s) hl, hword, respondOk_eq]
  exact ⟨⟨rfl, rfl, rfl⟩, rfl, by intro f hf; cases f <;> first | rfl | exact absurd (by decide) hf⟩

/-- The group field of a record (R151): 15 for none. -/
def groupCode : Option Group → Nat
  | none => 15
  | some g => g.val

/-- The slot field of a record (R151): 127 for none. -/
def slotCode : Option SlotId → Nat
  | none => 127
  | some i => i.val

/-- A record's first word: sequence number, kind, group, slot index and source side by side. -/
theorem record_word_zero (x : Record) : (x.word 0).toNat = packed
    [(x.seq.toNat, 0), (x.ev.kind.code, 8), (groupCode x.ev.group, 13), (slotCode x.ev.slot, 17),
      (x.ev.source.toNat, 24)] := by
  obtain ⟨seq, ⟨kind, group, source, slot, stamp, detail⟩⟩ := x
  have hword : (Record.word ⟨seq, ⟨kind, group, source, slot, stamp, detail⟩⟩ 0) = fieldsWord
      [(seq.toNat, 0), (kind.code, 8), (groupCode group, 13), (slotCode slot, 17),
        (source.toNat, 24)] := by
    simp only [fieldsWord, List.foldl_cons, List.foldl_nil, BitVec.zero_or]
    cases group <;> cases slot <;> rfl
  have hseq := seq.isLt
  have hkind : kind.code < 32 := by cases kind <;> decide
  have hsource := source.isLt
  rw [hword, fieldsWord_toNat]
  have hgroup : groupCode group < 16 := by
    cases group with
    | none => decide
    | some g => simp only [groupCode]; omega
  have hslot : slotCode slot < 128 := by
    cases slot with
    | none => decide
    | some i => simp only [slotCode]; omega
  simp only [fieldsFit]; omega

/-- Settles O23: the read of an empty log and of a head record, the words of a record, and the result codes. -/
theorem eventDataReadsAndPops : Obligations.EventDataReadsAndPops := by
  unfold Obligations.EventDataReadsAndPops
  refine ⟨fun s h hp => ⟨read_emptyLog h hp, fun first rest => read_headRecord h hp⟩, fun x => ⟨?_, rfl, rfl⟩, result_code⟩
  rw [record_word_zero, kind_code]
  cases x.ev.group <;> cases x.ev.slot <;> rfl

end Sys2Proof.Proofs
end

section
/-! PROOFS. Raising events, and the closing of the supervisor's window (R150 to R156, R169). -/

set_option Elab.async false

namespace Sys2Proof.Proofs

open Sys2Proof.Machine Sys2Proof.Safety Sys2Proof.Laws

/-! ## One event -/

theorem setFlag_flag (q : Irq) (g h : Group) : (q.setFlag g).flag h = (q.flag h || h == g) := by
  simp only [Irq.setFlag, Irq.flag, BitVec.getLsbD_or, groupBit_getLsbD]

/-- An event of a group sets that group's flag, whatever becomes of its record. -/
theorem raise_irq {s : State} {e : Event} {g : Group} (hg : e.group = some g) : (s.raise e).irq = s.irq.setFlag g := by
  have hflag : s.flag e = { s with irq := s.irq.setFlag g } := by rw [State.flag, hg]
  simp only [State.raise, hflag]
  split
  · rfl
  · exact offer_frame _ e .irq (by decide)

theorem raise_flags {s : State} {e : Event} {g : Group} (hg : e.group = some g) :
    (∀ h : Group, (s.raise e).irq.flag h = (s.irq.flag h || h == g)) ∧
      (s.raise e).irq = { s.irq with flags := (s.raise e).irq.flags } := by
  rw [raise_irq hg]
  exact ⟨setFlag_flag s.irq g, rfl⟩

/-- What becomes of a record does not depend on the flags. -/
theorem offer_withIrq (s : State) (q : Irq) (e : Event) :
    State.offer { s with irq := q } e = { s.offer e with irq := q } := by
  have huse : State.logUse { s with irq := q } = s.logUse := rfl
  simp only [State.offer, huse]
  repeat' split
  all_goals rfl

/-- Outside a closing, a raised event is offered to the log. -/
theorem raise_log {s : State} {e : Event} {g : Group} (hg : e.group = some g) (hc : s.closingDue = false) :
    (s.raise e).log = (s.offer e).log := by
  have hflag : s.flag e = { s with irq := s.irq.setFlag g } := by rw [State.flag, hg]
  have hclosing : State.closingDue { s with irq := s.irq.setFlag g } = false := hc
  simp only [State.raise, hflag, hclosing, Bool.false_eq_true, if_false, offer_withIrq]

theorem raise_closing {s : State} (e : Event) (hc : s.closingDue = true) :
    (s.raise e).log = { s.log with heldBack := s.log.heldBack ++ [e] } := by
  have hclosing : (s.flag e).closingDue = true := by
    rw [State.flag]; split <;> exact hc
  have hlog : (s.flag e).log = s.log := flag_frame s e .log (by decide)
  simp only [State.raise, hclosing, if_true, hlog]

/-- What an event other than a completion record does to the log. -/
theorem offer_log {s : State} {e : Event} {g : Group} (hg : e.group = some g) (hk : e.kind ≠ .commandDone) :
    (s.offer e).log =
      if s.log.enable.getLsbD g.val = false then s.log
      else if s.log.records.length + s.reserved < 32 then
        { s.log with records := s.log.records ++ [⟨s.log.nextSeq, e⟩], nextSeq := s.log.nextSeq + 1 }
      else
        { s.log with
          nextSeq := s.log.nextSeq + 1, lost := plus s.log.lost 1, overflow := plus s.log.overflow 1 } := by
  simp only [State.offer, if_neg hk, hg]
  by_cases he : s.log.enable.getLsbD g.val = false
  · rw [if_neg (by rw [he]; decide), if_pos he]
  · rw [if_pos (by simpa using he), if_neg he]
    by_cases hroom : s.log.records.length + s.reserved < 32
    · rw [if_pos hroom, if_pos (show s.logUse < Config.logEntries from hroom)]; rfl
    · rw [if_neg hroom, if_neg (show ¬ s.logUse < Config.logEntries from hroom)]; rfl

theorem offer_done {s : State} {e : Event} (hk : e.kind = .commandDone) : s.offer e = s.append e := if_pos hk

/-- A completion takes its command out of the queue and appends its record: as many entries are in use. -/
theorem recordDone_use {s : State} {first : CmdEntry} {rest : List CmdEntry} (res : Result) (value : Nat)
    (slot : Option SlotId) (hq : s.cmd.queue = first :: rest) :
    let t := s.recordDone first res value slot
    t.cmd = { s.cmd with queue := rest } ∧
      t.log.records.length + t.reserved = s.log.records.length + s.reserved ∧ unchangedBut [.cmd, .log, .irq] s t := by
  intro t
  have hcmd : t.cmd = { s.cmd with queue := rest } := by
    rw [show t.cmd = { s.cmd with queue := s.cmd.queue.tail } from raise_frame _ _ .cmd (by decide), hq]; rfl
  refine ⟨hcmd, ?_, recordDone_frame s first res value slot⟩
  have hres : t.reserved = rest.length + t.log.heldBack.countP (fun e => e.kind == .commandDone) := by
    rw [State.reserved, hcmd]
  have hres' : s.reserved = rest.length + 1 + s.log.heldBack.countP (fun e => e.kind == .commandDone) := by
    rw [State.reserved, hq]; rfl
  have hlog : t.log = (State.raise { s with cmd := { s.cmd with queue := s.cmd.queue.tail } } _).log := rfl
  cases hc : s.closingDue with
  | true =>
    rw [raise_closing (s := { s with cmd := { s.cmd with queue := s.cmd.queue.tail } }) _ hc] at hlog
    rw [hres, hres', hlog, List.countP_append]
    simp only [List.countP_singleton, beq_self_eq_true, if_true]
    omega
  | false =>
    rw [raise_log (s := { s with cmd := { s.cmd with queue := s.cmd.queue.tail } }) (g := commandGroup) rfl hc, offer_done rfl] at hlog
    rw [hres, hres', hlog]
    simp only [State.append, List.length_append, List.length_singleton]
    omega

/-! ## Events before a change of the supervisor -/

theorem offer_withSup (s : State) (p : Supervisor) (e : Event) :
    State.offer { s with sup := p } e = { s.offer e with sup := p } := by
  have huse : State.logUse { s with sup := p } = s.logUse := rfl
  simp only [State.offer, huse]
  repeat' split
  all_goals rfl

/-- Of the supervisor an event depends on nothing but whether the window is to close. -/
theorem raise_withSup {s : State} {p : Supervisor} (h : State.closingDue { s with sup := p } = s.closingDue) (e : Event) :
    State.raise { s with sup := p } e = { s.raise e with sup := p } := by
  have hflag : State.flag { s with sup := p } e = { s.flag e with sup := p } := by
    simp only [State.flag]
    split <;> rfl
  have hclosing : State.closingDue { s.flag e with sup := p } = (s.flag e).closingDue := by
    have hsup : (s.flag e).closingDue = s.closingDue := by
      rw [State.closingDue, show (s.flag e).sup = s.sup from flag_frame s e .sup (by decide)]; rfl
    rw [hsup]; exact h
  simp only [State.raise, hflag, hclosing, offer_withSup]
  split <;> rfl

theorem foldl_raise_withSup (es : List Event) : ∀ {s : State} {p : Supervisor},
    State.closingDue { s with sup := p } = s.closingDue →
    es.foldl State.raise { s with sup := p } = { es.foldl State.raise s with sup := p } := by
  induction es with
  | nil => intro s p _; rfl
  | cons e es ih =>
    intro s p h
    have hsup : (s.raise e).closingDue = s.closingDue := by
      rw [State.closingDue, show (s.raise e).sup = s.sup from raise_frame s e .sup (by decide)]; rfl
    rw [List.foldl_cons, raise_withSup h, List.foldl_cons, ih (by rw [hsup]; exact h)]

/-- A change of the supervisor after the events, where no window is to close. -/
theorem raises_withSup {es : List Event} {s t : State} {p : Supervisor} (h : raises es s t)
    (hc : State.closingDue { t with sup := p } = t.closingDue) : raises es s { t with sup := p } := by
  have hfold := foldl_raise_withSup es (s := { s with cmd := t.cmd, sup := t.sup }) (p := p) hc
  obtain ⟨hlog, hirq⟩ := h
  constructor
  · exact hlog.trans (congrArg State.log hfold).symm
  · exact hirq.trans (congrArg State.irq hfold).symm

/-! ## Several events offered in order (R156, R169) -/

/-- The event has a record, if there is room: a completion record, or one of a group whose log enable is on. -/
def logged (enable : BitVec 8) (e : Event) : Bool :=
  e.kind == .commandDone || match e.group with
    | none => false
    | some g => enable.getLsbD g.val

/-- The events among these that may be lost. -/
def losable (es : List Event) : Nat := es.countP fun e => e.kind != .commandDone

/-- The log after events have been offered to it in order: the records that they left, and how many were lost. The held-back list
is whatever it is. -/
def offeredTo (es : List Event) (s t : State) (recs : List Record) (lost : Nat) : Prop :=
  t.log = { s.log with
      heldBack := t.log.heldBack, records := s.log.records ++ recs
      nextSeq := s.log.nextSeq + BitVec.ofNat 8 (es.filter (logged s.log.enable)).length
      lost := plus s.log.lost lost, overflow := plus s.log.overflow lost } ∧
    (recs.map Record.ev).Sublist (es.filter (logged s.log.enable)) ∧
    recs.length + lost = (es.filter (logged s.log.enable)).length ∧
    (∀ e ∈ es, e.kind = .commandDone → ∃ x ∈ recs, x.ev = e) ∧ (lost ≠ 0 → 32 ≤ t.logUse) ∧
    s.logUse ≤ t.logUse ∧ t.logUse ≤ s.logUse + losable (es.filter (logged s.log.enable)) ∧
    (s.logUse + losable (es.filter (logged s.log.enable)) ≤ 32 → recs.map Record.ev = es.filter (logged s.log.enable))

theorem plus_zero (c : BitVec 16) : plus c 0 = c := by
  have hc := c.isLt
  apply BitVec.eq_of_toNat_eq
  rw [plus, BitVec.toNat_ofNat]
  omega

theorem plus_plus (c : BitVec 16) (a b : Nat) : plus (plus c a) b = plus c (a + b) := by
  apply BitVec.eq_of_toNat_eq
  simp only [plus, BitVec.toNat_ofNat]
  omega

theorem offeredTo_nil {s t : State} (h : t.log = { s.log with heldBack := t.log.heldBack }) (hu : t.logUse = s.logUse) :
    offeredTo [] s t [] 0 := by
  refine ⟨?_, .slnil, rfl, fun _ he => absurd he List.not_mem_nil, nofun, hu.ge, ?_, fun _ => rfl⟩
  · rw [h]
    simp [plus_zero]
  · simp [hu]

theorem offeredTo_append {es es' : List Event} {s t u : State} {recs recs' : List Record} {lost lost' : Nat}
    (h : offeredTo es s t recs lost) (k : offeredTo es' t u recs' lost') :
    offeredTo (es ++ es') s u (recs ++ recs') (lost + lost') := by
  obtain ⟨hlog, hsub, hlen, hdone, hlost, hlow, hhigh, hall⟩ := h
  obtain ⟨klog, ksub, klen, kdone, klost, klow, khigh, kall⟩ := k
  have henable : t.log.enable = s.log.enable := by rw [hlog]
  rw [henable] at klog ksub klen khigh kall
  have hlosable : losable ((es ++ es').filter (logged s.log.enable)) =
      losable (es.filter (logged s.log.enable)) + losable (es'.filter (logged s.log.enable)) := by
    rw [losable, List.filter_append, List.countP_append]; rfl
  refine ⟨?_, ?_, ?_, ?_, ?_, by omega, by rw [hlosable]; omega, ?_⟩
  · rw [klog, hlog]
    simp only [List.append_assoc, plus_plus, List.filter_append, List.length_append, BitVec.ofNat_add, BitVec.add_assoc]
  · rw [List.map_append, List.filter_append]; exact hsub.append ksub
  · rw [List.filter_append, List.length_append, List.length_append]; omega
  · intro e he hk
    rcases List.mem_append.mp he with he | he
    · obtain ⟨x, hx, hev⟩ := hdone e he hk
      exact ⟨x, List.mem_append_left _ hx, hev⟩
    · obtain ⟨x, hx, hev⟩ := kdone e he hk
      exact ⟨x, List.mem_append_right _ hx, hev⟩
  · intro hne
    rcases Nat.eq_zero_or_pos lost with h0 | hpos
    · exact klost (by omega)
    · have := hlost (by omega); omega
  · intro hroom
    rw [hlosable] at hroom
    rw [List.map_append, List.filter_append, hall (by omega), kall (by omega)]

/-- One event offered, where its own place among those held back, if it had one, has been given up. -/
theorem offeredTo_offer {s s' : State} {e : Event} (hlog : s'.log = { s.log with heldBack := s'.log.heldBack })
    (huse : s'.logUse + (if e.kind = .commandDone then 1 else 0) = s.logUse) :
    ∃ recs lost, offeredTo [e] s (s'.offer e) recs lost := by
  have hpart (l : EventLog) (h : (s'.offer e).log = l) : (s'.offer e).logUse =
      l.records.length + (s'.cmd.queue.length + l.heldBack.countP (fun e => e.kind == .commandDone)) := by
    rw [State.logUse, State.reserved, h, show (s'.offer e).cmd = s'.cmd from offer_frame s' e .cmd (by decide)]
  by_cases hk : e.kind = .commandDone
  · rw [if_pos hk] at huse
    have hoff := offer_done (s := s') hk
    have hin : [e].filter (logged s.log.enable) = [e] := by simp [logged, hk]
    have huse' : (s'.offer e).logUse = s'.logUse + 1 := by
      rw [hpart _ (congrArg State.log hoff)]
      simp only [State.append, State.logUse, State.reserved, List.length_append, List.length_singleton]; omega
    refine ⟨[⟨s.log.nextSeq, e⟩], 0, ?_⟩
    simp only [offeredTo, hin]
    refine ⟨?_, List.Sublist.refl _, rfl, ?_, nofun, by omega, by omega, fun _ => rfl⟩
    · rw [hoff, State.append, hlog]; simp [plus_zero]
    · intro x hx _
      exact ⟨_, List.mem_singleton_self _, (List.mem_singleton.mp hx).symm⟩
  · rw [if_neg hk] at huse
    have hdone (q : List Record) : ∀ x ∈ [e], x.kind = .commandDone → ∃ y ∈ q, y.ev = x := by
      intro x hx hx'
      rw [List.mem_singleton.mp hx] at hx'
      exact absurd hx' hk
    cases hin : logged s.log.enable e with
    | false =>
      have hoff : s'.offer e = s' := by
        have henable : s'.log.enable = s.log.enable := by rw [hlog]
        simp only [logged, beq_eq_false_iff_ne.mpr hk, Bool.false_or] at hin
        cases hg : e.group with
        | none => rw [State.offer, if_neg hk, hg]
        | some g =>
          rw [hg] at hin
          simp only [State.offer, if_neg hk, hg, henable, hin, Bool.false_eq_true, if_false]
      rw [hoff]
      refine ⟨[], 0, ?_⟩
      have hnil := offeredTo_nil (t := s') hlog (by omega)
      simp only [offeredTo, List.filter_cons, hin, Bool.false_eq_true, if_false, List.filter_nil] at hnil ⊢
      obtain ⟨h1, h2, h3, _, h5⟩ := hnil
      exact ⟨h1, h2, h3, hdone _, h5⟩
    | true =>
      have hfilter : [e].filter (logged s.log.enable) = [e] := by simp [hin]
      have hlosable : losable [e] = 1 := by simp [losable, hk]
      simp only [logged, beq_eq_false_iff_ne.mpr hk, Bool.false_or] at hin
      cases hg : e.group with
      | none => rw [hg] at hin; cases hin
      | some g =>
        rw [hg] at hin
        have henable : s'.log.enable.getLsbD g.val = true := by rw [hlog]; exact hin
        have hoff := offer_log (s := s') hg hk
        rw [if_neg (by rw [henable]; decide)] at hoff
        by_cases hroom : s'.log.records.length + s'.reserved < 32
        · rw [if_pos hroom] at hoff
          have huse' : (s'.offer e).logUse = s'.logUse + 1 := by
            rw [hpart _ hoff]
            simp only [State.logUse, State.reserved, List.length_append, List.length_singleton]; omega
          refine ⟨[⟨s.log.nextSeq, e⟩], 0, ?_⟩
          simp only [offeredTo, hfilter, hlosable]
          refine ⟨?_, List.Sublist.refl _, rfl, hdone _, nofun, by omega, by omega, fun _ => rfl⟩
          rw [hoff, hlog]; simp [plus_zero]
        · rw [if_neg hroom] at hoff
          have huse' : (s'.offer e).logUse = s'.logUse := by
            rw [hpart _ hoff]; rfl
          have hfull : 32 ≤ s'.logUse := Nat.le_of_not_lt hroom
          refine ⟨[], 1, ?_⟩
          simp only [offeredTo, hfilter, hlosable]
          refine ⟨?_, List.nil_sublist _, rfl, hdone _, fun _ => by omega, by omega, by omega, fun h => by omega⟩
          rw [hoff, hlog]; simp

theorem offer_heldBack (s : State) (e : Event) : (s.offer e).log.heldBack = s.log.heldBack := by
  simp only [State.offer]
  repeat' split
  all_goals rfl

theorem offeredTo_congr {es : List Event} {s t u : State} {recs : List Record} {lost : Nat}
    (h : offeredTo es s t recs lost) (hlog : u.log = t.log) (hcmd : u.cmd = t.cmd) : offeredTo es s u recs lost := by
  have huse : u.logUse = t.logUse := by rw [State.logUse, State.logUse, State.reserved, State.reserved, hlog, hcmd]
  simp only [offeredTo, hlog, huse]
  exact h

/-- The events that a closing window has held back, offered one after another. -/
theorem offeredTo_heldBack : ∀ (es : List Event) (s : State), s.log.heldBack = es →
    (∃ recs lost, offeredTo es s (es.foldl State.offerHeld s) recs lost) ∧ (es.foldl State.offerHeld s).log.heldBack = []
  | [], s, h => ⟨⟨[], 0, offeredTo_nil rfl rfl⟩, h⟩
  | e :: es, s, h => by
    have huse : State.logUse { s with log := { s.log with heldBack := s.log.heldBack.tail } } +
        (if e.kind = .commandDone then 1 else 0) = s.logUse := by
      by_cases hk : e.kind = .commandDone <;> simp [State.logUse, State.reserved, h, hk]; omega
    obtain ⟨recs, lost, hone⟩ := offeredTo_offer (s := s) (e := e)
      (s' := { s with log := { s.log with heldBack := s.log.heldBack.tail } }) rfl huse
    have hheld : (s.offerHeld e).log.heldBack = es := by
      rw [State.offerHeld, offer_heldBack, h]; rfl
    obtain ⟨⟨recs', lost', hrest⟩, hempty⟩ := offeredTo_heldBack es (s.offerHeld e) hheld
    exact ⟨⟨_, _, offeredTo_append hone hrest⟩, hempty⟩

/-! ## The closing of the window -/

/-- SUP_SEQUENCE_ERROR of a window that closes (R169). -/
def closingEvent (s : State) : Event := ⟨.supSequenceError, some 7, 10, none, s.tb.count, 2⟩

/-- The supervisor RUNNING again, its window closed. -/
def disarmed (s : State) : State := { s with sup := { s.sup with st := .running, windowCount := 0 } }

theorem closeWindow_spec (s : State) :
    s.closeWindow.log.heldBack = [] ∧ s.closeWindow.irq = s.irq.setFlag 7 ∧
      s.closeWindow.sup = { s.sup with st := .running, windowCount := 0 } ∧
      ∃ recs lost, offeredTo (closingEvent s :: s.log.heldBack) s s.closeWindow recs lost := by
  have hclosed : (disarmed s).closingDue = false := rfl
  have hclose : s.closeWindow = s.log.heldBack.foldl State.offerHeld
      ((disarmed s).raise (closingEvent s)) := rfl
  have hraise := raise_log (e := closingEvent s) (g := 7) rfl hclosed
  have hirq := raise_irq (s := disarmed s) (e := closingEvent s)
    (g := 7) rfl
  have hframe := raise_frame (disarmed s) (closingEvent s)
  generalize (disarmed s).raise (closingEvent s) = t at *
  have hcmd : t.cmd = s.cmd := hframe .cmd (by decide)
  have hsup : t.sup = { s.sup with st := .running, windowCount := 0 } := hframe .sup (by decide)
  have hfold := frame_foldl _ offerHeld_frame s.log.heldBack t
  obtain ⟨recs, lost, hone⟩ := offeredTo_offer (s := s) (e := closingEvent s)
    (s' := disarmed s) rfl rfl
  have hfirst := offeredTo_congr hone hraise (hcmd.trans (offer_frame (disarmed s) (closingEvent s) .cmd (by decide)).symm)
  have hheld : t.log.heldBack = s.log.heldBack := by rw [hraise, offer_heldBack]; rfl
  obtain ⟨⟨recs', lost', hrest⟩, hempty⟩ := offeredTo_heldBack s.log.heldBack t hheld
  rw [hclose]
  exact ⟨hempty, (hfold .irq (by decide)).trans hirq, (hfold .sup (by decide)).trans hsup, _, _,
    offeredTo_append hfirst hrest⟩

/-- Settles O10: one event outside and within a closing, a completion record, and the closing itself. -/
theorem raisedEventIsFlaggedAndLogged : Obligations.RaisedEventIsFlaggedAndLogged := by
  unfold Obligations.RaisedEventIsFlaggedAndLogged
  refine ⟨fun s e g hg hk hc => ?_, fun s e hg hk hc => ?_, fun s first rest res value slot hq => ?_, fun s hc => ⟨?_, ?_⟩⟩
  · obtain ⟨hflag, hirq⟩ := raise_flags (s := s) hg
    exact ⟨hflag, hirq, by rw [raise_log hg hc, offer_log hg hk], raise_frame s e⟩
  · obtain ⟨hflag, hirq⟩ := raise_flags (s := s) hg
    exact ⟨hflag, hirq, by rw [raise_log hg hc, offer_done hk]; rfl, raise_frame s e⟩
  · exact recordDone_use res value slot hq
  · intro e g hg
    exact ⟨(raise_flags (s := s) hg).1, raise_closing e hc, raise_frame s e⟩
  · obtain ⟨hheld, hirq, _, recs, lost, hlog, hsub, hlen, hdone, hlost, _, _, hall⟩ := closeWindow_spec s
    rw [hheld] at hlog
    refine ⟨hheld, fun h => by rw [hirq, setFlag_flag], recs, lost, hlog, hsub, hlen, fun e he hk => ?_, hlost, hall⟩
    exact hdone e (List.mem_cons_of_mem _ he) hk

end Sys2Proof.Proofs
end

section
/-! PROOFS. The slot record read port (R50, R71 to R73). -/

set_option Elab.async false

namespace Sys2Proof.Proofs

open Sys2Proof.Machine Sys2Proof.Safety Sys2Proof.Laws

/-! ## The rows -/

theorem write_slotSel {s : State} (data : Word) (hq : quiet s) (hp : s.power ≠ .retain) (h : data.toNat < 64) :
    ∃ r, exec (.slotSelWrite data) s = .next r.arbitrate ∧ r.port = answered s.port .ok none ∧ r.sup = counted s.sup ∧
      r.slotPort = { s.slotPort with sel := ⟨data.toNat, h⟩, wordSel := 0 } ∧
      r.moment = ⟨[.snapshot], [], s.opening .host, false⟩ ∧ unchangedBut [.port, .sup, .slotPort, .moment] s r := by
  have hplace : s.placeRefused .slotSel data = false := by simp [State.placeRefused]; omega
  have hf : s.accessFails ⟨0x60, true, data⟩ = none :=
    accessFails_write (reg := .slotSel) rfl (absurd · hp) rfl rfl nofun rfl hplace nofun
  have hrow := hostRow_quiet_request hq ⟨0x60, true, data⟩ rfl hf
  rw [transact_write (r := .slotSel) (by rw [accessFails_moment, hf]) rfl rfl] at hrow
  refine ⟨_, congrArg Host.Outcome.next hrow, ?_⟩
  have hsel : (⟨data.toNat % 64, Nat.mod_lt _ (by decide)⟩ : SlotId) = ⟨data.toNat, h⟩ := Fin.ext (Nat.mod_eq_of_lt h)
  show _ ∧ _
  simp only [State.writeReg, State.store, State.selectSlot, hsel]
  rw [respondOk_eq]
  exact ⟨rfl, rfl, rfl, rfl, by intro f hf; cases f <;> first | rfl | exact absurd (by decide) hf⟩

theorem slotDataOk_eq (s : State) : s.slotDataOk =
    { s with
      slotPort := { s.slotPort with wordSel := s.slotPort.wordSel + 1 }
      port := { s.port with
        waiting := none, stallCount := 0, resp := .ok, rdata := some (s.slotPort.shadow.get s.slotPort.wordSel) }
      sup := counted s.sup } := by
  rw [State.slotDataOk, respondOk_eq]; rfl

/-- The snapshot where no SLOT_DATA read waits for it. -/
theorem serveSnapshot_alone {s : State} (h : s.port.waiting ≠ some .slotData) :
    s.serveSnapshot = { s with slotPort := { s.slotPort with shadow := s.slotWords s.slotPort.sel } } := by
  simp only [State.serveSnapshot]
  split
  next hw => exact absurd hw h
  all_goals rfl

theorem serveSnapshot_waited {s : State} (h : s.port.waiting = some .slotData) :
    s.serveSnapshot =
      State.slotDataOk { s with slotPort := { s.slotPort with shadow := s.slotWords s.slotPort.sel } } := by
  simp only [State.serveSnapshot, h]

theorem snapshot_alone {s : State} (hdue : s.nextDue = some (.req .snapshot)) (h : s.port.waiting ≠ some .slotData) :
    ∃ r, exec .snapshot s = .next r.arbitrate ∧
      r.slotPort = { s.slotPort with shadow := s.slotWords s.slotPort.sel } ∧ unchangedBut [.slotPort, .moment] s r := by
  refine ⟨_, congrArg Host.Outcome.next (serviceRow_req hdue), ?_⟩
  rw [State.perform, serveSnapshot_alone (s := begun s) h]
  exact ⟨rfl, by intro f hf; cases f <;> first | rfl | exact absurd (by decide) hf⟩

theorem snapshot_waited {s : State} (hdue : s.nextDue = some (.req .snapshot)) (h : s.port.waiting = some .slotData) :
    ∃ r, exec .snapshot s = .next r.arbitrate ∧
      r.port = { s.port with
        waiting := none, stallCount := 0, resp := .ok
        rdata := some ((s.slotWords s.slotPort.sel).get s.slotPort.wordSel) } ∧
      r.sup = counted s.sup ∧
      r.slotPort = { s.slotPort with
        shadow := s.slotWords s.slotPort.sel, wordSel := s.slotPort.wordSel + 1 } ∧
      unchangedBut [.port, .sup, .slotPort, .moment] s r := by
  refine ⟨_, congrArg Host.Outcome.next (serviceRow_req hdue), ?_⟩
  rw [State.perform, serveSnapshot_waited (s := begun s) h, slotDataOk_eq]
  exact ⟨rfl, rfl, rfl, by intro f hf; cases f <;> first | rfl | exact absurd (by decide) hf⟩

theorem accessFails_slotData {s : State} (hp : s.power ≠ .retain) : s.accessFails ⟨0x61, false, 0⟩ = none :=
  accessFails_read (r := .slotData) rfl rfl hp

theorem readReg_slotData (s : State) :
    s.readReg .slotData = if s.outstanding .snapshot then s.startWait .slotData else s.slotDataOk := rfl

theorem read_slotData {s : State} (h : quiet s) (hp : s.power ≠ .retain) :
    ∃ r, exec .slotDataRead s = .next r.arbitrate ∧
      answeredOk s r (some (s.slotPort.shadow.get s.slotPort.wordSel)) ∧
      r.slotPort = { s.slotPort with wordSel := s.slotPort.wordSel + 1 } ∧
      unchangedBut [.port, .sup, .slotPort, .moment] s r := by
  have hrow := hostRow_reading h (r := .slotData) rfl (accessFails_slotData hp)
  have hout : ¬ (admitted s).outstanding .snapshot = true := nofun
  rw [readReg_slotData, if_neg hout] at hrow
  refine ⟨_, congrArg Host.Outcome.next hrow, ?_⟩
  rw [slotDataOk_eq]
  exact ⟨⟨rfl, rfl, rfl⟩, rfl, by intro f hf; cases f <;> first | rfl | exact absurd (by decide) hf⟩

/-- With a snapshot outstanding a read of SLOT_DATA comes upon it, and waits. -/
theorem slotData_waits {s : State} (hw : s.port.waiting = none) (ha : s.accepting = true) (hu : s.urgentDue = false)
    (hp : s.power ≠ .retain) (ho : s.outstanding .snapshot = true) :
    ∃ r, exec .slotDataRead s = .next r.arbitrate ∧ r.port = holding s.port .slotData ∧ unchangedBut [.port] s r := by
  have hbefore : s.beforeHost ⟨0x61, false, 0⟩ = s := by simp [State.beforeHost, hu, ho, Access.readsSlotData]
  have hrow := hostRow_met hw hbefore hw ha
  rw [transact_read (r := .slotData) (accessFails_slotData hp) rfl rfl] at hrow
  rw [readReg_slotData, if_pos (show s.accepted.outstanding .snapshot = true from ho)] at hrow
  exact ⟨_, congrArg Host.Outcome.next hrow, rfl, by intro f hf; cases f <;> first | rfl | exact absurd (by decide) hf⟩

/-! ## The words of a record -/

/-- The lane has the slot in a queue, its current place or its linger place (R50). -/
def hasSlot (s : State) (i : SlotId) (n : LaneId) : Prop :=
  (s.slot i).st = .ready ∧ (i ∈ (s.lane n).readyQ ∨ i ∈ (s.lane n).submitQ) ∨
    (s.slot i).st = .draining ∧ (s.lane n).cur = some i ∨ (s.slot i).st = .linger ∧ (s.lane n).linger = some i

/-- The first lane with a property, if some lane has it. -/
theorem find_laneList {p : LaneId → Bool} {q : LaneId → Prop} (h : ∀ n, p n = true ↔ q n) :
    (laneList.find? p = none ↔ ∀ n, ¬ q n) ∧ ∀ n, laneList.find? p = some n → q n := by
  refine ⟨?_, fun n hn => (h n).mp (List.find?_some hn)⟩
  rw [List.find?_eq_none]
  exact ⟨fun hall n => (h n).not.mp (hall n (mem_laneList n)), fun hall n _ => (h n).not.mpr (hall n)⟩

theorem holder_spec (s : State) (i : SlotId) :
    (s.holder i = none ↔ ∀ n, ¬ hasSlot s i n) ∧ ∀ n, s.holder i = some n → hasSlot s i n := by
  unfold State.holder
  cases hst : (s.slot i).st with
  | ready | draining | linger => exact find_laneList fun n => by simp [hasSlot, hst]
  | unassigned | free | filling | claimed | quarantined => simp [hasSlot, hst]

theorem slotWord_zero (s : State) (i : SlotId) : ((s.slotWords i).get 0).toNat = packed
    [((s.slot i).st.code, 0), ((s.slot i).owner.code, 4),
      (holderCode (s.holder i), 8), ((s.slot i).flags.truncated.toNat, 12), ((s.slot i).flags.cut.toNat, 13), ((s.slot i).flags.wordsLost.toNat, 14),
      ((s.slot i).flags.eccFixed.toNat, 15), ((s.slot i).flags.eccBad.toNat, 16),
      ((s.slot i).flags.repeated.toNat, 17), ((s.slot i).flags.hostBuilt.toNat, 18),
      ((s.slot i).stats.isSome.toNat, 19), ((s.slot i).flags.crcMismatch.toNat, 20)] := by
  have hword : (s.slotWords i).get 0 = fieldsWord
      [((s.slot i).st.code, 0), ((s.slot i).owner.code, 4), (holderCode (s.holder i), 8),
        ((s.slot i).flags.truncated.toNat, 12), ((s.slot i).flags.cut.toNat, 13), ((s.slot i).flags.wordsLost.toNat, 14),
        ((s.slot i).flags.eccFixed.toNat, 15), ((s.slot i).flags.eccBad.toNat, 16),
        ((s.slot i).flags.repeated.toNat, 17), ((s.slot i).flags.hostBuilt.toNat, 18),
        ((s.slot i).stats.isSome.toNat, 19), ((s.slot i).flags.crcMismatch.toNat, 20)] := by
    show placed (s.slot i).st.code 0 ||| placed (s.slot i).owner.code 4 ||| placed (holderCode (s.holder i)) 8 |||
      (s.slot i).flags.word (s.slot i).stats.isSome = _
    simp only [fieldsWord, List.foldl_cons, List.foldl_nil, BitVec.zero_or, SlotFlags.word, flagAt, BitVec.or_assoc]
  have hlt : holderCode (s.holder i) < 16 := by
    cases s.holder i with
    | none => simp [holderCode]
    | some n => simp only [holderCode]; omega
  rw [hword]
  generalize s.slot i = x
  have hst : x.st.code < 16 := by cases x.st <;> decide
  have howner : x.owner.code < 16 := by
    cases x.owner with
    | none | host => decide
    | lane n => simp only [Owner.code]; omega
  have h1 := toNat_lt_two x.flags.truncated
  have h2 := toNat_lt_two x.flags.cut
  have h3 := toNat_lt_two x.flags.wordsLost
  have h4 := toNat_lt_two x.flags.eccFixed
  have h5 := toNat_lt_two x.flags.eccBad
  have h6 := toNat_lt_two x.flags.repeated
  have h7 := toNat_lt_two x.flags.hostBuilt
  have h8 := toNat_lt_two x.stats.isSome
  have h9 := toNat_lt_two x.flags.crcMismatch
  apply fieldsWord_toNat
  simp only [fieldsFit]; omega

theorem slotWord_four (s : State) (i : SlotId) :
    ((s.slotWords i).get 4).toNat = packed [((s.slot i).seq.toNat, 0), ((s.slot i).repeats.toNat, 16)] := by
  have hword : (s.slotWords i).get 4 = fieldsWord [((s.slot i).seq.toNat, 0), ((s.slot i).repeats.toNat, 16)] := by
    simp only [fieldsWord, List.foldl_cons, List.foldl_nil, BitVec.zero_or]; rfl
  have hseq := (s.slot i).seq.isLt
  have hrepeats := (s.slot i).repeats.isLt
  rw [hword, fieldsWord_toNat]
  simp only [fieldsFit]; omega

theorem leadWord_toNat {x : Stats} (h : x.leadZeros < 4194304) :
    (leadWord x).toNat = packed [(x.leadZeros, 0), (x.allZero.toNat, 31)] := by
  have hword : leadWord x = fieldsWord [(x.leadZeros % 2 ^ 22, 0), (x.allZero.toNat, 31)] := by
    simp only [fieldsWord, List.foldl_cons, List.foldl_nil, BitVec.zero_or]; rfl
  have hzero := toNat_lt_two x.allZero
  rw [hword, fieldsWord_toNat (by simp only [fieldsFit]; omega), Nat.mod_eq_of_lt (b := 2 ^ 22) h]

theorem slotWords_noStats {s : State} {i : SlotId} (h : (s.slot i).stats = none) :
    (s.slotWords i).get 6 = 0 ∧ (s.slotWords i).get 7 = 0 ∧ (s.slotWords i).get 8 = 0 := by
  simp only [State.slotWords, h]
  exact ⟨rfl, rfl, rfl⟩

theorem slotWords_stats {s : State} {i : SlotId} {x : Stats} (h : (s.slot i).stats = some x) :
    (s.slotWords i).get 6 = x.crc ∧ (s.slotWords i).get 7 = BitVec.ofNat 32 x.ones ∧
      (s.slotWords i).get 8 = leadWord x := by
  simp only [State.slotWords, h]
  exact ⟨rfl, rfl, rfl⟩

/-- Settles O19: the write of SLOT_SEL, the snapshot, the reads of SLOT_DATA, and the words of a record. -/
theorem slotPortSnapshotsAndReads : Obligations.SlotPortSnapshotsAndReads := by
  unfold Obligations.SlotPortSnapshotsAndReads
  refine ⟨fun s data hq hp h => write_slotSel data hq hp h, fun s hdue => ⟨snapshot_alone hdue, snapshot_waited hdue⟩,
    fun s hq hp => read_slotData hq hp, fun s hw ha hu hp ho => slotData_waits hw ha hu hp ho, fun s i => ?_⟩
  obtain ⟨hnone, hsome⟩ := holder_spec s i
  refine ⟨hnone, hsome, ?_, rfl, rfl, rfl, slotWord_four s i, rfl, slotWords_noStats, fun x hx => ?_⟩
  · refine (slotWord_zero s i).trans ?_
    rw [slotSt_code, owner_code]
    cases s.holder i <;> rfl
  · obtain ⟨h6, h7, h8⟩ := slotWords_stats hx
    exact ⟨h6, h7, fun hlead => by rw [h8]; exact leadWord_toNat hlead⟩

end Sys2Proof.Proofs
end

section
/-! PROOFS. Which words are host-accessible, the accesses of the Host Window, and the ends of a wait (R5, R6, R54, R122 to R128). -/

set_option Elab.async false

namespace Sys2Proof.Proofs

open Sys2Proof.Machine Sys2Proof.Safety Sys2Proof.Laws

/-! ## Accessible words and pointer steps -/

theorem mem_slotList (i : SlotId) : i ∈ slotList := List.mem_finRange i

theorem closed_eq_false (r : Slot) : r.closed = false ↔
    r.st ∈ [.unassigned, .claimed, .quarantined] ∨ (r.st = .free ∧ ∀ n, r.owner ≠ .lane n) := by
  unfold Slot.closed
  cases r.st <;> simp
  cases r.owner <;> simp

theorem covers_iff (r : Slot) (a : Nat) : r.covers a = true ↔ r.base ≤ a ∧ a < r.base + r.capacity := by
  simp [Slot.covers]

theorem hostAccessible_iff (s : State) (a : Nat) : s.hostAccessible a = true ↔
    ∀ i : SlotId, (s.slot i).base ≤ a → a < (s.slot i).base + (s.slot i).capacity → (s.slot i).closed = false := by
  simp only [State.hostAccessible, List.all_eq_true, mem_slotList, forall_const, Bool.not_eq_true', Bool.and_eq_false_iff]
  refine forall_congr' fun i => ?_
  rw [← Bool.not_eq_true ((s.slot i).covers a), covers_iff]
  tauto

/-- A slot's region meets a range of words exactly where some word of the range lies in it. -/
theorem rangeAccessible_iff (s : State) (a count : Nat) : s.rangeAccessible a count = true ↔
    ∀ b, a ≤ b → b < a + count → s.hostAccessible b = true := by
  simp only [State.rangeAccessible, List.all_eq_true, mem_slotList, forall_const, hostAccessible_iff]
  constructor
  · intro h b hab hb i hbase hcap
    have hi := h i
    by_contra hclosed
    simp only [Bool.not_eq_false] at hclosed
    simp [hclosed] at hi
    omega
  · intro h i
    by_contra hmeets
    simp only [Bool.not_eq_true', Bool.not_eq_false, Bool.and_eq_true, decide_eq_true_eq] at hmeets
    obtain ⟨⟨⟨⟨hclosed, hcount⟩, hcap⟩, hlow⟩, hhigh⟩ := hmeets
    have hopen := h (max a (s.slot i).base) (by omega) (by omega) i (by omega) (by omega)
    rw [hclosed] at hopen
    cases hopen

theorem advanced_spec {size : Nat} (ptr : Nat) (stride : BitVec 8) (h : 0 < size) :
    advanced size ptr stride < size ∧
      ∃ k : Int, (advanced size ptr stride : Int) = (ptr : Int) + stride.toInt + k * (size : Int) := by
  have hsize : (size : Int) ≠ 0 := by omega
  have hlow := Int.emod_nonneg ((ptr : Int) + stride.toInt) hsize
  have hhigh := Int.emod_lt_of_pos ((ptr : Int) + stride.toInt) (show (0 : Int) < size by omega)
  have hdiv := Int.mul_ediv_add_emod ((ptr : Int) + stride.toInt) size
  refine ⟨by unfold advanced; omega, -(((ptr : Int) + stride.toInt) / size), ?_⟩
  rw [advanced, Int.toNat_of_nonneg hlow, Int.neg_mul, Int.mul_comm _ (size : Int)]
  omega

/-- Settles O20: accessible words and ranges, and the step of a pointer. -/
theorem accessibleWordsAndPointerSteps : Obligations.AccessibleWordsAndPointerSteps := by
  unfold Obligations.AccessibleWordsAndPointerSteps
  refine ⟨fun s a => ?_, rangeAccessible_iff, fun part ptr stride h => advanced_spec ptr stride (by omega)⟩
  rw [hostAccessible_iff]
  simp only [closed_eq_false]

/-! ## Refused accesses -/

/-- Response ERR to an access of `s`, after effects that reach neither what HOST_ERR and HOST_ERROR hold nor the moment. -/
theorem respondErr_refuses {s t : State} (x : Reason) (a : Access)
    (hport : { t.port with waiting := none, stallCount := 0 } = { (admitted s).port with waiting := none, stallCount := 0 })
    (hsup : t.sup = s.sup) (hlog : t.log = s.log) (hirq : t.irq = s.irq) (htb : t.tb = s.tb)
    (hmoment : t.moment = Moment.empty) : refusedWith s (t.respondErr x a) x a := by
  have hdetail : (⟨.hostError, some 6, 4, none, t.tb.count, hostErrorDetail x a⟩ : Event) = hostErrorEvent s x a := by
    rw [hostErrorDetail_eq, htb]; rfl
  rw [respondErr_eq, raise_eq]
  refine ⟨?_, congrArg counted hsup, ?_, hmoment⟩
  · have herr : t.port.err = s.port.err := by injection hport
    show HostPort.mk _ _ _ _ _ _ _ _ _ _ = HostPort.mk _ _ _ _ _ _ _ _ _ _
    rw [herr]
    exact congrArg (fun p : HostPort => { p with
      resp := .err, rdata := if a.write then none else some 0, err := s.port.err.latch x a }) hport
  · rw [raises_one, ← hdetail]
    exact raise_congr _ hlog hirq rfl rfl

/-! ## Window accesses (R123 to R126) -/

@[simp] theorem decodeReg_winData (p : Ptr) : decodeReg (winDataAddr p) = some (.winData p) := by cases p <;> decide

theorem accessFails_winData {s : State} (p : Ptr) (write : Bool) (data : Word) (hp : s.power ≠ .retain)
    (hs : s.sweep.running = false) : s.accessFails ⟨winDataAddr p, write, data⟩ = none := by
  simp [State.accessFails, hp, hs, Reg.readOnly, Reg.lockProtected, State.stateRefuses, State.placeRefused]

theorem exec_winDataWrite {s : State} (p : Ptr) (data : Word) (h : quiet s) (hp : s.power ≠ .retain)
    (hs : s.sweep.running = false) : exec (.winDataWrite p data) s = .next ((admitted s).windowWrite p data).arbitrate :=
  congrArg Host.Outcome.next (hostRow_writing h (decodeReg_winData p) (accessFails_winData p true data hp hs)
    (requestsAtOnce_plain (decodeReg_winData p) nofun nofun nofun))

theorem exec_winDataRead {s : State} (p : Ptr) (h : quiet s) (hp : s.power ≠ .retain)
    (hs : s.sweep.running = false) : exec (.winDataRead p) s = .next ((admitted s).windowRead p).arbitrate :=
  congrArg Host.Outcome.next (hostRow_reading h (decodeReg_winData p) (accessFails_winData p false 0 hp hs))

/-- Settles O21: the three outcomes of a window write, by the room in the buffer and by its access check. -/
theorem windowWriteIsPosted : Obligations.WindowWriteIsPosted := by
  unfold Obligations.WindowWriteIsPosted
  intro s p data h hp hs
  have hrow := exec_winDataWrite p data h hp hs
  refine ⟨fun hroom hok => ?_, fun hroom hno => ?_, fun hfull => ?_⟩
  · have hpost : (admitted s).windowWrite p data = State.respondOk
        (State.advance { admitted s with win := { s.win with buffer := s.win.buffer ++ [(s.win.ptr p, data)] } } p) none :=
      (if_pos hroom).trans (if_pos hok)
    rw [hpost] at hrow
    refine ⟨_, hrow, respondOk_answers _ rfl rfl rfl, ?_, ?_⟩
    · rw [respondOk_eq]; cases p <;> rfl
    · rw [respondOk_eq]; intro f hf; cases f <;> first | rfl | exact absurd (by decide) hf
  · have hdenied : (admitted s).windowWrite p data = (admitted s).respondErr .denied ⟨winDataAddr p, true, data⟩ :=
      (if_pos hroom).trans (if_neg (Bool.not_eq_true _ ▸ hno))
    rw [hdenied] at hrow
    exact ⟨_, hrow, respondErr_refuses _ _ rfl rfl rfl rfl rfl rfl,
      frame_comp (admitted_frame s) (respondErr_frame _ _ _)⟩
  · have hwaits : (admitted s).windowWrite p data = (admitted s).startWait (.winWrite p data) :=
      if_neg (by show ¬ s.win.buffer.length < 4; omega)
    rw [hwaits] at hrow
    exact ⟨_, hrow, rfl, rfl, frame_comp (admitted_frame s) (startWait_frame _ _)⟩

/-- Settles O22: the three outcomes of a window read, by the emptiness of the buffer and by its access check. -/
theorem windowReadIsIssued : Obligations.WindowReadIsIssued := by
  unfold Obligations.WindowReadIsIssued
  intro s p h hp hs
  have hrow := exec_winDataRead p h hp hs
  have hissue (he : s.win.buffer = []) : (admitted s).windowRead p = ((admitted s).startWait (.winRead p)).issue p :=
    if_pos (by show s.win.buffer.isEmpty = true; rw [he]; rfl)
  refine ⟨fun he hok => ?_, fun he hno => ?_, fun hne => ?_⟩
  · have hset : (admitted s).windowRead p = ((admitted s).startWait (.winRead p)).setStage (.issued p) :=
      (hissue he).trans (if_pos hok)
    rw [hset] at hrow
    exact ⟨_, hrow, rfl, rfl, rfl, by intro f hf; cases f <;> first | rfl | exact absurd (by decide) hf⟩
  · have hdenied : (admitted s).windowRead p =
        (((admitted s).startWait (.winRead p)).setStage .none).respondErr .denied ⟨winDataAddr p, false, 0⟩ :=
      (hissue he).trans (if_neg (Bool.not_eq_true _ ▸ hno))
    rw [hdenied] at hrow
    refine ⟨_, hrow, respondErr_refuses _ _ rfl rfl rfl rfl rfl rfl, ?_,
      frame_comp (fs := [.port, .moment, .win]) ?_ (respondErr_frame _ _ _)⟩
    · rw [respondErr_eq, raise_eq]; rfl
    · intro f hf; cases f <;> first | rfl | exact absurd (by decide) hf
  · have hwaits : (admitted s).windowRead p = ((admitted s).startWait (.winRead p)).setStage (.awaitDrain p) :=
      if_neg (by show ¬ s.win.buffer.isEmpty = true; simpa using hne)
    rw [hwaits] at hrow
    exact ⟨_, hrow, rfl, rfl, rfl, by intro f hf; cases f <;> first | rfl | exact absurd (by decide) hf⟩

/-! ## The ends of a wait (R5, R6) -/

/-- The read stage once the wait is withdrawn. -/
def stageWithout (w : Wait) (stage : ReadStage) : ReadStage :=
  match w with
  | .winRead _ => .none
  | _ => stage

theorem withdrawWait_eq {s : State} {w : Wait} (h : s.port.waiting = some w) :
    s.withdrawWait = { s with win := { s.win with stage := stageWithout w s.win.stage } } := by
  unfold State.withdrawWait
  rw [h]
  cases w <;> rfl

theorem endWait_eq {s : State} {w : Wait} (answer : State → Access → State) (h : s.port.waiting = some w)
    (hg : s.win.stage.isGranted = false) : s.endWait answer = answer s.withdrawWait w.access := by
  unfold State.endWait
  simp [h, hg]

theorem beforePins_eq {s : State} (h : s.urgentDue = false) : s.beforePins = s := if_neg (by rw [h]; decide)

theorem exec_timeout {s : State} {w : Wait} (hu : s.urgentDue = false) (hl : s.port.stallLimit ≠ 0)
    (hw : s.port.waiting = some w) (hg : s.win.stage.isGranted = false) :
    exec .timeout s = .next ((s.withdrawWait.respondErr .timeout w.access).openMoment []) := by
  show Host.Outcome.next s.beforePins.timeOut = _
  rw [beforePins_eq hu, State.timeOut, if_neg hl, endWait_eq _ hw hg]

/-- Settles O17: the wait ends as a refused access does, with its request withdrawn. -/
theorem timeoutEndsTheWait : Obligations.TimeoutEndsTheWait := by
  unfold Obligations.TimeoutEndsTheWait
  intro s w hu hl hw hg a
  have ha : w.access = a := by cases w <;> rfl
  refine ⟨_, exec_timeout hu hl hw hg, ?_⟩
  have hdetail : (⟨.hostError, some 6, 4, none, s.tb.count, hostErrorDetail .timeout a⟩ : Event) =
      hostErrorEvent s .timeout a := by
    rw [hostErrorDetail_eq]; rfl
  rw [ha, withdrawWait_eq hw, respondErr_eq, raise_eq]
  refine ⟨rfl, rfl, ?_, by cases w <;> rfl, rfl, rfl,
    by intro f hf; cases f <;> first | rfl | exact absurd (by decide) hf⟩
  rw [raises_one, ← hdetail]
  exact raise_congr _ rfl rfl rfl rfl

theorem exec_abort {s : State} {w : Wait} (hu : s.urgentDue = false) (hb : s.port.abt = false)
    (hw : s.port.waiting = some w) (hg : s.win.stage.isGranted = false) :
    exec (.abort true) s =
      .next ((State.withdrawWait { s with port := { s.port with abt := true } }).respondAborted w.access) := by
  show Host.Outcome.next (s.beforePins.sampleAbort true) = _
  rw [beforePins_eq hu]
  simp only [State.sampleAbort, hb, Bool.not_false, Bool.and_self, if_true]
  rw [endWait_eq (s := { s with port := { s.port with abt := true } }) _ hw hg]

/-- With no transaction waiting, or no edge, a sample of H_ABT stores the level. -/
theorem exec_abort_level {s : State} {level : Bool} (hu : s.urgentDue = false)
    (h : level = false ∨ s.port.abt = true ∨ s.port.waiting = none) :
    exec (.abort level) s = .next { s with port := { s.port with abt := level } } := by
  show Host.Outcome.next (s.beforePins.sampleAbort level) = _
  rw [beforePins_eq hu]
  simp only [State.sampleAbort]
  rcases h with rfl | hb | hw
  · rfl
  · rw [if_neg (by rw [hb]; simp)]
  · split
    · simp only [State.endWait, hw]
    · rfl

/-- Settles O18: the assertion ends the wait, and any other sample stores the level. -/
theorem abortEndsTheWait : Obligations.AbortEndsTheWait := by
  unfold Obligations.AbortEndsTheWait
  refine fun s hu => ⟨fun w hb hw hg => ?_, fun level h => exec_abort_level hu h⟩
  refine ⟨_, exec_abort hu hb hw hg, ?_⟩
  rw [withdrawWait_eq (s := { s with port := { s.port with abt := true } }) hw, respondAborted_eq]
  exact ⟨rfl, rfl, by cases w <;> rfl, by intro f hf; cases f <;> first | rfl | exact absurd (by decide) hf⟩

end Sys2Proof.Proofs
end

section
/-! PROOFS. The checks of an access in their order (R3), over the register map. -/

set_option Elab.async false

namespace Sys2Proof.Proofs

open Sys2Proof.Machine Sys2Proof.Safety Sys2Proof.Laws

/-! ## The register map by its addresses -/

/-- The mapped addresses (chapter 11). -/
def mappedAddrs : List Nat :=
  List.range 9 ++ (List.range 7).map (0x10 + ·) ++ (List.range 7).map (0x20 + ·) ++ (List.range 11).map (0x30 + ·) ++
    (List.range 9).map (0x40 + ·) ++ (List.range 6).map (0x50 + ·) ++ (List.range 3).map (0x60 + ·) ++
    (List.range 4).flatMap fun n => (List.range 9).map fun o => 0x80 + 0x10 * n + o

/-- The addresses of the read-only registers. -/
def readOnlyAddrs : List Nat :=
  [0x00, 0x01, 0x04, 0x16, 0x25, 0x30, 0x31, 0x33, 0x37, 0x39, 0x40, 0x46, 0x48, 0x50, 0x51, 0x52, 0x53, 0x55, 0x61] ++
    (List.range 4).flatMap fun n => [4, 5, 6, 8].map fun o => 0x80 + 0x10 * n + o

/-- The addresses of the lock-protected registers. -/
def lockedAddrs : List Nat :=
  [0x07, 0x08, 0x41, 0x42, 0x43, 0x54] ++
    (List.range 4).flatMap fun n => (List.range 4).map fun o => 0x80 + 0x10 * n + o

/-- The address of a register (chapter 11). -/
def regAddr : Reg → Nat
  | .devId => 0x00 | .devCaps => 0x01 | .hostErr => 0x02 | .cfgLock => 0x03 | .resetCause => 0x04 | .resetArm => 0x05
  | .resetGo => 0x06 | .hostStallLimit => 0x07 | .arbCfg => 0x08 | .winPtr .a => 0x10 | .winStride .a => 0x11
  | .winData .a => 0x12 | .winPtr .b => 0x13 | .winStride .b => 0x14 | .winData .b => 0x15 | .winStatus => 0x16
  | .cmdArg k => 0x20 + k.val | .cmdIssue => 0x24 | .cmdStatus => 0x25 | .engineAbort => 0x26 | .evtStatus => 0x30
  | .evtData => 0x31 | .evtWordSel => 0x32 | .evtLost => 0x33 | .irqPending => 0x34 | .irqEnable => 0x35 | .irqPrio => 0x36
  | .irqVector => 0x37 | .irqEoi => 0x38 | .irqInService => 0x39 | .evtLogEnable => 0x3A | .tbCount => 0x40
  | .tbPrescale => 0x41 | .supCfg => 0x42 | .supTimeout => 0x43 | .supArm => 0x44 | .supKick => 0x45 | .supStatus => 0x46
  | .powerCtrl => 0x47 | .powerStatus => 0x48 | .memStatus => 0x50 | .eccCorrCount => 0x51 | .eccUncorrCount => 0x52
  | .eccLastAddr => 0x53 | .scrubCfg => 0x54 | .scrubPos => 0x55 | .slotSel => 0x60 | .slotData => 0x61
  | .slotWordSel => 0x62 | .lnCfg n => 0x80 + 0x10 * n.val | .lnMarks n => 0x81 + 0x10 * n.val
  | .lnFillLen n => 0x82 + 0x10 * n.val | .lnFillWord n => 0x83 + 0x10 * n.val | .lnStatus n => 0x84 + 0x10 * n.val
  | .lnQueues n => 0x85 + 0x10 * n.val | .lnBind n => 0x86 + 0x10 * n.val | .lnCntSel n => 0x87 + 0x10 * n.val
  | .lnCntData n => 0x88 + 0x10 * n.val

theorem partReg_all : (List.range 0x80).all (fun a => (partReg a).all fun reg => regAddr reg == a) = true := by
  decide +kernel

theorem partReg_addr {a : Nat} {reg : Reg} (ha : a < 0x80) (h : partReg a = some reg) : regAddr reg = a := by
  have hall := List.all_eq_true.mp partReg_all a (List.mem_range.mpr ha)
  rw [h, Option.all_some, beq_iff_eq] at hall
  exact hall

theorem laneReg_addr {n : LaneId} {o : Nat} {reg : Reg} (h : laneReg n o = some reg) : regAddr reg = 0x80 + o + 0x10 * n.val := by
  unfold laneReg at h
  split at h <;> cases h <;> rfl

/-- Each register is decoded at its address alone. -/
theorem decodeReg_addr {addr : BitVec 8} {reg : Reg} (h : decodeReg addr = some reg) : regAddr reg = addr.toNat := by
  unfold decodeReg at h
  split at h
  · next hpart => exact partReg_addr hpart h
  · split at h
    · rw [laneReg_addr h]; dsimp only; omega
    · cases h

theorem decodeReg_mapped : ∀ a ∈ mappedAddrs, (decodeReg (BitVec.ofNat 8 a)).isSome = true := by decide +kernel

/-- What chapter 11 says of a register at its address. -/
def mapAgrees (a : Nat) (reg : Reg) : Bool :=
  mappedAddrs.contains a && (reg.readOnly == readOnlyAddrs.contains a) && (reg.lockProtected == lockedAddrs.contains a) &&
    (reg.inRetain == [0x00, 0x01, 0x02, 0x04, 0x47, 0x48].contains a) &&
    (reg.initRefused true == [0x12, 0x15, 0x24].contains a) && (reg.initRefused false == [0x12, 0x15].contains a) &&
    (decide (reg = .cmdIssue) == (a == 0x24))

theorem mapAgrees_regAddr (reg : Reg) : mapAgrees (regAddr reg) reg = true := by
  cases reg with
  | winPtr p | winStride p | winData p => cases p <;> decide +kernel
  | cmdArg n | lnCfg n | lnMarks n | lnFillLen n | lnFillWord n | lnStatus n | lnQueues n | lnBind n | lnCntSel n | lnCntData n =>
    revert n; decide +kernel
  | _ => decide +kernel

/-- The register at an address that has a state or place check of its own (checks 6 and 7 of R3). -/
def blockCheck (reg : Reg) : Bool :=
  match reg with
  | .lnCfg _ | .lnMarks _ | .lnFillLen _ | .lnFillWord _ | .irqEoi | .resetGo | .powerCtrl | .winPtr _ | .slotSel => true
  | _ => false

theorem blockCheck_regAddr (reg : Reg) (h : blockCheck reg = true) :
    regAddr reg ∈ [0x06, 0x10, 0x13, 0x24, 0x38, 0x47, 0x60] ∨ 0x80 ≤ regAddr reg ∧ regAddr reg % 16 ≤ 3 := by
  cases reg with
  | winPtr p => cases p <;> decide
  | lnCfg n | lnMarks n | lnFillLen n | lnFillWord n => exact .inr (by simp only [regAddr]; omega)
  | irqEoi | resetGo | powerCtrl | slotSel => decide
  | _ => cases h

theorem mapAgrees_of_decode {addr : BitVec 8} {reg : Reg} (h : decodeReg addr = some reg) :
    mapAgrees addr.toNat reg = true :=
  decodeReg_addr h ▸ mapAgrees_regAddr reg

theorem decodeReg_isSome_iff (addr : BitVec 8) : (decodeReg addr).isSome = true ↔ addr.toNat ∈ mappedAddrs := by
  refine ⟨fun h => ?_, fun h => ?_⟩
  · obtain ⟨reg, hd⟩ := Option.isSome_iff_exists.mp h
    have hmap := mapAgrees_of_decode hd
    simp only [mapAgrees, Bool.and_eq_true, List.contains_iff_mem] at hmap
    exact hmap.1.1.1.1.1.1
  · have hsome := decodeReg_mapped addr.toNat h
    rwa [BitVec.ofNat_toNat, BitVec.setWidth_eq] at hsome

theorem addr_eq {addr : BitVec 8} {k : Nat} (h : addr.toNat = k) : addr = BitVec.ofNat 8 k := by
  rw [← h, BitVec.ofNat_toNat]; rfl

theorem decodeReg_lane (n : LaneId) :
    decodeReg (BitVec.ofNat 8 (0x80 + 0x10 * n.val)) = some (.lnCfg n) ∧
      decodeReg (BitVec.ofNat 8 (0x81 + 0x10 * n.val)) = some (.lnMarks n) ∧
      decodeReg (BitVec.ofNat 8 (0x82 + 0x10 * n.val)) = some (.lnFillLen n) ∧
      decodeReg (BitVec.ofNat 8 (0x83 + 0x10 * n.val)) = some (.lnFillWord n) := by
  revert n; decide

/-! ## The checks -/

/-- Checks 4 to 8 of a write, once the register is known. -/
def writeCheck (s : State) (reg : Reg) (data : Word) : Option Reason :=
  if reg.readOnly then some .readOnly
  else if reg.lockProtected = true ∧ s.port.lock = true then some .locked
  else if s.stateRefuses reg data then some .state
  else if s.placeRefused reg data then some .badAddress
  else if reg = .cmdIssue ∧ s.issueRefused = true then some .refused
  else none

/-- An access that passes checks 1 to 3. -/
theorem accessFails_admitted {s : State} {addr : BitVec 8} {write : Bool} {data : Word} {reg : Reg}
    (hd : decodeReg addr = some reg) (hpower : s.power = .retain → reg.inRetain = true)
    (hinit : s.sweep.running = true → reg.initRefused write = false) :
    s.accessFails ⟨addr, write, data⟩ = if write = false then none else writeCheck s reg data := by
  have hp : ¬ (s.power = .retain ∧ reg.inRetain = false) := fun ⟨h1, h2⟩ => by simp [hpower h1] at h2
  have hi : ¬ (s.sweep.running = true ∧ reg.initRefused write = true) := fun ⟨h1, h2⟩ => by simp [hinit h1] at h2
  simp only [State.accessFails, hd, if_neg hp, if_neg hi, writeCheck]

/-- A write that passes checks 1 to 5 to a register that is not CMD_ISSUE. -/
theorem writeCheck_open {s : State} {reg : Reg} {data : Word} (hro : reg.readOnly = false)
    (hlock : reg.lockProtected = true → s.port.lock = false) (hissue : reg ≠ .cmdIssue) :
    writeCheck s reg data =
      if s.stateRefuses reg data then some .state else if s.placeRefused reg data then some .badAddress else none := by
  have hl : ¬ (reg.lockProtected = true ∧ s.port.lock = true) := fun ⟨h1, h2⟩ => by simp [hlock h1] at h2
  simp only [writeCheck, hro, if_neg hl, hissue, false_and, if_false, Bool.false_eq_true]

theorem issueRefused_iff (s : State) : s.issueRefused = true ↔
    4 ≤ s.cmd.queue.length ∨ 32 ≤ s.log.records.length + s.reserved + closingRecord s := by
  have hclosing : s.closingEntries = closingRecord s := by
    have hcount : Config.windowSize ≤ s.sup.windowCount + 1 ↔ 15 ≤ s.sup.windowCount := by
      show 16 ≤ _ ↔ _; omega
    simp only [State.closingEntries, closingRecord, hcount]; rfl
  simp only [State.issueRefused, Bool.or_eq_true, decide_eq_true_eq, hclosing]; rfl

theorem stateRefuses_lnCfg (s : State) (n : LaneId) (data : Word) : s.stateRefuses (.lnCfg n) data = true ↔
    (s.lane n).moving = true ∨ Dir.ofCode (data.toNat % 4) ≠ (s.lane n).cfg.dir ∧ s.givesUpNothing n = false := by
  simp only [State.stateRefuses, Bool.or_eq_true, Bool.and_eq_true, bne_iff_ne, Bool.not_eq_true']; rfl

theorem locked_not_readOnly : ∀ a ∈ lockedAddrs, a ∉ readOnlyAddrs := by decide

/-- What an address is told apart by: its register, as the three lists of addresses describe it. -/
theorem mapped_reg {addr : BitVec 8} (h : addr.toNat ∈ mappedAddrs) :
    ∃ reg, decodeReg addr = some reg ∧ (reg.readOnly = true ↔ addr.toNat ∈ readOnlyAddrs) ∧
      (reg.lockProtected = true ↔ addr.toNat ∈ lockedAddrs) ∧
      (reg.inRetain = true ↔ addr.toNat ∈ [0x00, 0x01, 0x02, 0x04, 0x47, 0x48]) ∧
      (reg.initRefused true = true ↔ addr.toNat ∈ [0x12, 0x15, 0x24]) ∧
      (reg.initRefused false = true ↔ addr.toNat ∈ [0x12, 0x15]) ∧ (reg = .cmdIssue ↔ addr.toNat = 0x24) := by
  obtain ⟨reg, hd⟩ := Option.isSome_iff_exists.mp ((decodeReg_isSome_iff addr).mpr h)
  have hmap := mapAgrees_of_decode hd
  simp only [mapAgrees, Bool.and_eq_true, beq_iff_eq] at hmap
  obtain ⟨⟨⟨⟨⟨⟨_, hro⟩, hlock⟩, hretain⟩, hwrite⟩, hread⟩, hissue⟩ := hmap
  refine ⟨reg, hd, ?_, ?_, ?_, ?_, ?_, ?_⟩
  · rw [hro, List.contains_iff_mem]
  · rw [hlock, List.contains_iff_mem]
  · rw [hretain, List.contains_iff_mem]
  · rw [hwrite, List.contains_iff_mem]
  · rw [hread, List.contains_iff_mem]
  · rw [← decide_eq_true_eq (p := reg = .cmdIssue), hissue, beq_iff_eq]

/-- Checks 6 to 8 by the address, for a write that passes the first five. -/
theorem writeCheck_spec {s : State} {addr : BitVec 8} {data : Word} {reg : Reg} (hd : decodeReg addr = some reg)
    (hro : reg.readOnly = false) (hlock : reg.lockProtected = true → s.port.lock = false)
    (hissue : reg = .cmdIssue ↔ addr.toNat = 0x24) :
    let a := addr.toNat
    let fails := writeCheck s reg data
    (a = 0x38 → fails = if s.irq.stack = [] then some .state else none) ∧
      (a = 0x06 → fails = if s.port.resetArm then none else some .state) ∧
      (a = 0x47 → fails = if s.powerAllowed (Power.ofCode (data.toNat % 4)) then none else some .state) ∧
      (∀ n : LaneId,
        (a = 0x80 + 0x10 * n.val →
          fails =
            if (s.lane n).moving = true ∨
                Dir.ofCode (data.toNat % 4) ≠ (s.lane n).cfg.dir ∧ s.givesUpNothing n = false then some .state
            else none) ∧
          (a = 0x81 + 0x10 * n.val ∨ a = 0x82 + 0x10 * n.val ∨ a = 0x83 + 0x10 * n.val →
            fails = if (s.lane n).moving then some .state else none)) ∧
      ((a = 0x10 ∨ a = 0x13) → fails = if s.memWords ≤ data.toNat then some .badAddress else none) ∧
      (a = 0x60 → fails = if 63 < data.toNat then some .badAddress else none) ∧
      (a ∉ [0x06, 0x10, 0x13, 0x24, 0x38, 0x47, 0x60] → (a < 0x80 ∨ 3 < a % 16) → fails = none) ∧
      (a = 0x24 →
        fails = if 4 ≤ s.cmd.queue.length ∨ 32 ≤ s.log.records.length + s.reserved + closingRecord s then some .refused
          else none) := by
  intro a fails
  have hreg {k : Nat} {r : Reg} (ha : a = k) (hk : decodeReg (BitVec.ofNat 8 k) = some r) : reg = r := by
    rw [← addr_eq ha, hd] at hk
    exact Option.some.inj hk
  have hopen (ha : a ≠ 0x24) : fails =
      if s.stateRefuses reg data then some .state else if s.placeRefused reg data then some .badAddress else none :=
    writeCheck_open hro hlock fun hx => ha (hissue.mp hx)
  refine ⟨fun ha => ?_, fun ha => ?_, fun ha => ?_, fun n => have ⟨hcfg, hmarks, hlen, hword⟩ := decodeReg_lane n; ⟨fun ha => ?_, fun ha => ?_⟩, fun ha => ?_, fun ha => ?_,
    fun ha hlane => ?_, fun ha => ?_⟩
  · rw [hopen (by omega), hreg ha rfl]
    simp [State.stateRefuses, State.placeRefused]
  · rw [hopen (by omega), hreg ha rfl]
    cases harm : s.port.resetArm <;> simp [State.stateRefuses, State.placeRefused, harm]
  · rw [hopen (by omega), hreg ha rfl]
    have hfield : field data 0 2 = data.toNat % 4 := rfl
    cases hallowed : s.powerAllowed (Power.ofCode (data.toNat % 4)) <;>
      simp [State.stateRefuses, State.placeRefused, hfield, hallowed]
  · rw [hopen (by omega), hreg ha hcfg]
    simp only [stateRefuses_lnCfg]
    rfl
  · rw [hopen (by omega)]
    rcases ha with ha | ha | ha
    · rw [hreg ha hmarks]; rfl
    · rw [hreg ha hlen]; rfl
    · rw [hreg ha hword]; rfl
  · rw [hopen (by omega)]
    rcases ha with ha | ha <;> rw [hreg ha rfl] <;> simp [State.stateRefuses, State.placeRefused]
  · rw [hopen (by omega), hreg ha rfl]
    simp [State.stateRefuses, State.placeRefused]
  · have hnone : blockCheck reg = false := by
      rw [← Bool.not_eq_true]
      intro hcheck
      rcases blockCheck_regAddr reg hcheck with hx | hx <;> rw [decodeReg_addr hd] at hx
      · exact ha hx
      · omega
    rw [hopen (by intro hx; simp [hx] at ha)]
    have hstate : s.stateRefuses reg data = false := by cases reg <;> first | rfl | cases hnone
    have hplace : s.placeRefused reg data = false := by cases reg <;> first | rfl | cases hnone
    rw [hstate, hplace]; rfl
  · have hcmd := hissue.mpr ha
    show writeCheck s reg data = _
    subst hcmd
    simp only [writeCheck, hro, ← issueRefused_iff]
    simp [Reg.lockProtected, State.stateRefuses, State.placeRefused]

/-- Settles O11: the register map gives the first five checks, and each register with a check of its own is one address. -/
theorem checksDecideInOrder : Obligations.ChecksDecideInOrder := by
  unfold Obligations.ChecksDecideInOrder
  intro s addr write data
  show (addr.toNat ∉ mappedAddrs → _) ∧ (addr.toNat ∈ mappedAddrs → _) ∧ _ ∧ (addr.toNat ∈ mappedAddrs → _)
  refine ⟨fun h => ?_, fun h hp hr => ?_, fun hp hs ha => ?_, fun h hp hs => ?_⟩
  · have hnone : decodeReg addr = none := by
      rw [← Option.not_isSome_iff_eq_none, decodeReg_isSome_iff]; exact h
    show s.accessFails ⟨addr, write, data⟩ = _
    simp only [State.accessFails, hnone]
  · obtain ⟨reg, hd, _, _, hretain, _⟩ := mapped_reg h
    exact accessFails_retain hd (by rw [← Bool.not_eq_true, hretain]; exact hr) hp
  · have hrefused : ∃ reg, decodeReg addr = some reg ∧ reg.initRefused write = true := by
      rcases ha with ha | ha | ⟨ha, hw⟩ <;> rw [addr_eq ha]
      · exact ⟨.winData .a, rfl, rfl⟩
      · exact ⟨.winData .b, rfl, rfl⟩
      · exact ⟨.cmdIssue, rfl, hw⟩
    obtain ⟨reg, hd, hi⟩ := hrefused
    show s.accessFails ⟨addr, write, data⟩ = _
    simp [State.accessFails, hd, hp, hs, hi]
  · obtain ⟨reg, hd, hro, hlock, hretain, hwrite, hread, hissue⟩ := mapped_reg h
    have hinit : s.sweep.running = true → reg.initRefused write = false := by
      intro hrun
      obtain ⟨h12, h15, h24⟩ := hs hrun
      cases write
      · rw [← Bool.not_eq_true, hread]; simp [h12, h15]
      · rw [← Bool.not_eq_true, hwrite]; simp [h12, h15]; simpa using h24
    have hfails := accessFails_admitted (write := write) (data := data) hd (fun hx => hretain.mpr (hp hx)) hinit
    refine ⟨fun hw => by rw [hw] at hfails ⊢; exact hfails, fun hw => ?_⟩
    rw [if_neg (by rw [hw]; decide)] at hfails
    show (_ → s.accessFails _ = _) ∧ _
    rw [hfails]
    refine ⟨fun hr => if_pos (hro.mpr hr), fun hl hk => ?_, fun hr hl => ?_⟩
    · have hro' : ¬ reg.readOnly = true := fun hx => locked_not_readOnly _ hl (hro.mp hx)
      rw [writeCheck, if_neg hro', if_pos ⟨hlock.mpr hl, hk⟩]
    · exact writeCheck_spec hd (by rw [← Bool.not_eq_true, hro]; exact hr) (fun hx => hl (hlock.mp hx)) hissue

end Sys2Proof.Proofs
end

section
/-! PROOFS. Ordinary register writes (R11, R180): what each stores, what it reads back as, and what it leaves unchanged. -/

set_option Elab.async false

namespace Sys2Proof.Proofs

open Sys2Proof.Machine Sys2Proof.Safety Sys2Proof.Laws

/-! ## What a store leaves of each group -/

/-- Nothing but configuration fields has been stored. -/
def onlyConfig (s t : State) : Prop :=
  t.port = { s.port with stallLimit := t.port.stallLimit } ∧
    t.sup = { s.sup with
      warn := t.sup.warn, action := t.sup.action, safeFill := t.sup.safeFill, timeout := t.sup.timeout } ∧
    t.arb = { s.arb with escalate := t.arb.escalate, hostFirst := t.arb.hostFirst } ∧
    t.win = { s.win with
      ptrA := t.win.ptrA, ptrB := t.win.ptrB, strideA := t.win.strideA, strideB := t.win.strideB } ∧
    t.cmd = { s.cmd with arg0 := t.cmd.arg0, arg1 := t.cmd.arg1, arg2 := t.cmd.arg2, arg3 := t.cmd.arg3 } ∧
    t.log = { s.log with wordSel := t.log.wordSel, enable := t.log.enable } ∧
    t.irq = { s.irq with enable := t.irq.enable, prio := t.irq.prio } ∧
    t.slotPort = { s.slotPort with wordSel := t.slotPort.wordSel } ∧
    (∀ n, t.lane n = { s.lane n with
      markLo := (t.lane n).markLo, markHi := (t.lane n).markHi, fillLen := (t.lane n).fillLen
      fillWord := (t.lane n).fillWord, cntSel := (t.lane n).cntSel }) ∧
    unchangedBut [.port, .sup, .arb, .win, .cmd, .log, .irq, .slotPort, .lanes] s t

theorem updLane_onlyConfig (s : State) (n : LaneId) (f : Lane → Lane)
    (h : ∀ l, f l = { l with
      markLo := (f l).markLo, markHi := (f l).markHi, fillLen := (f l).fillLen, fillWord := (f l).fillWord
      cntSel := (f l).cntSel }) : onlyConfig s (s.updLane n f) := by
  refine ⟨rfl, rfl, rfl, rfl, rfl, rfl, rfl, rfl, fun m => ?_, frame_mono (updLane_frame s n f) (by decide)⟩
  by_cases hm : m = n
  · subst hm
    rw [lane_updLane_same]
    exact h _
  · rw [lane_updLane_other s n m f hm]

theorem store_onlyConfig {w : Word} {reg : Reg} {v : Nat} (hv : readBack w reg = some v) (s : State) :
    onlyConfig s (s.store reg w) := by
  cases reg with
  | lnMarks n | lnFillLen n | lnFillWord n | lnCntSel n => exact updLane_onlyConfig s n _ fun _ => rfl
  | winPtr p | winStride p =>
    cases p <;> exact ⟨rfl, rfl, rfl, rfl, rfl, rfl, rfl, rfl, fun _ => rfl,
      by intro f hf; cases f <;> first | rfl | exact absurd (by decide) hf⟩
  | cmdArg k =>
    have hset : s.cmd.setArg k w = { s.cmd with
        arg0 := (s.cmd.setArg k w).arg0, arg1 := (s.cmd.setArg k w).arg1, arg2 := (s.cmd.setArg k w).arg2
        arg3 := (s.cmd.setArg k w).arg3 } := by
      match k with
      | 0 | 1 | 2 | 3 => rfl
    exact ⟨rfl, rfl, rfl, rfl, hset, rfl, rfl, rfl, fun _ => rfl,
      by intro f hf; cases f <;> first | rfl | exact absurd (by decide) hf⟩
  | hostStallLimit | arbCfg | evtWordSel | irqEnable | irqPrio | evtLogEnable | supCfg | supTimeout | slotWordSel =>
    exact ⟨rfl, rfl, rfl, rfl, rfl, rfl, rfl, rfl, fun _ => rfl,
      by intro f hf; cases f <;> first | rfl | exact absurd (by decide) hf⟩
  | _ => cases hv

/-! ## What the other registers read as -/

/-- The lane whose register this is, but for LN_CNT_DATA. -/
def laneOf : Reg → Option LaneId
  | .lnCfg n | .lnMarks n | .lnFillLen n | .lnFillWord n | .lnStatus n | .lnQueues n | .lnBind n | .lnCntSel n => some n
  | _ => none

/-- What a lane's register reads as, from the lane and the number of slots it owns. -/
def laneValue (owned : Nat) (l : Lane) : Reg → Word
  | .lnCfg _ => l.cfg.word
  | .lnMarks _ => placed l.markLo 0 ||| placed l.markHi 8
  | .lnFillLen _ => placed l.fillLen.toNat 0
  | .lnFillWord _ => l.fillWord
  | .lnStatus _ => l.statusWord
  | .lnQueues _ => match l.cfg.dir with
    | .none => 0
    | .ingress => placed l.freeList.length 0 ||| placed l.readyQ.length 8 ||| placed owned 24
    | .egress => placed l.submitQ.length 16
  | .lnBind _ => l.bindWord
  | .lnCntSel _ => placed l.cntSel.toNat 0
  | _ => 0

theorem regValue_lane {s : State} {reg : Reg} {n : LaneId} (h : laneOf reg = some n) :
    s.regValue reg = laneValue (s.owned n) (s.lane n) reg := by
  cases reg with
  | lnCfg m | lnMarks m | lnFillLen m | lnFillWord m | lnStatus m | lnQueues m | lnBind m | lnCntSel m =>
    cases h; rfl
  | _ => cases h

/-- An update of lane `n` changes no register but those of lane `n` that show it. -/
theorem updLane_regValue {s : State} {n : LaneId} {f : Lane → Lane} {other : Reg} (hcnt : ∀ m, other ≠ .lnCntData m)
    (h : laneOf other = some n → ∀ k l, laneValue k (f l) other = laneValue k l other) :
    (s.updLane n f).regValue other = s.regValue other := by
  cases hl : laneOf other with
  | none =>
    cases other with
    | lnCntData m => exact absurd rfl (hcnt m)
    | lnCfg | lnMarks | lnFillLen | lnFillWord | lnStatus | lnQueues | lnBind | lnCntSel => cases hl
    | _ => rfl
  | some m =>
    rw [regValue_lane hl, regValue_lane hl]
    by_cases hm : m = n
    · subst hm
      rw [lane_updLane_same]
      exact h hl _ _
    · rw [lane_updLane_other s n m f hm]; rfl

/-- The registers that show another register's content, or count accesses. -/
def showing : List Reg := [.supStatus, .evtStatus, .evtData, .irqVector, .slotData]

theorem setArg_arg_other (c : CommandProc) {k j : Fin 4} (v : Word) (h : j ≠ k) : (c.setArg k v).arg j = c.arg j := by
  fin_cases k <;> fin_cases j <;> first | rfl | exact absurd rfl h

/-! A store changes no other register that is not listed as showing it, group by group. -/

theorem lane_regValue_other {w : Word} {reg other : Reg} {n : LaneId}
    (hreg : reg ∈ [Reg.lnMarks n, .lnFillLen n, .lnFillWord n, .lnCntSel n]) (s : State) (hne : other ≠ reg)
    (hcnt : ∀ n, other ≠ .lnCntData n) : (s.store reg w).regValue other = s.regValue other := by
  simp only [List.mem_cons, List.not_mem_nil, or_false] at hreg
  rcases hreg with rfl | rfl | rfl | rfl <;> refine updLane_regValue hcnt fun hl k l => ?_
  all_goals cases other <;> cases hl <;> first | rfl | exact absurd rfl hne

theorem win_regValue_other {s : State} {q : Window} (hbuffer : q.buffer = s.win.buffer) {other : Reg}
    (hptr : ∀ p, other = .winPtr p → q.ptr p = s.win.ptr p) (hstride : ∀ p, other = .winStride p → q.stride p = s.win.stride p) :
    ({ s with win := q } : State).regValue other = s.regValue other := by
  cases other with
  | winPtr p => exact congrArg (placed · 0) (hptr p rfl)
  | winStride p => exact congrArg (fun v : BitVec 8 => placed v.toNat 0) (hstride p rfl)
  | winStatus => exact congrArg (fun l : List (Nat × Word) => placed l.length 0) hbuffer
  | cmdStatus =>
    have hready : ({ s with win := q } : State).cmdStatus = s.cmdStatus := by
      simp only [State.cmdStatus, State.fenced, hbuffer] <;> rfl
    exact hready
  | _ => rfl

theorem cmd_regValue_other (s : State) (w : Word) (k : Fin 4) {other : Reg} (hne : other ≠ .cmdArg k) :
    (s.store (.cmdArg k) w).regValue other = s.regValue other := by
  cases other with
  | cmdArg j => exact setArg_arg_other _ w fun h => hne (congrArg Reg.cmdArg h)
  | cmdStatus | evtStatus => fin_cases k <;> rfl
  | _ => rfl

theorem irq_regValue_other {reg other : Reg} (hreg : reg = .irqEnable ∨ reg = .irqPrio) (s : State) (w : Word)
    (hne : other ≠ reg) (hvector : other ≠ .irqVector) : (s.store reg w).regValue other = s.regValue other := by
  cases other with
  | irqVector => exact absurd rfl hvector
  | irqEnable | irqPrio => rcases hreg with rfl | rfl <;> first | rfl | exact absurd rfl hne
  | _ => rcases hreg with rfl | rfl <;> rfl

theorem log_regValue_other {reg other : Reg} (hreg : reg = .evtWordSel ∨ reg = .evtLogEnable) (s : State) (w : Word)
    (hne : other ≠ reg) (hstatus : other ≠ .evtStatus) (hdata : other ≠ .evtData) :
    (s.store reg w).regValue other = s.regValue other := by
  cases other with
  | evtStatus => exact absurd rfl hstatus
  | evtData => exact absurd rfl hdata
  | evtWordSel | evtLogEnable => rcases hreg with rfl | rfl <;> first | rfl | exact absurd rfl hne
  | _ => rcases hreg with rfl | rfl <;> rfl

theorem sup_regValue_other {reg other : Reg} (hreg : reg = .supCfg ∨ reg = .supTimeout) (s : State) (w : Word)
    (hne : other ≠ reg) (hstatus : other ≠ .supStatus) : (s.store reg w).regValue other = s.regValue other := by
  cases other with
  | supStatus => exact absurd rfl hstatus
  | supCfg | supTimeout => rcases hreg with rfl | rfl <;> first | rfl | exact absurd rfl hne
  | _ => rcases hreg with rfl | rfl <;> rfl

theorem solo_regValue_other {reg other : Reg} (hreg : reg = .hostStallLimit ∨ reg = .arbCfg ∨ reg = .slotWordSel)
    (s : State) (w : Word) (hne : other ≠ reg) (hdata : other ≠ .slotData) :
    (s.store reg w).regValue other = s.regValue other := by
  cases other with
  | slotData => exact absurd rfl hdata
  | hostStallLimit | arbCfg | slotWordSel => rcases hreg with rfl | rfl | rfl <;> first | rfl | exact absurd rfl hne
  | _ => rcases hreg with rfl | rfl | rfl <;> rfl

theorem store_regValue_other {w : Word} {reg other : Reg} {v : Nat} (hv : readBack w reg = some v) (s : State)
    (hne : other ≠ reg) (hshow : other ∉ showing) (hcnt : ∀ n, other ≠ .lnCntData n) :
    (s.store reg w).regValue other = s.regValue other := by
  simp only [showing, List.mem_cons, List.not_mem_nil, or_false, not_or] at hshow
  obtain ⟨hsup, hevt, hdata, hvector, hslot⟩ := hshow
  cases reg with
  | lnMarks n | lnFillLen n | lnFillWord n | lnCntSel n => exact lane_regValue_other (n := n) (by simp) s hne hcnt
  | winPtr p =>
    refine win_regValue_other (by cases p <;> rfl) (fun q hq => ?_) fun q _ => by cases p <;> cases q <;> rfl
    subst hq
    cases p <;> cases q <;> first | rfl | exact absurd rfl hne
  | winStride p =>
    refine win_regValue_other (by cases p <;> rfl) (fun q _ => by cases p <;> cases q <;> rfl) fun q hq => ?_
    subst hq
    cases p <;> cases q <;> first | rfl | exact absurd rfl hne
  | cmdArg k => exact cmd_regValue_other s w k hne
  | irqEnable | irqPrio => exact irq_regValue_other (by simp) s w hne hvector
  | evtWordSel | evtLogEnable => exact log_regValue_other (by simp) s w hne hevt hdata
  | supCfg | supTimeout => exact sup_regValue_other (by simp) s w hne hsup
  | hostStallLimit | arbCfg | slotWordSel => exact solo_regValue_other (by simp) s w hne hslot
  | _ => cases hv

/-- A response changes no register but SUP_STATUS, whose window count it moves on. -/
theorem respondOk_regValue (s : State) (x : Option Word) {reg : Reg} (h : reg ∉ showing) :
    (s.respondOk x).regValue reg = s.regValue reg := by
  rw [respondOk_eq]
  have hcounted (p : Supervisor) : (counted p).cfgWord = p.cfgWord ∧ (counted p).timeout = p.timeout := by
    unfold counted; split <;> exact ⟨rfl, rfl⟩
  cases reg with
  | supStatus => exact absurd (by decide) h
  | supCfg => exact (hcounted s.sup).1
  | supTimeout => exact congrArg (fun t : BitVec 16 => placed t.toNat 0) (hcounted s.sup).2
  | _ => rfl

/-! ## What the register reads back as -/

theorem bitAt_toNat (w : Word) (i : Nat) : (bitAt w i).toNat = w.toNat / 2 ^ i % 2 := by
  rw [bitAt, ← BitVec.testBit_toNat, Nat.toNat_testBit]

theorem supAction_ofCode (k : Nat) : (SupAction.ofCode k).code = min 2 k := by
  match k with
  | 0 | 1 => rfl
  | k + 2 =>
    show 2 = _
    omega

theorem field_eq (w : Word) (lo width : Nat) : field w lo width = w.toNat / 2 ^ lo % 2 ^ width := by
  rw [field, Nat.shiftRight_eq_div_pow]

theorem arbCfg_value (s : State) : (s.regValue .arbCfg).toNat = packed [(s.arb.escalate.toNat, 0), (s.arb.hostFirst.toNat, 8)] := by
  have hword : s.regValue .arbCfg = fieldsWord [(s.arb.escalate.toNat, 0), (s.arb.hostFirst.toNat, 8)] := by
    simp only [fieldsWord, List.foldl_cons, List.foldl_nil, BitVec.zero_or]; rfl
  have hescalate := s.arb.escalate.isLt
  have hfirst := toNat_lt_two s.arb.hostFirst
  rw [hword, fieldsWord_toNat]
  simp only [fieldsFit]; omega

theorem supCfg_value (s : State) : (s.regValue .supCfg).toNat =
    packed [(s.sup.warn.toNat, 0), (s.sup.action.code, 16), (s.sup.safeFill.toNat, 20)] := by
  have hword : s.regValue .supCfg =
      fieldsWord [(s.sup.warn.toNat, 0), (s.sup.action.code, 16), (s.sup.safeFill.toNat, 20)] := by
    simp only [fieldsWord, List.foldl_cons, List.foldl_nil, BitVec.zero_or]; rfl
  have hwarn := s.sup.warn.isLt
  have haction : s.sup.action.code < 4 := by cases s.sup.action <;> decide
  have hfill := toNat_lt_two s.sup.safeFill
  rw [hword, fieldsWord_toNat]
  simp only [fieldsFit]; omega

theorem lnMarks_value {s : State} {n : LaneId} (hlo : (s.lane n).markLo ≤ 32) (hhi : (s.lane n).markHi ≤ 32) :
    (s.regValue (.lnMarks n)).toNat = packed [((s.lane n).markLo, 0), ((s.lane n).markHi, 8)] := by
  have hword : s.regValue (.lnMarks n) = fieldsWord [((s.lane n).markLo, 0), ((s.lane n).markHi, 8)] := by
    simp only [fieldsWord, List.foldl_cons, List.foldl_nil, BitVec.zero_or]; rfl
  rw [hword, fieldsWord_toNat]
  simp only [fieldsFit]; omega

/-- A register that is one field of at most 32 bits. -/
theorem placed_bitVec_toNat {k : Nat} (v : BitVec k) (h : k ≤ 32) : (placed v.toNat 0).toNat = v.toNat := by
  have hk : 2 ^ k ≤ 2 ^ 32 := Nat.pow_le_pow_right (by decide) h
  have hv := v.isLt
  exact placed_zero_toNat _ (by omega)

theorem store_readsBack {w : Word} {reg : Reg} {v : Nat} (hv : readBack w reg = some v) (s : State) :
    ((s.store reg w).regValue reg).toNat = v := by
  have hw := w.isLt
  cases reg with
  | hostStallLimit | irqEnable | irqPrio | evtLogEnable =>
    cases hv
    exact (placed_bitVec_toNat _ (by decide)).trans (BitVec.toNat_setWidth _ _)
  | winStride p =>
    cases hv
    refine (placed_bitVec_toNat _ (by decide)).trans ?_
    have hstride : (s.win.setStride p (w.setWidth 8)).stride p = w.setWidth 8 := by cases p <;> rfl
    exact (congrArg BitVec.toNat hstride).trans (BitVec.toNat_setWidth _ _)
  | winPtr p =>
    cases hv
    cases p <;> exact placed_zero_toNat _ hw
  | cmdArg k =>
    cases hv
    fin_cases k <;> rfl
  | evtWordSel | slotWordSel =>
    cases hv
    exact placed_zero_toNat _ (by omega)
  | arbCfg =>
    cases hv
    refine (arbCfg_value _).trans ?_
    show packed [((w.setWidth 8).toNat, 0), ((bitAt w 8).toNat, 8)] = _
    rw [bitAt_toNat, BitVec.toNat_setWidth, packed_cons, packed_cons, packed_nil]
    omega
  | supCfg =>
    cases hv
    refine (supCfg_value _).trans ?_
    show packed [((w.setWidth 16).toNat, 0), ((SupAction.ofCode (field w 16 2)).code, 16), ((bitAt w 20).toNat, 20)] = _
    rw [bitAt_toNat, supAction_ofCode, field_eq, BitVec.toNat_setWidth, packed_cons, packed_cons, packed_cons, packed_nil]
    omega
  | supTimeout =>
    cases hv
    refine (placed_bitVec_toNat _ (by decide)).trans ?_
    show (BitVec.ofNat 16 (clamp 1 65535 (field w 0 16))).toNat = _
    rw [BitVec.toNat_ofNat, field_eq, clamp]
    omega
  | lnMarks n =>
    cases hv
    have hlane : (s.store (.lnMarks n) w).lane n =
        { s.lane n with markLo := min 32 (field w 0 6), markHi := min 32 (field w 8 6) } := lane_updLane_same _ _ _
    rw [lnMarks_value (by rw [hlane]; exact Nat.min_le_left ..) (by rw [hlane]; exact Nat.min_le_left ..), hlane]
    simp only [field_eq, packed_cons, packed_nil]
    omega
  | lnFillLen n =>
    cases hv
    refine (placed_bitVec_toNat _ (by decide)).trans ?_
    rw [show (s.store (.lnFillLen n) w).lane n = _ from lane_updLane_same _ _ _]
    exact BitVec.toNat_setWidth _ _
  | lnFillWord n =>
    cases hv
    exact congrArg (fun l : Lane => l.fillWord.toNat) (lane_updLane_same s n _)
  | lnCntSel n =>
    cases hv
    refine (placed_bitVec_toNat _ (by decide)).trans ?_
    rw [show (s.store (.lnCntSel n) w).lane n = _ from lane_updLane_same _ _ _]
    show (BitVec.ofNat 4 (min 15 w.toNat)).toNat = _
    rw [BitVec.toNat_ofNat]
    omega
  | _ => cases hv

/-! ## The row -/

/-- An ordinary register makes no request, and storing it is the whole effect of its write. -/
theorem ordinary_writeReg {w : Word} {reg : Reg} {v : Nat} (hv : readBack w reg = some v) :
    (reg ≠ .cmdIssue ∧ reg ≠ .slotSel ∧ reg ≠ .supKick) ∧ reg ∉ showing ∧
      ∀ t : State, t.writeReg reg w = (t.store reg w).respondOk none := by
  cases reg with
  | hostStallLimit | arbCfg | winPtr | winStride | cmdArg | evtWordSel | irqEnable | irqPrio | evtLogEnable | supCfg
  | supTimeout | slotWordSel | lnMarks | lnFillLen | lnFillWord | lnCntSel =>
    exact ⟨⟨nofun, nofun, nofun⟩, by simp [showing], fun _ => rfl⟩
  | _ => cases hv

theorem answered_config {p q : HostPort} (h : q = { p with stallLimit := q.stallLimit }) :
    { q with waiting := none, stallCount := 0, resp := .ok, rdata := none } =
      { p with waiting := none, stallCount := 0, resp := .ok, rdata := none, stallLimit := q.stallLimit } := by
  rw [h]

/-- Counting a transaction leaves the supervisor's configuration. -/
theorem counted_config {p q : Supervisor} (h : q = { p with
      warn := q.warn, action := q.action, safeFill := q.safeFill, timeout := q.timeout }) :
    counted q = { counted p with
      warn := (counted q).warn, action := (counted q).action, safeFill := (counted q).safeFill
      timeout := (counted q).timeout } := by
  rw [h]
  unfold counted
  split <;> rfl

/-- Settles O15: the write stores and responds; each clause is a lemma about the store. -/
theorem ordinaryWriteReadsBack : Obligations.OrdinaryWriteReadsBack := by
  unfold Obligations.OrdinaryWriteReadsBack
  intro s addr data reg v h hd hv hf
  obtain ⟨⟨h1, h2, h3⟩, hshow, hw⟩ := ordinary_writeReg hv
  have hrow := hostRow_storing h hd hf (requestsAtOnce_plain hd h1 h2 h3) hw
  obtain ⟨hport, hsup, harb, hwin, hcmd, hlog, hirq, hslot, hlanes, hframe⟩ := store_onlyConfig hv (admitted s)
  refine ⟨_, by rw [exec_registerWrite, hrow], ?_, fun other hne hother hcnt => ?_, ?_⟩
  · rw [respondOk_regValue _ _ hshow, store_readsBack hv]
  · rw [respondOk_regValue _ _ hother, store_regValue_other hv _ hne hother hcnt, admitted_regValue]
  · have hsame := respondOk_frame ((admitted s).store reg data) none
    refine ⟨?_, ?_, ?_, ?_, ?_, ?_, ?_, ?_, ?_, ?_, ?_⟩
    · rw [respondOk_eq]; exact answered_config (p := (admitted s).port) hport
    · rw [respondOk_eq]; exact counted_config hsup
    · rw [respondOk_eq]; exact hframe .moment (by decide)
    · rw [respondOk_eq]; exact harb
    · rw [respondOk_eq]; exact hwin
    · rw [respondOk_eq]; exact hcmd
    · rw [respondOk_eq]; exact hlog
    · rw [respondOk_eq]; exact hirq
    · rw [respondOk_eq]; exact hslot
    · intro n; rw [lane_respondOk]; exact hlanes n
    · exact frame_comp (fs := [.port, .sup, .arb, .win, .cmd, .log, .irq, .slotPort, .lanes, .moment])
        (frame_comp (admitted_frame s) hframe) hsame

end Sys2Proof.Proofs
end

section
/-! PROOFS. The timebase, the supervisor, configuration writes, power requests and the issue of commands (chapter 10, R134). -/

set_option Elab.async false

namespace Sys2Proof.Proofs

open Sys2Proof.Machine Sys2Proof.Safety Sys2Proof.Laws

/-! ## Ticks (R28, R165, R168) -/

/-- No grant of the Scrubber's is in progress. -/
theorem noScrubGrant_iff (s : State) : (match s.arb.grant with
      | some g => g.who != .scrub
      | none => true) = true ↔ ∀ g, s.arb.grant = some g → g.who ≠ .scrub := by
  cases s.arb.grant <;> simp

theorem scrubCounting_iff (s : State) : s.scrubCounting = true ↔
    s.scrub.enabled = true ∧ s.scrub.request = false ∧ (∀ g, s.arb.grant = some g → g.who ≠ .scrub) ∧
      s.sweep.running = false ∧ s.power ≠ .retain := by
  rw [← noScrubGrant_iff]
  simp only [State.scrubCounting, Bool.and_eq_true, Bool.not_eq_true', bne_iff_ne]
  tauto

/-- What falls due at a tick, in its order, where nothing was due before it. -/
theorem causeOfTick_eq {u : State} (h : u.moment = ⟨[], [], [], false⟩) :
    u.causeOfTick = { u with moment :=
      ⟨[],
        (if u.supCounting && u.sup.warns then [.supWarning] else []) ++
          (if u.supCounting && u.sup.expires then [.supExpired] else []) ++
          (if u.scrubCounting && decide (u.scrub.n ≤ u.scrub.interval) then [.scrubRequest] else []),
        [], false⟩ } := by
  have hout (rs : List Req) (r : Req) (hr : r ∉ rs) : (withCaused u rs).outstanding r = false := by
    simpa [State.outstanding, withCaused, h] using hr
  have hmore (rs qs : List Req) : withCaused (withCaused u rs) qs = withCaused u (rs ++ qs) := by
    simp [withCaused]
  simp only [State.causeOfTick]
  rw [causeIf_eq (s := u) (r := .supWarning) _ (by simp [State.outstanding, h])]
  rw [causeIf_eq (s := withCaused u _) (r := .supExpired) _ (hout _ _ (by split <;> simp)), hmore]
  rw [causeIf_eq (s := withCaused u _) (r := .scrubRequest) _ (hout _ _ (by
    rw [List.mem_append]; split <;> split <;> simp)), hmore]
  simp only [withCaused, h, List.nil_append]
  rfl

theorem tick_eq {s : State} (h : s.timeRuns = true) : s.tick =
    (State.tickSupervisor (State.tickScrubber
      { s with tb := { s.tb with count := s.tb.count + 1, prescaleCount := 0 } })).causeOfTick := if_pos h

theorem tickScrubber_eq (s : State) : s.tickScrubber = { s with scrub := { s.scrub with
    interval := if s.scrubCounting then plus s.scrub.interval 1 else s.scrub.interval } } := by
  unfold State.tickScrubber
  split <;> rfl

theorem tickSupervisor_eq (s : State) : s.tickSupervisor = { s with sup := { s.sup with
    counter := if s.supCounting then plus s.sup.counter 1 else s.sup.counter } } := by
  unfold State.tickSupervisor
  split <;> rfl

theorem warns_iff (p : Supervisor) : p.warns = true ↔ p.warn ≠ 0 ∧ p.warn < p.timeout ∧ p.counter = p.warn := by
  simp [Supervisor.warns, and_assoc]

theorem expires_iff (p : Supervisor) : p.expires = true ↔ p.timeout ≤ p.counter := by
  simp [Supervisor.expires]

/-- A row of time finds the moment of a calm state served, and opens a new one. -/
theorem settle_openMoment {s : State} (h : calm s) : s.settle.openMoment [] = { s with moment := Moment.empty } := by
  rw [settle_none h.1, calm_openMoment h]

/-- Settles O26: the counting, and what then falls due. -/
theorem tickCountsAndCauses : Obligations.TickCountsAndCauses := by
  unfold Obligations.TickCountsAndCauses
  refine ⟨scrubCounting_iff, fun s h hp => ?_⟩
  have hruns : State.timeRuns { s with moment := Moment.empty } = true := by
    simp [State.timeRuns, hp, h.2]
  refine ⟨_, congrArg (fun t : State => Host.Outcome.next t.tick) (settle_openMoment h), ?_⟩
  rw [tick_eq hruns, tickScrubber_eq, tickSupervisor_eq, causeOfTick_eq rfl]
  refine ⟨rfl, rfl, rfl, ?_, by intro f hf; cases f <;> first | rfl | exact absurd (by decide) hf⟩
  refine congrArg (fun l => (⟨[], l, [], false⟩ : Moment)) (congrArg₂ (· ++ ·)
    (congrArg₂ (· ++ ·) (if_congr ?_ rfl rfl) (if_congr ?_ rfl rfl)) (if_congr ?_ rfl rfl))
  · rw [Bool.and_eq_true, warns_iff]; rfl
  · rw [Bool.and_eq_true, expires_iff]; rfl
  · rw [Bool.and_eq_true, decide_eq_true_eq]; rfl

/-! ## The supervisor's occurrences (R168 to R170) -/

/-- An event of the supervisor, with the stamp of the present. -/
def supEvent (s : State) (kind : Kind) (detail : Word) : Event := ⟨kind, some 7, 10, none, s.tb.count, detail⟩

theorem raiseSup_eq {s t : State} (h : t.tb = s.tb) (kind : Kind) (detail : Word) :
    t.raiseSup kind detail = t.raise (supEvent s kind detail) := by
  rw [State.raiseSup, State.event, h]; rfl

theorem serveSupWarning_spec {s : State} (h : s.nextDue = some (.req .supWarning)) :
    ∃ r, exec .supWarning s = .next r.arbitrate ∧
      raises [⟨.supWarning, some 7, 10, none, s.tb.count, s.sup.warn.setWidth 32⟩] s r ∧
      unchangedBut [.log, .irq, .moment] s r :=
  ⟨_, congrArg Host.Outcome.next (serviceRow_req h), raises_first (begun_frame s) _,
    frame_comp (begun_frame s) (raise_frame _ _)⟩

/-- The state after SUP_EXPIRED is raised, before its action. -/
def expiredRaised (s : State) (code : Nat) : State := (begun s).raise (supEvent s .supExpired (BitVec.ofNat 32 code))

theorem expiredRaised_frame (s : State) (code : Nat) : unchangedBut [.moment, .log, .irq] s (expiredRaised s code) :=
  frame_comp (begun_frame s) (raise_frame _ _)

theorem expiredRaised_raises (s : State) (code : Nat) :
    raises [supEvent s .supExpired (BitVec.ofNat 32 code)] s (expiredRaised s code) :=
  raises_first (begun_frame s) _

/-- The expiry: its event with the code of the action, and the action. -/
theorem exec_supExpired {s : State} (h : s.nextDue = some (.req .supExpired)) :
    exec .supExpired s = .next (State.arbitrate (match s.sup.action with
      | .eventOnly => (expiredRaised s 0).restartSup
      | .safeEgress => (expiredRaised s 1).restartSup.beginSafe
      | .resetDevice => { expiredRaised s 2 with rst := { s.rst with supDue := true } })) := by
  refine (congrArg Host.Outcome.next (serviceRow_req h)).trans ?_
  have hraise (code : Nat) (hcode : s.sup.action.code = code) :
      (begun s).raiseSup .supExpired (placed s.sup.action.code 0) = expiredRaised s code := by rw [hcode]; rfl
  have haction (code : Nat) : (expiredRaised s code).sup.action = s.sup.action :=
    congrArg Supervisor.action (expiredRaised_frame s code .sup (by decide))
  have hrst (code : Nat) : (expiredRaised s code).rst = s.rst := expiredRaised_frame s code .rst (by decide)
  simp only [State.perform, State.serveSupExpired, show (begun s).sup = s.sup from rfl]
  cases hact : s.sup.action with
  | eventOnly => rw [hact] at hraise haction; simp only [hraise 0 rfl, haction]
  | safeEgress => rw [hact] at hraise haction; simp only [hraise 1 rfl, haction]
  | resetDevice => rw [hact] at hraise haction; simp only [hraise 2 rfl, haction, hrst]

theorem nudgeAll_sup (s : State) : s.nudgeAll.sup = s.sup := nudgeAll_frame s .sup (by decide)

/-- Free runners take again from a state that differs from `s` neither in its lanes nor in their outstanding takes. -/
theorem freeRunnersTake_of {s t : State} (hl : ∀ n, t.lane n = s.lane n)
    (ho : ∀ n, t.outstanding (.take n) = s.outstanding (.take n)) : freeRunnersTake true s t.nudgeAll := by
  intro n
  obtain ⟨h1, h2⟩ := nudgeAll_takes t n
  rw [hl] at h1 h2
  rw [ho] at h2
  exact ⟨h1, h2⟩

theorem freeRunnersTake_none {s t : State} (hl : ∀ n, t.lane n = s.lane n)
    (ho : ∀ n, t.outstanding (.take n) = s.outstanding (.take n)) : freeRunnersTake false s t :=
  fun n => ⟨hl n, ho n⟩

theorem expiry_eventOnly {s : State} (h : s.nextDue = some (.req .supExpired)) (ha : s.sup.action = .eventOnly) :
    ∃ r, exec .supExpired s = .next r.arbitrate ∧ raises [supEvent s .supExpired (BitVec.ofNat 32 0)] s r ∧
      r.sup = { s.sup with counter := 0 } ∧ unchangedBut [.log, .irq, .moment, .sup] s r := by
  have hrow := exec_supExpired h
  rw [ha] at hrow
  have hsup : (expiredRaised s 0).sup = s.sup := expiredRaised_frame s 0 .sup (by decide)
  refine ⟨_, hrow, raises_withSup (expiredRaised_raises s 0) rfl, by rw [State.restartSup, hsup],
    frame_comp (gs := [.sup]) (expiredRaised_frame s 0) ?_⟩
  intro f hf; cases f <;> first | rfl | exact absurd (by decide) hf

/-- The state after SUP_EXPIRED under SAFE_EGRESS, before the lanes take again. -/
def safeBegun (s : State) : State :=
  { expiredRaised s 1 with sup := { s.sup with counter := 0, safeMode := true } }

theorem safeBegun_frame (s : State) : unchangedBut [.moment, .log, .irq, .sup] s (safeBegun s) :=
  frame_comp (gs := [.sup]) (expiredRaised_frame s 1) (by
    intro f hf; cases f <;> first | rfl | exact absurd (by decide) hf)

theorem safeBegun_raises (s : State) : raises [supEvent s .supExpired (BitVec.ofNat 32 1)] s (safeBegun s) := by
  have hsup : (expiredRaised s 1).sup = s.sup := expiredRaised_frame s 1 .sup (by decide)
  refine raises_withSup (expiredRaised_raises s 1) ?_
  simp only [State.closingDue, hsup]

theorem beginSafe_eq (s : State) : (expiredRaised s 1).restartSup.beginSafe =
    if s.sup.safeMode then safeBegun s else (safeBegun s).nudgeAll := by
  have hsup : (expiredRaised s 1).sup = s.sup := expiredRaised_frame s 1 .sup (by decide)
  rw [State.beginSafe, State.restartSup]
  simp only [hsup]
  cases hsafe : s.sup.safeMode with
  | true =>
    have hsame : ({ s.sup with counter := 0, safeMode := true } : Supervisor) = { s.sup with counter := 0 } := by rw [← hsafe]
    simp only [if_true, safeBegun, hsame]
  | false => rfl

theorem expiry_safeEgress {s : State} (h : s.nextDue = some (.req .supExpired)) (ha : s.sup.action = .safeEgress) :
    ∃ r, exec .supExpired s = .next r.arbitrate ∧ raises [supEvent s .supExpired (BitVec.ofNat 32 1)] s r ∧
      r.sup = { s.sup with counter := 0, safeMode := true } ∧ freeRunnersTake (!s.sup.safeMode) s r ∧
      unchangedBut [.log, .irq, .moment, .sup, .lanes] s r := by
  have hrow := exec_supExpired h
  simp only [ha, beginSafe_eq] at hrow
  have hlane (n : LaneId) : (safeBegun s).lane n = s.lane n := frame_lane (safeBegun_frame s) n
  have hout (n : LaneId) : (safeBegun s).outstanding (.take n) = s.outstanding (.take n) := by
    rw [← begun_outstanding h (r := .take n) nofun]
    exact outstanding_congr (raise_frame (begun s) _ .moment (by decide)) _
  cases hsafe : s.sup.safeMode with
  | true =>
    rw [hsafe, if_pos rfl] at hrow
    exact ⟨_, hrow, safeBegun_raises s, rfl, freeRunnersTake_none hlane hout, frame_mono (safeBegun_frame s) (by decide)⟩
  | false =>
    rw [hsafe, if_neg (by decide)] at hrow
    exact ⟨_, hrow, raises_frame (safeBegun_raises s) (nudgeAll_frame _), by rw [nudgeAll_sup]; rfl,
      freeRunnersTake_of hlane hout, frame_comp (safeBegun_frame s) (nudgeAll_frame _)⟩

theorem expiry_resetDevice {s : State} (h : s.nextDue = some (.req .supExpired)) (ha : s.sup.action = .resetDevice) :
    ∃ r, exec .supExpired s = .next r.arbitrate ∧ raises [supEvent s .supExpired (BitVec.ofNat 32 2)] s r ∧
      r.rst = { s.rst with supDue := true } ∧ unchangedBut [.log, .irq, .moment, .rst] s r := by
  have hrow := exec_supExpired h
  rw [ha] at hrow
  have hset : unchangedBut [.rst] (expiredRaised s 2) { expiredRaised s 2 with rst := { s.rst with supDue := true } } := by
    intro f hf; cases f <;> first | rfl | exact absurd (by decide) hf
  exact ⟨_, hrow, raises_frame (expiredRaised_raises s 2) hset, rfl, frame_comp (expiredRaised_frame s 2) hset⟩

/-- With every log enable on, every event of a group is one that the log may take. -/
theorem filter_logged_all {s : State} {es : List Event} (he : s.log.enable = 0xFF) (hg : ∀ e ∈ es, e.group ≠ none) :
    es.filter (logged s.log.enable) = es := by
  have hbit : ∀ g : Group, (0xFF : BitVec 8).getLsbD g.val = true := by decide
  refine List.filter_eq_self.mpr fun e hmem => ?_
  rw [logged, he]
  cases hgroup : e.group with
  | none => exact absurd hgroup (hg e hmem)
  | some g => simp only [hbit, Bool.or_true]

/-- With room and every log enable on, the events held back follow SUP_SEQUENCE_ERROR in the log (R156). -/
theorem closeWindow_logsAll {s : State} (he : s.log.enable = 0xFF) (hg : ∀ e ∈ s.log.heldBack, e.group ≠ none)
    (hroom : s.logUse + s.log.heldBack.length < 32) :
    s.closeWindow.log.records.map Record.ev = s.log.records.map Record.ev ++ closingEvent s :: s.log.heldBack ∧
      s.closeWindow.log.heldBack = [] := by
  obtain ⟨hheld, _, _, recs, lost, hlog, _, _, _, _, _, _, hall⟩ := closeWindow_spec s
  have hfilter := filter_logged_all (es := closingEvent s :: s.log.heldBack) he (by
    intro e hmem
    rcases List.mem_cons.mp hmem with rfl | hmem
    · exact nofun
    · exact hg e hmem)
  rw [hfilter] at hall
  have hcount : losable (closingEvent s :: s.log.heldBack) ≤ s.log.heldBack.length + 1 := List.countP_le_length
  refine ⟨?_, hheld⟩
  rw [hlog]
  simp only [List.map_append, hall (by omega)]

/-- Settles O27: the warning, the three actions of an expiry, and the closing. -/
theorem supervisorWarnsExpiresAndClosesItsWindow : Obligations.SupervisorWarnsExpiresAndClosesItsWindow := by
  unfold Obligations.SupervisorWarnsExpiresAndClosesItsWindow
  refine ⟨⟨fun s h => serveSupWarning_spec h, fun s h => ⟨expiry_eventOnly h, expiry_safeEgress h, expiry_resetDevice h⟩⟩,
    fun s h => ⟨s.closeWindow, congrArg Host.Outcome.next (serviceRow_due h), (closeWindow_spec s).2.2.1, fun hheld => ?_,
      closeWindow_logsAll, closeWindow_frame s⟩⟩
  have hclose : s.closeWindow = (disarmed s).raise (closingEvent s) := by
    rw [State.closeWindow, hheld]; rfl
  have hframe : unchangedBut [.sup] s (disarmed s) := by
    intro f hf; cases f <;> first | rfl | exact absurd (by decide) hf
  rw [hclose]
  exact raises_first hframe _

/-! ## SUP_ARM and SUP_KICK (R169) -/

theorem counted_running {p : Supervisor} (h : p.st ≠ .armed) : counted p = p := if_neg h

/-- A write of a register that is neither read-only nor protected, nor has a check of its own. -/
theorem accessFails_free {s : State} {addr : BitVec 8} {reg : Reg} (data : Word) (hd : decodeReg addr = some reg)
    (hreg : reg ∈ [.supArm, .supKick, .engineAbort]) (hp : s.power ≠ .retain) : s.accessFails ⟨addr, true, data⟩ = none := by
  simp only [List.mem_cons, List.not_mem_nil, or_false] at hreg
  rcases hreg with rfl | rfl | rfl <;> exact accessFails_write hd (absurd · hp) rfl rfl nofun rfl rfl nofun

theorem write_supArm {s : State} (data : Word) (h : quiet s) (hp : s.power ≠ .retain) :
    ∃ r, exec (.supArm data) s = .next r.arbitrate ∧ r.port = answered s.port .ok none ∧
      r.sup =
        (if s.sup.st = .off then { s.sup with st := .running, counter := 0 }
        else { s.sup with st := .armed, windowCount := 0 }) ∧
      r.moment = Moment.empty ∧ unchangedBut [.port, .sup, .moment] s r := by
  have hrow := hostRow_writing h (r := .supArm) (addr := 0x44) (data := data) rfl
    (accessFails_free data rfl (by decide) hp) (requestsAtOnce_plain (reg := .supArm) rfl nofun nofun nofun)
  refine ⟨(admitted s).armSup, congrArg Host.Outcome.next hrow, ?_⟩
  have hst : (admitted s).sup = s.sup := rfl
  unfold State.armSup
  rw [hst]
  cases s.sup.st with
  | off =>
    simp only [respondOk_eq]
    exact ⟨rfl, rfl, rfl, by intro f hf; cases f <;> first | rfl | exact absurd (by decide) hf⟩
  | running | armed => exact ⟨rfl, rfl, rfl, by intro f hf; cases f <;> first | rfl | exact absurd (by decide) hf⟩

/-- SUP_KICK where it makes no request of its own. -/
theorem exec_supKick {s : State} (data : Word) (h : quiet s) (hp : s.power ≠ .retain)
    (hq : s.sup.st ≠ .armed ∨ s.sup.safeMode = false) :
    exec (.supKick data) s = .next ((admitted s).kickSup.respondOk none).arbitrate := by
  have hreq : s.requestsAtOnce ⟨0x45, true, data⟩ = false := by
    show (s.sup.st == .armed && s.sup.safeMode) = false
    rcases hq with hq | hq <;> simp [hq]
  exact exec_storing h rfl (reg := .supKick) rfl (accessFails_free data rfl (by decide) hp) hreq fun _ => rfl

theorem kick_off {s : State} (data : Word) (h : quiet s) (hp : s.power ≠ .retain) (hst : s.sup.st = .off) :
    ∃ r, exec (.supKick data) s = .next r.arbitrate ∧ answeredOk s r none ∧ unchangedBut [.port, .sup, .moment] s r := by
  have hkick : (admitted s).kickSup = admitted s := by
    rw [State.kickSup, show (admitted s).sup.st = _ from hst]
  refine ⟨_, exec_supKick data h hp (.inl (by rw [hst]; decide)), ?_⟩
  rw [hkick]
  exact ⟨respondOk_answers _ rfl rfl rfl, frame_comp (admitted_frame s) (respondOk_frame _ _)⟩

theorem kick_running {s : State} (data : Word) (h : quiet s) (hp : s.power ≠ .retain) (hst : s.sup.st = .running) :
    ∃ r, exec (.supKick data) s = .next r.arbitrate ∧ answeredOk s r none ∧
      raises [supEvent s .supSequenceError 1] s r ∧ unchangedBut [.port, .sup, .moment, .log, .irq] s r := by
  have hkick : (admitted s).kickSup = (admitted s).raise (supEvent s .supSequenceError 1) := by
    rw [State.kickSup, show (admitted s).sup.st = _ from hst]; rfl
  have hframe := raise_frame (admitted s) (supEvent s .supSequenceError 1)
  refine ⟨_, exec_supKick data h hp (.inl (by rw [hst]; decide)), ?_⟩
  rw [hkick]
  have hsup : ((admitted s).raise (supEvent s .supSequenceError 1)).sup = s.sup := hframe .sup (by decide)
  refine ⟨respondOk_answers _ (hframe .port (by decide)) hsup (hframe .moment (by decide)), ?_,
    frame_comp (frame_comp (hs := [.port, .moment, .log, .irq]) (admitted_frame s) hframe) (respondOk_frame _ _)⟩
  have hraises := raises_first (admitted_frame s) (supEvent s .supSequenceError 1)
  rw [respondOk_eq, hsup, counted_running (by rw [hst]; decide), ← hsup]
  exact raises_frame (fs := [.port]) hraises (by intro f hf; cases f <;> first | rfl | exact absurd (by decide) hf)

/-- A kick in the window: the counter restarts, the window is closed, and safe mode is over. -/
def kicked (s : State) : State :=
  { s with sup := { s.sup with st := .running, counter := 0, windowCount := 0, safeMode := false } }

theorem kicked_frame (s : State) : unchangedBut [.sup] s (kicked s) := by
  intro f hf; cases f <;> first | rfl | exact absurd (by decide) hf

theorem kickSup_armed {s : State} (hst : s.sup.st = .armed) :
    s.kickSup = if s.sup.safeMode then (kicked s).nudgeAll else kicked s := by
  rw [State.kickSup, hst]
  simp only [State.endSafe]
  cases hsafe : s.sup.safeMode with
  | true => rfl
  | false =>
    have hsame : ({ s.sup with st := .running, counter := 0, windowCount := 0, safeMode := false } : Supervisor) =
        { s.sup with st := .running, counter := 0, windowCount := 0 } := by rw [← hsafe]
    simp only [Bool.false_eq_true, if_false, kicked, hsame]

/-- The requests of the takes that the end of safe mode causes, in lane order. -/
def takesOf (s : State) : List Req := (laneList.filter fun n => idleFreeRunner (s.lane n)).map .take

theorem nudgeAll_moment {s : State} (h : ∀ n, idleFreeRunner (s.lane n) = true → s.outstanding (.take n) = false) :
    s.nudgeAll.moment = { s.moment with caused := s.moment.caused ++ takesOf s } :=
  foldl_nudge_caused laneList (by decide) s fun n _ => h n

/-- What the end of safe mode leaves: the response, the supervisor out of its window, and the takes behind every request. -/
theorem kicked_nudged {s t : State} (hframe : unchangedBut [.port, .moment] s t)
    (hport : t.port = s.accepted.port) (hasked : t.moment.asked = s.moment.asked)
    (hcaused : t.moment.caused = s.moment.caused)
    (hnew : ∀ n, idleFreeRunner (s.lane n) = true → s.outstanding (.take n) = false) :
    let r := (kicked t).nudgeAll.respondOk none
    r.port = answered s.port .ok none ∧
      r.sup = { s.sup with st := .running, counter := 0, windowCount := 0, safeMode := false } ∧
      freeRunnersTake true s r ∧ r.moment.asked = s.moment.asked ∧ r.moment.caused = s.moment.caused ++ takesOf s ∧
      unchangedBut [.port, .sup, .moment, .lanes] s r := by
  have hlane (n : LaneId) : (kicked t).lane n = s.lane n := frame_lane (frame_comp (hs := [.port, .moment, .sup]) hframe (kicked_frame t)) n
  have hout (q : Req) : (kicked t).outstanding q = s.outstanding q := by
    show (t.moment.asked.contains q || t.moment.caused.contains q) = _
    rw [hasked, hcaused]; rfl
  have htakes : takesOf (kicked t) = takesOf s := by simp only [takesOf, hlane]
  have hmoment := nudgeAll_moment (s := kicked t) fun n hn => by
    rw [hlane] at hn; rw [hout]; exact hnew n hn
  have hframe' := frame_comp (hs := [.port, .moment, .sup, .lanes])
    (frame_comp (hs := [.port, .moment, .sup]) hframe (kicked_frame t)) (nudgeAll_frame (kicked t))
  have hport' : (kicked t).nudgeAll.port = s.accepted.port := (nudgeAll_frame (kicked t) .port (by decide)).trans hport
  have hsup' : (kicked t).nudgeAll.sup =
      { s.sup with st := .running, counter := 0, windowCount := 0, safeMode := false } := by
    rw [nudgeAll_sup, kicked, show t.sup = s.sup from hframe .sup (by decide)]
  have htake := freeRunnersTake_of hlane fun n => hout (.take n)
  rw [htakes] at hmoment
  generalize (kicked t).nudgeAll = u at *
  intro r
  have hr : r = { u with port := { u.port with waiting := none, stallCount := 0, resp := .ok, rdata := none } } := by
    show u.respondOk none = _
    rw [respondOk_eq, counted_running (by rw [hsup']; exact nofun)]
  rw [hr]
  refine ⟨?_, hsup', htake, ?_, ?_, ?_⟩
  · show HostPort.mk _ _ _ _ _ _ _ _ _ _ = _
    rw [hport']; rfl
  · show u.moment.asked = _
    rw [hmoment]; exact hasked
  · show u.moment.caused = _
    rw [hmoment]
    exact congrArg (· ++ _) hcaused
  · refine frame_comp (gs := [.port]) hframe' ?_
    intro f hf; cases f <;> first | rfl | exact absurd (by decide) hf

theorem kick_closes {s : State} (data : Word) (h : quiet s) (hp : s.power ≠ .retain) (hst : s.sup.st = .armed)
    (hsafe : s.sup.safeMode = false) :
    ∃ r, exec (.supKick data) s = .next r.arbitrate ∧ r.port = answered s.port .ok none ∧
      r.sup = { s.sup with st := .running, counter := 0, windowCount := 0, safeMode := false } ∧
      freeRunnersTake false s r ∧ r.moment.asked = [] ∧ r.moment.caused = [] ∧
      unchangedBut [.port, .sup, .moment, .lanes] s r := by
  have hrow := exec_supKick data h hp (.inr hsafe)
  rw [kickSup_armed (s := admitted s) hst, if_neg (by rw [show (admitted s).sup.safeMode = _ from hsafe]; decide)] at hrow
  refine ⟨_, hrow, ?_⟩
  rw [respondOk_eq]
  refine ⟨rfl, rfl, freeRunnersTake_none (fun _ => rfl) fun n => ?_, rfl, rfl,
    by intro f hf; cases f <;> first | rfl | exact absurd (by decide) hf⟩
  rw [calm_outstanding (calm_of_quiet h)]; rfl

/-- The row of a SUP_KICK in the window under safe mode, from the state that its access is accepted in. -/
theorem transact_kick {t : State} (data : Word) (hp : t.power ≠ .retain) (hst : t.sup.st = .armed)
    (hsafe : t.sup.safeMode = true) : t.transact ⟨0x45, true, data⟩ = (kicked t.accepted).nudgeAll.respondOk none := by
  rw [transact_write (r := .supKick) (accessFails_free data rfl (by decide) hp) rfl rfl]
  show (t.accepted.kickSup).respondOk none = _
  rw [kickSup_armed (s := t.accepted) hst, if_pos (show t.accepted.sup.safeMode = true from hsafe)]

theorem kick_endsSafe {s : State} (data : Word) (h : quiet s) (hp : s.power ≠ .retain) (hst : s.sup.st = .armed)
    (hsafe : s.sup.safeMode = true) :
    ∃ r, exec (.supKick data) s = .next r.arbitrate ∧ r.port = answered s.port .ok none ∧
      r.sup = { s.sup with st := .running, counter := 0, windowCount := 0, safeMode := false } ∧
      freeRunnersTake true s r ∧ r.moment.asked = [] ∧ r.moment.caused = takesOf s ∧
      unchangedBut [.port, .sup, .moment, .lanes] s r := by
  have hc := calm_of_quiet h
  obtain ⟨_, _, hasked, hcaused⟩ := calm_facts hc
  have hreq : s.requestsAtOnce ⟨0x45, true, data⟩ = true := by
    show (s.sup.st == .armed && s.sup.safeMode) = true
    rw [hst, hsafe]; rfl
  have hrow := hostRow_quiet_request h ⟨0x45, true, data⟩ hreq (accessFails_free data rfl (by decide) hp)
  rw [transact_kick (t := { s with moment := ⟨[], [], s.opening .host, false⟩ }) data hp hst hsafe] at hrow
  have hkick := kicked_nudged (s := s) (t := State.accepted { s with moment := ⟨[], [], s.opening .host, false⟩ })
    (by intro f hf; cases f <;> first | rfl | exact absurd (by decide) hf) rfl hasked.symm hcaused.symm
    fun n _ => calm_outstanding hc _
  rw [hasked, hcaused] at hkick
  exact ⟨_, congrArg Host.Outcome.next hrow, hkick⟩

theorem kick_joins {s : State} (data : Word) (hw : s.port.waiting = none) (ha : s.accepting = true)
    (hu : s.urgentDue = false) (hp : s.power ≠ .retain) (hst : s.sup.st = .armed) (hsafe : s.sup.safeMode = true)
    (hdue : s.nextDue ≠ none) (htakes : s.moment.takes .host = true)
    (hnew : ∀ n, idleFreeRunner (s.lane n) = true → s.outstanding (.take n) = false) :
    ∃ r, exec (.supKick data) s = .next r.arbitrate ∧ r.port = answered s.port .ok none ∧
      r.sup = { s.sup with st := .running, counter := 0, windowCount := 0, safeMode := false } ∧
      freeRunnersTake true s r ∧ r.moment.asked = s.moment.asked ∧ r.moment.caused = s.moment.caused ++ takesOf s ∧
      unchangedBut [.port, .sup, .moment, .lanes] s r := by
  have hreq : s.requestsAtOnce ⟨0x45, true, data⟩ = true := by
    show (s.sup.st == .armed && s.sup.safeMode) = true
    rw [hst, hsafe]; rfl
  have hcloses : s.closesAtResponse ⟨0x45, true, data⟩ = false := Bool.and_false _
  have hstop : s.issuesStop ⟨0x45, true, data⟩ = false := rfl
  have hjoins : s.joinsHost ⟨0x45, true, data⟩ = true := by
    rw [State.joinsHost, hreq, htakes, hcloses, hstop, Option.isSome_iff_ne_none.mpr hdue, Bool.and_false]; rfl
  have hbefore := beforeHost_joins hu hjoins (show decodeReg 0x45 ≠ some .cmdIssue from nofun)
    (accessFails_free data rfl (by decide) hp)
  have hrow := hostRow_met hw hbefore hw ha
  rw [transact_kick (t := { s with moment := { s.moment with sources := .host :: s.moment.sources } }) data hp hst hsafe]
    at hrow
  exact ⟨_, congrArg Host.Outcome.next hrow,
    kicked_nudged (s := s) (t := State.accepted { s with moment := { s.moment with sources := .host :: s.moment.sources } })
      (by intro f hf; cases f <;> first | rfl | exact absurd (by decide) hf) rfl rfl rfl hnew⟩

/-- Settles O28: SUP_ARM, and SUP_KICK by the supervisor's state, at a new moment and at one that is open. -/
theorem armAndKickRefreshTheSupervisor : Obligations.ArmAndKickRefreshTheSupervisor := by
  unfold Obligations.ArmAndKickRefreshTheSupervisor
  refine ⟨fun s data h hp => ⟨write_supArm data h hp, kick_off data h hp, kick_running data h hp, fun hst => ?_⟩,
    fun s data hw ha hu hp hst hsafe hdue htakes hnew => kick_joins data hw ha hu hp hst hsafe hdue htakes hnew⟩
  cases hsafe : s.sup.safeMode with
  | false => exact kick_closes data h hp hst hsafe
  | true => exact kick_endsSafe data h hp hst hsafe

end Sys2Proof.Proofs
end

section
/-! PROOFS. Writes of TB_PRESCALE, SCRUB_CFG, LN_CFG and POWER_CTRL, and the issue of a command (R27, R76, R134, R166, R172). -/

set_option Elab.async false

namespace Sys2Proof.Proofs

open Sys2Proof.Machine Sys2Proof.Safety Sys2Proof.Laws

/-! ## TB_PRESCALE and SCRUB_CFG -/

theorem write_tbPrescale {s : State} (data : Word) (h : quiet s) (hp : s.power ≠ .retain) (hl : s.port.lock = false) :
    ∃ r, exec (.tbPrescaleWrite data) s = .next r.arbitrate ∧ answeredOk s r none ∧
      r.tb = { s.tb with prescale := max 1 (min 4096 (data.toNat % 8192)), prescaleCount := 0 } ∧
      unchangedBut [.port, .sup, .moment, .tb] s r := by
  refine ⟨_, exec_storing h rfl (reg := .tbPrescale) rfl
    (accessFails_write rfl (absurd · hp) rfl rfl (fun _ => hl) rfl rfl nofun)
    (requestsAtOnce_plain (reg := .tbPrescale) rfl nofun nofun nofun) fun _ => rfl, ?_⟩
  rw [respondOk_eq]
  exact ⟨⟨rfl, rfl, rfl⟩, rfl, by intro f hf; cases f <;> first | rfl | exact absurd (by decide) hf⟩

/-- The Scrubber's configuration as a write stores it (R27), before its request is looked at. -/
def scrubStored (c : Scrubber) (w : Word) : Scrubber :=
  { c with
    n := w.setWidth 16, passEvent := w.getLsbD 17, enabled := w.getLsbD 16
    interval := if w.getLsbD 16 && !c.enabled then 0 else c.interval
    request := w.getLsbD 16 && c.request }

theorem scrubStored_interval (c : Scrubber) (w : Word) :
    (if w.getLsbD 16 = true ∧ c.enabled = false then 0 else c.interval) = (scrubStored c w).interval := by
  have hstored : (scrubStored c w).interval = if w.getLsbD 16 && !c.enabled then 0 else c.interval := rfl
  simp only [hstored, Bool.and_eq_true, Bool.not_eq_true']

/-- What a raise of the Scrubber's request, where it falls due, changes (R27). -/
theorem scrubRaise_eq (t : State) : t.scrubRaise = { t with
    scrub := { t.scrub with request := t.scrub.request || (t.scrubCounting && decide (t.scrub.n ≤ t.scrub.interval)) } } := by
  unfold State.scrubRaise
  split
  next h => rw [h.1, decide_eq_true h.2, Bool.true_and, Bool.or_true]
  next h =>
    have hno : (t.scrubCounting && decide (t.scrub.n ≤ t.scrub.interval)) = false :=
      Bool.eq_false_iff.mpr fun hc => h (by simpa using hc)
    rw [hno, Bool.or_false]

/-- When a raise of a Scrubber whose configuration is written leaves its request standing. -/
theorem scrubRaise_stored_request {s u : State} {w : Word} (hp : u.power ≠ .retain) (hscrub : u.scrub = scrubStored s.scrub w)
    (hsweep : u.sweep = s.sweep) (hgrant : u.arb.grant = s.arb.grant) :
    u.scrubRaise.scrub.request = true ↔ w.getLsbD 16 = true ∧ (s.scrub.request = true ∨
      (s.sweep.running = false ∧ ∀ g, s.arb.grant = some g → g.who ≠ .scrub) ∧
        w.setWidth 16 ≤ (scrubStored s.scrub w).interval) := by
  have hreq : (scrubStored s.scrub w).request = (w.getLsbD 16 && s.scrub.request) := rfl
  have hon : (scrubStored s.scrub w).enabled = w.getLsbD 16 := rfl
  have hn : (scrubStored s.scrub w).n = w.setWidth 16 := rfl
  rw [scrubRaise_eq, Bool.or_eq_true, Bool.and_eq_true, scrubCounting_iff, hscrub, hsweep, hgrant, decide_eq_true_eq, hreq, hon,
    hn]
  cases w.getLsbD 16 <;> cases s.scrub.request <;> simp [hp]
  tauto

/-- A write of SCRUB_CFG: the fields, and a request that is kept, withdrawn or raised at once. -/
theorem writeScrubCfg_spec (s : State) (w : Word) (hp : s.power ≠ .retain) :
    (s.writeScrubCfg w).scrub = { scrubStored s.scrub w with request := (s.writeScrubCfg w).scrub.request } ∧
      ((s.writeScrubCfg w).scrub.request = true ↔ w.getLsbD 16 = true ∧ (s.scrub.request = true ∨
        (s.sweep.running = false ∧ ∀ g, s.arb.grant = some g → g.who ≠ .scrub) ∧
          w.setWidth 16 ≤ (scrubStored s.scrub w).interval)) ∧
      (s.writeScrubCfg w).arb = { s.arb with
        lossCount := if s.scrub.request = true ∧ w.getLsbD 16 = false then 0 else s.arb.lossCount } ∧
      unchangedBut [.scrub, .arb] s (s.writeScrubCfg w) := by
  have harb : (if s.scrub.request && !w.getLsbD 16 then { s.arb with lossCount := 0 } else s.arb) =
      { s.arb with lossCount := if s.scrub.request = true ∧ w.getLsbD 16 = false then 0 else s.arb.lossCount } := by
    cases s.scrub.request <;> cases w.getLsbD 16 <;> rfl
  have hwrite : s.writeScrubCfg w = State.scrubRaise { s with
      scrub := scrubStored s.scrub w
      arb := { s.arb with
        lossCount := if s.scrub.request = true ∧ w.getLsbD 16 = false then 0 else s.arb.lossCount } } := by
    rw [← harb]; rfl
  refine ⟨?_, ?_, ?_, ?_⟩
  · rw [hwrite, scrubRaise_eq]
  · rw [hwrite]
    exact scrubRaise_stored_request hp rfl rfl rfl
  · rw [hwrite, scrubRaise_eq]
  · rw [hwrite, scrubRaise_eq]
    intro f hf; cases f <;> first | rfl | exact absurd (by decide) hf

theorem exec_scrubCfg {s : State} (data : Word) (h : quiet s) (hp : s.power ≠ .retain) (hl : s.port.lock = false) :
    exec (.scrubCfgWrite data) s = .next (((admitted s).writeScrubCfg data).respondOk none).arbitrate :=
  have hrow : exec (.scrubCfgWrite data) s = .next (s.hostWrite 0x54 data) := rfl
  have hpasses : s.accessFails ⟨0x54, true, data⟩ = none :=
    accessFails_write (reg := .scrubCfg) rfl (absurd · hp) rfl rfl (fun _ => hl) rfl rfl nofun
  have hplain : s.requestsAtOnce ⟨0x54, true, data⟩ = false := requestsAtOnce_plain (reg := .scrubCfg) rfl nofun nofun nofun
  exec_storing h hrow (reg := .scrubCfg) rfl hpasses hplain fun _ => rfl

theorem write_scrubCfg {s : State} (data : Word) (h : quiet s) (hp : s.power ≠ .retain) (hl : s.port.lock = false) :
    let on := data.getLsbD 16
    let interval : BitVec 16 := if on ∧ s.scrub.enabled = false then 0 else s.scrub.interval
    let free := s.sweep.running = false ∧ ∀ g, s.arb.grant = some g → g.who ≠ .scrub
    ∃ r, exec (.scrubCfgWrite data) s = .next r.arbitrate ∧ answeredOk s r none ∧
      r.scrub = { s.scrub with
        n := data.setWidth 16, enabled := on, passEvent := data.getLsbD 17, interval := interval
        request := r.scrub.request } ∧
      (r.scrub.request = true ↔
        on = true ∧ (s.scrub.request = true ∨ free ∧ data.setWidth 16 ≤ interval)) ∧
      r.arb = { s.arb with
        lossCount := if s.scrub.request = true ∧ on = false then 0 else s.arb.lossCount } ∧
      unchangedBut [.port, .sup, .moment, .scrub, .arb] s r := by
  intro on interval free
  have hinterval : interval = (scrubStored s.scrub data).interval := scrubStored_interval _ _
  obtain ⟨hscrub, hrequest, harb, hframe⟩ := writeScrubCfg_spec (admitted s) data hp
  have hexec := exec_scrubCfg data h hp hl
  generalize (admitted s).writeScrubCfg data = u at *
  have hrscrub : (u.respondOk none).scrub = u.scrub := respondOk_frame u none .scrub (by decide)
  have hrarb : (u.respondOk none).arb = u.arb := respondOk_frame u none .arb (by decide)
  refine ⟨_, hexec, respondOk_answers _ (hframe .port (by decide)) (hframe .sup (by decide)) (hframe .moment (by decide)), ?_, ?_,
    ?_, frame_comp (frame_comp (hs := [.port, .moment, .scrub, .arb]) (admitted_frame s) hframe) (respondOk_frame u none)⟩
  · rw [hrscrub, hinterval]; exact hscrub
  · rw [hrscrub, hinterval]; exact hrequest
  · rw [hrarb]; exact harb

/-! ## LN_CFG -/

theorem dir_ofCode {k : Nat} (h : k < 4) : Dir.ofCode k = [Dir.none, .ingress, .egress, .egress].getD k .none := by
  interval_cases k <;> rfl

theorem inPolicy_ofCode {k : Nat} (h : k < 4) :
    IngressPolicy.ofCode k = [IngressPolicy.dropNew, .overwriteOldest, .stall, .stall].getD k .dropNew := by
  interval_cases k <;> rfl

theorem egPolicy_ofCode {k : Nat} (h : k < 4) :
    EgressPolicy.ofCode k = [EgressPolicy.idle, .repeatLast, .emitFill, .emitFill].getD k .idle := by
  interval_cases k <;> rfl

theorem laneCfg_ofWord (w : Word) : LaneCfg.ofWord w =
    ⟨[Dir.none, .ingress, .egress, .egress].getD (w.toNat % 4) .none, w.getLsbD 4,
      [IngressPolicy.dropNew, .overwriteOldest, .stall, .stall].getD (w.toNat / 256 % 4) .dropNew,
      [EgressPolicy.idle, .repeatLast, .emitFill, .emitFill].getD (w.toNat / 4096 % 4) .idle, w.getLsbD 16, w.getLsbD 17,
      w.getLsbD 18, w.getLsbD 19⟩ := by
  rw [← dir_ofCode (by omega), ← inPolicy_ofCode (by omega), ← egPolicy_ofCode (by omega)]
  simp only [LaneCfg.ofWord, field_eq, bitAt]
  simp

theorem exec_lnCfg {s : State} {n : LaneId} {data : Word} (h : quiet s) (hp : s.power ≠ .retain) (hl : s.port.lock = false)
    (hmoves : s.stateRefuses (.lnCfg n) data = false) :
    exec (.lnCfgWrite n data) s =
      .next (((admitted s).updLane n fun l => l.configured (LaneCfg.ofWord data)).respondOk none).arbitrate :=
  have hd := (decodeReg_lane n).1
  have hrow : exec (.lnCfgWrite n data) s = .next (s.hostWrite (BitVec.ofNat 8 (0x80 + 0x10 * n.val)) data) := rfl
  exec_storing h hrow (reg := .lnCfg n) hd (accessFails_write hd (absurd · hp) rfl rfl (fun _ => hl) hmoves rfl nofun)
    (requestsAtOnce_plain hd nofun nofun nofun) fun _ => rfl

/-- A lane after an allowed write of LN_CFG. -/
theorem write_lnCfg {s : State} {n : LaneId} {data : Word} (h : quiet s) (hp : s.power ≠ .retain) (hl : s.port.lock = false)
    (hmoves : s.stateRefuses (.lnCfg n) data = false) :
    ∃ r, exec (.lnCfgWrite n data) s = .next r.arbitrate ∧ answeredOk s r none ∧
      r.lane n = (s.lane n).configured (LaneCfg.ofWord data) ∧ otherLanes n s r ∧
      unchangedBut [.port, .sup, .moment, .lanes] s r := by
  have hupd := updLane_frame (admitted s) n fun l => l.configured (LaneCfg.ofWord data)
  have hresp := respondOk_frame ((admitted s).updLane n fun l => l.configured (LaneCfg.ofWord data)) none
  refine ⟨_, exec_lnCfg h hp hl hmoves, respondOk_answers _ rfl rfl rfl, ?_, fun m hm => ?_,
    frame_comp (frame_comp (hs := [.port, .moment, .lanes]) (admitted_frame s) hupd) hresp⟩
  · rw [frame_lane hresp, lane_updLane_same]; rfl
  · rw [frame_lane hresp, lane_updLane_other _ _ _ _ hm]; rfl

theorem givesUpNothing_iff (s : State) (n : LaneId) : s.givesUpNothing n = true ↔
    ((s.lane n).cfg.dir = .ingress →
      (∀ i, (s.slot i).st ≠ .unassigned → (s.slot i).owner ≠ .lane n) ∧
        ∀ m, (s.lane m).cfg.dir = .egress → (s.lane m).binding ≠ some n) ∧
    ((s.lane n).cfg.dir = .egress →
      (s.lane n).binding = none ∧ (s.lane n).submitQ = [] ∧ (s.lane n).linger = none) := by
  have hbound : s.boundTo n = none ↔ ∀ m, (s.lane m).cfg.dir = .egress → (s.lane m).binding ≠ some n := by
    simp [State.boundTo, List.find?_eq_none, mem_laneList]
  have howned : s.owned n = 0 ↔ ∀ i, (s.slot i).st ≠ .unassigned → (s.slot i).owner ≠ .lane n := by
    simp [State.owned, List.countP_eq_zero, mem_slotList, Slot.assigned]
  cases hdir : (s.lane n).cfg.dir with
  | none => simp [State.givesUpNothing, hdir]
  | ingress => simp [State.givesUpNothing, hdir, ← hbound, ← howned]
  | egress => simp [State.givesUpNothing, hdir, and_assoc]

/-- Settles O29: three plain writes, and the two checks of the lane's block. -/
theorem configurationWrites : Obligations.ConfigurationWrites := by
  unfold Obligations.ConfigurationWrites
  refine ⟨fun s data h hp hl => ⟨write_tbPrescale data h hp hl, write_scrubCfg data h hp hl⟩,
    fun s n data h hp hl hstill => ?_, givesUpNothing_iff, fun s n data h hp hl hrefused => ?_⟩
  · intro dir cfg
    have hcfg : LaneCfg.ofWord data = cfg := laneCfg_ofWord data
    have hcode : Dir.ofCode (data.toNat % 4) = dir := dir_ofCode (by omega)
    have hallowed (hor : dir = (s.lane n).cfg.dir ∨ s.givesUpNothing n = true) : s.stateRefuses (.lnCfg n) data = false := by
      rw [← Bool.not_eq_true, stateRefuses_lnCfg, hstill, hcode]
      rcases hor with hor | hor <;> simp [hor]
    refine ⟨fun hdir => ?_, fun hdir hgives => ?_⟩
    · obtain ⟨r, hexec, hok, hlane, hothers, hframe⟩ := write_lnCfg h hp hl (hallowed (.inl hdir))
      exact ⟨r, hexec, hok, by rw [hlane, hcfg, Lane.configured, if_pos hdir], hothers, hframe⟩
    · obtain ⟨r, hexec, hok, hlane, hothers, hframe⟩ := write_lnCfg h hp hl (hallowed (.inr hgives))
      exact ⟨r, hexec, hok, by rw [hlane, hcfg, Lane.configured, if_neg hdir]; rfl, hothers, hframe⟩
  · rw [← dir_ofCode (by omega)] at hrefused
    have hd := (decodeReg_lane n).1
    have hfails := accessFails_state (data := data) hd (absurd · hp) rfl rfl (fun _ => hl) ((stateRefuses_lnCfg s n data).mpr hrefused)
    obtain ⟨r, hrow, hr⟩ := hostRow_refused h hfails
    exact ⟨r, congrArg Host.Outcome.next hrow, hr⟩

/-! ## POWER_CTRL (R172, R173) -/

theorem lanesStill_iff (s : State) : s.lanesStill = true ↔ ∀ n, (s.lane n).moving = false := by
  simp [State.lanesStill, mem_laneList]

theorem scrubbing_iff (s : State) : s.scrubbing = true ↔ ∃ g, s.arb.grant = some g ∧ g.who = .scrub := by
  unfold State.scrubbing
  cases s.arb.grant <;> simp

/-- The row of an allowed write of POWER_CTRL. -/
theorem powerRow_allowed {s : State} {data : Word} (h : quiet s) (hallowed : s.powerAllowed (Power.ofCode (data.toNat % 4)) = true) :
    s.hostWrite 0x47 data = ((admitted s).requestPower (Power.ofCode (data.toNat % 4))).arbitrate :=
  have hstate : s.stateRefuses .powerCtrl data = false := congrArg Bool.not hallowed
  have hpasses : s.accessFails ⟨0x47, true, data⟩ = none :=
    accessFails_write (reg := .powerCtrl) rfl (fun _ => rfl) rfl rfl nofun hstate rfl nofun
  hostRow_writing h (r := .powerCtrl) rfl hpasses (requestsAtOnce_plain (reg := .powerCtrl) rfl nofun nofun nofun)

/-- The row of a write of POWER_CTRL that is not allowed. -/
theorem powerRow_refused {s : State} {data : Word} (h : quiet s) (hrefused : s.powerAllowed (Power.ofCode (data.toNat % 4)) = false) :
    ∃ r, s.hostWrite 0x47 data = r.arbitrate ∧ refusedWith s r .state ⟨0x47, true, data⟩ ∧
      unchangedBut [.port, .sup, .log, .irq, .moment] s r :=
  have hstate : s.stateRefuses .powerCtrl data = true := congrArg Bool.not hrefused
  hostRow_refused h (accessFails_state (reg := .powerCtrl) rfl (fun _ => rfl) rfl rfl nofun hstate)

theorem power_ofCode_retain {k : Nat} (h : 2 ≤ k) : Power.ofCode k = .retain := by
  match k, h with
  | k + 2, _ => rfl

theorem powerAllowed_run (s : State) : s.powerAllowed .run = true := by
  cases hp : s.power <;> simp [State.powerAllowed, hp]

theorem powerAllowed_doze (s : State) :
    s.powerAllowed .doze = true ↔ s.power = .doze ∨ s.power = .run ∧ ∀ n, (s.lane n).moving = false := by
  rw [← lanesStill_iff]
  cases hp : s.power <;> simp [State.powerAllowed, hp]

theorem powerAllowed_retain {s : State} (hp : s.power ≠ .retain) :
    s.powerAllowed .retain = true ↔ (∀ n, (s.lane n).moving = false) ∧ s.cmd.queue = [] ∧ s.win.buffer = [] ∧
      s.sweep.running = false := by
  rw [← lanesStill_iff]
  cases hpower : s.power with
  | retain => exact absurd hpower hp
  | run | doze => simp [State.powerAllowed, hpower, and_assoc]

theorem counted_unarmed {p : Supervisor} (h : p.st ≠ .armed) : counted p = p := if_neg h

/-- The supervisor after an open window has been closed silently. -/
theorem counted_disarmed (p : Supervisor) :
    counted (if p.st = .armed then { p with st := .running, windowCount := 0 } else p) =
      if p.st = .armed then { p with st := .running, windowCount := 0 } else p := by
  refine counted_unarmed ?_
  split
  · exact nofun
  · assumption

/-- The supervisor on leaving RETAIN. -/
theorem leaveRetain_sup (p : Supervisor) : (if p.st = .off then p else { p with counter := 0 }) =
    if p.st ≠ .off then { p with counter := 0 } else p := by
  rw [ite_not]

theorem requestPower_run (s : State) :
    let r := (admitted s).requestPower .run
    r.port = answered s.port .ok none ∧ r.power = .run ∧
      r.sup = counted (if s.power = .retain ∧ s.sup.st ≠ .off then { s.sup with counter := 0 } else s.sup) ∧
      r.moment = Moment.empty ∧ unchangedBut [.port, .sup, .moment, .power] s r := by
  intro r
  have hr : r = (if s.power = .retain then (admitted s).leaveRetain else { admitted s with power := .run }).respondOk none := rfl
  rw [hr, respondOk_eq]
  by_cases hp : s.power = .retain
  · rw [if_pos hp]
    refine ⟨rfl, rfl, ?_, rfl, by intro f hf; cases f <;> first | rfl | exact absurd (by decide) hf⟩
    simp only [hp, true_and, ← leaveRetain_sup]
    rfl
  · rw [if_neg hp]
    refine ⟨rfl, rfl, ?_, rfl, by intro f hf; cases f <;> first | rfl | exact absurd (by decide) hf⟩
    rw [if_neg fun hc => hp hc.1]
    rfl

theorem requestPower_retain {s : State} (hp : s.power ≠ .retain) (hfree : s.scrubbing = false) :
    let r := (admitted s).requestPower .retain
    r.port = answered s.port .ok none ∧ r.power = .retain ∧
      r.sup = (if s.sup.st = .armed then { s.sup with st := .running, windowCount := 0 } else s.sup) ∧
      r.moment = Moment.empty ∧ unchangedBut [.port, .sup, .moment, .power] s r := by
  intro r
  have hr : r = (admitted s).enterRetain.respondOk none := by
    show (if s.power = .retain then _ else if s.scrubbing = true then _ else _) = _
    rw [if_neg hp, hfree]; rfl
  rw [hr, respondOk_eq]
  exact ⟨rfl, rfl, counted_disarmed s.sup, rfl, by intro f hf; cases f <;> first | rfl | exact absurd (by decide) hf⟩

/-- Settles O30: the row of an allowed request by its target, and that of a request that is not allowed. -/
theorem powerRequests : Obligations.PowerRequests := by
  unfold Obligations.PowerRequests
  intro s data h
  have hwrite {i : Instr} {t : State} (hi : exec i s = .next (s.hostWrite 0x47 data)) (ht : s.hostWrite 0x47 data = t) :
      exec i s = .next t := hi.trans (congrArg Host.Outcome.next ht)
  refine ⟨fun hd => ?_, fun hd hor => ?_, fun hd hp hstill hqueue hbuffer hsweep => ?_, fun hd hp => ?_, fun hd hor => ?_,
    fun hd hp hor => ?_⟩
  · have hrow := powerRow_allowed (data := data) h (by rw [hd]; exact powerAllowed_run s)
    rw [hd] at hrow
    exact ⟨_, hwrite rfl hrow, requestPower_run s⟩
  · have hrow := powerRow_allowed (data := data) h (by rw [hd]; exact (powerAllowed_doze s).mpr hor)
    have hdoze : (admitted s).requestPower .doze = State.respondOk { admitted s with power := .doze } none := rfl
    rw [hd, show Power.ofCode 1 = .doze from rfl, hdoze] at hrow
    refine ⟨_, hwrite rfl hrow, ?_⟩
    rw [respondOk_eq]
    exact ⟨⟨rfl, rfl, rfl⟩, rfl, by intro f hf; cases f <;> first | rfl | exact absurd (by decide) hf⟩
  · have hcode := power_ofCode_retain hd
    have hrow := powerRow_allowed (data := data) h
      (by rw [hcode]; exact (powerAllowed_retain hp).mpr ⟨hstill, hqueue, hbuffer, hsweep⟩)
    rw [hcode] at hrow
    refine ⟨fun hno => ⟨_, hwrite rfl hrow, requestPower_retain hp ?_⟩, fun hscrub => ?_⟩
    · rw [← Bool.not_eq_true, scrubbing_iff]
      exact fun ⟨g, hg, hwho⟩ => hno g hg hwho
    · have hwait : (admitted s).requestPower .retain = (admitted s).startWait .retain := by
        show (if s.power = .retain then _ else if s.scrubbing = true then _ else _) = _
        rw [if_neg hp, if_pos ((scrubbing_iff s).mpr hscrub)]
      rw [hwait] at hrow
      exact ⟨_, hwrite rfl hrow, rfl, rfl, by intro f hf; cases f <;> first | rfl | exact absurd (by decide) hf⟩
  · have hcode := power_ofCode_retain hd
    have hrow := powerRow_allowed (data := data) h (by rw [hcode]; simp [State.powerAllowed, hp])
    have hsame : (admitted s).requestPower .retain = (admitted s).respondOk none := if_pos hp
    rw [hcode, hsame] at hrow
    refine ⟨_, hwrite rfl hrow, ?_⟩
    rw [respondOk_eq]
    exact ⟨⟨rfl, rfl, rfl⟩, by intro f hf; cases f <;> first | rfl | exact absurd (by decide) hf⟩
  · have hrefused : s.powerAllowed (Power.ofCode (data.toNat % 4)) = false := by
      rw [hd, ← Bool.not_eq_true]
      refine (powerAllowed_doze s).not.mpr fun hallowed => ?_
      rcases hor with hp | ⟨hp, n, hn⟩
      · simp [hp] at hallowed
      · simp [hp] at hallowed
        simp [hallowed n] at hn
    obtain ⟨r, hrow, hr⟩ := powerRow_refused h hrefused
    exact ⟨r, hwrite rfl hrow, hr⟩
  · have hrefused : s.powerAllowed (Power.ofCode (data.toNat % 4)) = false := by
      rw [power_ofCode_retain hd, ← Bool.not_eq_true, powerAllowed_retain hp]
      rintro ⟨hstill, hqueue, hbuffer, hsweep⟩
      rcases hor with ⟨n, hn⟩ | hq | hb | hs
      · simp [hstill n] at hn
      · exact hq hqueue
      · exact hb hbuffer
      · simp [hsweep] at hs
    obtain ⟨r, hrow, hr⟩ := powerRow_refused h hrefused
    exact ⟨r, hwrite rfl hrow, hr⟩

/-! ## CMD_ISSUE (R133 to R136) -/

theorem dispatchable_iff (s : State) : s.dispatchable = true ↔ s.cmd.queue ≠ [] ∧ s.eng.cmd = none ∧
    s.cmd.haltDeferred = false ∧ s.win.buffer = [] ∧ s.power ≠ .retain := by
  simp [State.dispatchable, and_assoc]

/-- The dispatch that a command makes due as it enters the queue of a moment with nothing else to do. -/
theorem askDispatch_entered {t : State} (hq : t.cmd.queue ≠ []) (hp : t.power ≠ .retain) {x : List Source} {b : Bool}
    (hm : t.moment = ⟨[], [], x, b⟩) :
    t.askDispatch = { t with moment :=
      ⟨if t.eng.cmd = none ∧ t.cmd.haltDeferred = false ∧ t.win.buffer = [] then [.command] else [], [], x, b⟩ } := by
  have hnew : t.outstanding .command = false := by simp [State.outstanding, hm]
  simp only [State.askDispatch, dispatchable_iff, hq, hp, ne_eq, not_false_iff, true_and, and_true, ask_new hnew, hm]
  split
  · rfl
  · rw [← hm]

/-- CMD_ISSUE accepted at a moment of its own, open to a grant's end, with its entry in the queue. -/
def issued (s : State) (data : Word) : State where
  __ := State.accepted { s with moment := ⟨[], [], s.opening .host, false⟩ }
  cmd := { s.cmd with queue := s.cmd.queue ++ [s.entryOf data] }

/-- Settles O31: the entry joins the queue, and the dispatch is the moment's only request. -/
theorem issueQueuesTheCommand : Obligations.IssueQueuesTheCommand := by
  unfold Obligations.IssueQueuesTheCommand
  intro s data h hp hsweep hqueue hroom
  have hpasses : s.accessFails ⟨0x24, true, data⟩ = none := by
    rw [accessFails_admitted (reg := .cmdIssue) rfl (absurd · hp) (by simp [hsweep])]
    have hissue : s.issueRefused = false := by
      rw [← Bool.not_eq_true, issueRefused_iff]; omega
    simp [writeCheck, hissue, Reg.readOnly, Reg.lockProtected, State.stateRefuses, State.placeRefused]
  have hrequests : s.requestsAtOnce ⟨0x24, true, data⟩ = true :=
    congrArg Bool.not (calm_outstanding (calm_of_quiet h) .command)
  have hrow := hostRow_quiet_request h ⟨0x24, true, data⟩ hrequests hpasses
  have htransact : State.transact { s with moment := ⟨[], [], s.opening .host, false⟩ } ⟨0x24, true, data⟩ =
      (issued s data).askDispatch.respondOk none :=
    transact_write (r := .cmdIssue) (by rw [accessFails_moment, hpasses]) rfl rfl
  rw [htransact, askDispatch_entered (t := issued s data) (by simp [issued]) hp rfl, respondOk_eq] at hrow
  refine ⟨_, congrArg Host.Outcome.next hrow, rfl, rfl, rfl, ?_, rfl, by
    intro f hf; cases f <;> first | rfl | exact absurd (by decide) hf⟩
  simp only [State.reserved, issued, State.accepted, List.length_append, List.length_singleton]
  omega

end Sys2Proof.Proofs
end

section
/-! PROOFS. The Memory Arbiter: its decision, what a grant changes, and what each requester asks for (R32 to R44). -/

set_option Elab.async false

namespace Sys2Proof.Proofs

open Sys2Proof.Machine Sys2Proof.Safety Sys2Proof.Laws

/-! ## The grant (R36, R38, R42, R44, R126) -/

theorem grantsAllowed_iff (s : State) : s.grantsAllowed = true ↔
    s.power ≠ .retain ∧ s.sweep.running = false ∧ s.rst.pinHeld = false ∧ s.rst.supDue = false ∧
      (s.rst.softDue = true → s.win.buffer ≠ []) := by
  have hdrained : (s.rst.softDue = true → s.win.buffer ≠ []) ↔ s.rst.softDue = false ∨ s.win.buffer ≠ [] := by
    cases s.rst.softDue <;> simp
  simp [hdrained, State.grantsAllowed, State.resetHolds, and_assoc]

/-- What a decision does where there is one to make. -/
theorem arbitrate_free {s : State} (hfree : s.arb.grant = none) (hallowed : s.grantsAllowed = true) :
    s.arbitrate = s.decision.elim s s.makeGrant := by
  rw [State.arbitrate, if_pos ⟨by simp [hfree], hallowed⟩]
  cases s.decision <;> rfl

theorem arbitrate_held {s : State} (h : s.arb.grant ≠ none ∨ s.grantsAllowed = false) : s.arbitrate = s := by
  rw [State.arbitrate, if_neg]
  rintro ⟨hfree, hallowed⟩
  rcases h with h | h
  · exact h (Option.isNone_iff_eq_none.mp hfree)
  · simp [h] at hallowed

/-- The lane that a grant makes the rotation pointer. -/
def pointerAfter (p : LaneId) : Client → LaneId
  | .ingress n | .egress n => n
  | _ => p

/-- The read stage that a grant leaves. -/
def stageAfter : Client → ReadStage → ReadStage
  | .winRead, .issued p => .granted p
  | _, stage => stage

theorem makeGrant_eq (s : State) (g : Grant) : s.makeGrant g = { s with
    arb := { s.arb with
      grant := some g, pointer := pointerAfter s.arb.pointer g.who
      lossCount := if g.who = .scrub then 0 else if s.scrub.request then satInc s.arb.lossCount else s.arb.lossCount }
    scrub := { s.scrub with request := s.scrub.request && g.who != .scrub }
    win := { s.win with stage := stageAfter g.who s.win.stage } } := by
  rcases g with ⟨who, a, k⟩
  have hkeeps (who : Client) (hwho : who ≠ .scrub) : (s.scrub.request && who != .scrub) = s.scrub.request := by simp [hwho]
  cases who with
  | scrub => simp [State.makeGrant, pointerAfter, stageAfter]
  | winRead => cases hs : s.win.stage <;> simp [State.makeGrant, pointerAfter, stageAfter, hs, hkeeps]
  | _ => simp [State.makeGrant, pointerAfter, stageAfter, hkeeps]

theorem makeGrant_keeps (s : State) (g : Grant) :
    (s.makeGrant g).arb.escalate = s.arb.escalate ∧ (s.makeGrant g).arb.hostFirst = s.arb.hostFirst ∧
      (s.makeGrant g).win = { s.win with stage := (s.makeGrant g).win.stage } ∧
      (s.makeGrant g).scrub = { s.scrub with request := (s.makeGrant g).scrub.request } := by
  rw [makeGrant_eq]; exact ⟨rfl, rfl, rfl, rfl⟩

theorem arbitrate_keeps (s : State) :
    s.arbitrate.arb.escalate = s.arb.escalate ∧ s.arbitrate.arb.hostFirst = s.arb.hostFirst ∧
      s.arbitrate.win = { s.win with stage := s.arbitrate.win.stage } ∧
      s.arbitrate.scrub = { s.scrub with request := s.arbitrate.scrub.request } := by
  unfold State.arbitrate
  split
  · split
    · exact ⟨rfl, rfl, rfl, rfl⟩
    · exact makeGrant_keeps s _
  · exact ⟨rfl, rfl, rfl, rfl⟩

theorem satInc_small (c : BitVec 8) : satInc c = BitVec.ofNat 8 (min 255 (c.toNat + 1)) := rfl

/-- Settles O3: a decision's grant as one update, and the states in which none is made. -/
theorem arbitrationOnlyGrants : Obligations.ArbitrationOnlyGrants := by
  unfold Obligations.ArbitrationOnlyGrants
  intro s
  obtain ⟨hescalate, hfirst, hwin, hscrub⟩ := arbitrate_keeps s
  refine ⟨grantsAllowed_iff s, frame_mono (arbitrate_frame s) (by decide), ⟨hescalate, hfirst⟩, hwin, hscrub, arbitrate_held,
    fun hfree hallowed => ?_⟩
  rw [arbitrate_free hfree hallowed]
  refine ⟨?_, fun hnone => by rw [hnone]; rfl, fun g hg => ?_⟩
  · cases hd : s.decision with
    | none => exact hfree
    | some g => rw [Option.elim_some, makeGrant_eq]
  · rw [hg, Option.elim_some, makeGrant_eq]
    refine ⟨?_, rfl, rfl, ?_⟩
    · cases g.who <;> rfl
    · cases g.who <;> cases s.win.stage <;> rfl

/-! ## The decision (R37, R38, R42) -/

theorem findSome_cons (a : Option Grant) (l : List (Option Grant)) :
    (a :: l).findSome? id = a.orElse fun _ => l.findSome? id := by
  cases a <;> rfl

theorem orElse_assoc (a b : Option Grant) (c : Unit → Option Grant) :
    (a.orElse fun _ => b).orElse c = a.orElse fun _ => b.orElse c := by
  cases a <;> rfl

theorem decision_eq (s : State) : s.decision =
    (if s.arb.hostFirst then
      [s.windowRequest, if s.escalated then s.scrubGrant else none, s.laneWinner true, s.laneWinner false,
        s.engineRequest, s.scrubGrant]
    else
      [if s.escalated then s.scrubGrant else none, s.laneWinner true, s.windowRequest, s.laneWinner false,
        s.engineRequest, s.scrubGrant]).findSome? id := by
  have hlast : s.scrubGrant.orElse (fun _ => none) = s.scrubGrant := by cases s.scrubGrant <;> rfl
  simp only [State.decision]
  split <;> simp only [findSome_cons, List.findSome?_nil, orElse_assoc, hlast]

theorem escalated_iff (s : State) : s.escalated = true ↔
    s.scrub.request = true ∧ s.arb.escalate ≠ 0 ∧ s.arb.escalate.toNat ≤ s.arb.lossCount.toNat := by
  simp [State.escalated, and_assoc, BitVec.le_def]

theorem rotation_val (p : LaneId) : (rotation p).map Fin.val = (List.range 4).map fun k => (p.val + 1 + k) % 4 := by
  revert p; decide

theorem mem_rotation (p n : LaneId) : n ∈ rotation p := by
  revert p n; decide

/-- What the rotation examines a lane for: a request of the class, and its grant. -/
def classGrant (s : State) (high : Bool) (n : LaneId) : Option Grant :=
  match s.laneRequest n with
  | some q => if q.high = high then some q.grant else none
  | none => none

theorem classGrant_none (s : State) (high : Bool) (n : LaneId) :
    classGrant s high n = none ↔ ∀ q, s.laneRequest n = some q → q.high ≠ high := by
  unfold classGrant
  cases hq : s.laneRequest n <;> simp

theorem classGrant_some (s : State) (high : Bool) (n : LaneId) (g : Grant) :
    classGrant s high n = some g ↔ s.laneRequest n = some ⟨high, g⟩ := by
  unfold classGrant
  cases hq : s.laneRequest n with
  | none => simp
  | some q =>
    rcases q with ⟨h', g'⟩
    simp

theorem laneWinner_eq (s : State) (high : Bool) : s.laneWinner high = (rotation s.arb.pointer).findSome? (classGrant s high) := rfl

theorem laneWinner_none (s : State) (high : Bool) :
    s.laneWinner high = none ↔ ∀ n q, s.laneRequest n = some q → q.high ≠ high := by
  simp [laneWinner_eq, List.findSome?_eq_none_iff, classGrant_none, mem_rotation]

theorem laneWinner_some {s : State} {high : Bool} {g : Grant} (h : s.laneWinner high = some g) :
    ∃ before n after, rotation s.arb.pointer = before ++ n :: after ∧ s.laneRequest n = some ⟨high, g⟩ ∧
      ∀ m ∈ before, ∀ q, s.laneRequest m = some q → q.high ≠ high := by
  rw [laneWinner_eq, List.findSome?_eq_some_iff] at h
  obtain ⟨before, n, after, hsplit, hn, hbefore⟩ := h
  exact ⟨before, n, after, hsplit, (classGrant_some s high n g).mp hn, fun m hm => (classGrant_none s high m).mp (hbefore m hm)⟩

/-! ## The lanes' requests (R34, R39, R40) -/

theorem laneArg_eq (w : Word) (n : LaneId) : laneArg w = some n ↔ w.toNat = n.val := by
  unfold laneArg
  split
  next h => rw [Option.some.injEq, Fin.ext_iff]
  next h => simp only [reduceCtorEq, false_iff]; omega

theorem haltAwaits_iff (s : State) (n : LaneId) : s.haltAwaits n = true ↔ haltWaits s n := by
  cases hq : s.cmd.queue <;> simp [State.haltAwaits, haltWaits, hq, laneArg_eq]

/-- An entry at which a run ends (R34): one that begins the next frame. -/
theorem runLength_isRun (fifo : List FifoEntry) : ∀ limit, isRun limit fifo (runLength limit fifo) := by
  induction fifo with
  | nil => intro limit; cases limit <;> simp [isRun, runLength]
  | cons e es ih =>
    intro limit
    cases limit with
    | zero => simp [isRun, runLength]
    | succ k =>
      unfold runLength
      split
      next hsof => simpa [isRun] using hsof
      next hsof =>
        have hacted : e.sof = true → e.acted = true := by simpa using hsof
        split
        next heof => simpa [isRun, heof] using hacted
        next heof =>
          obtain ⟨hlimit, hlen, hsofs, heofs, hnext⟩ := ih k
          refine ⟨by omega, by simp; omega, ?_, ?_, ?_⟩
          · rw [Nat.add_comm 1, List.take_succ_cons]
            exact List.forall_mem_cons.mpr ⟨hacted, hsofs⟩
          · rw [Nat.add_sub_cancel_left]
            cases hrun : runLength k es with
            | zero => simp
            | succ r =>
              rw [hrun, Nat.add_sub_cancel] at heofs
              rw [List.take_succ_cons]
              exact List.forall_mem_cons.mpr ⟨by simpa using heof, heofs⟩
          · intro hlt x hx
            rw [Nat.add_comm 1, List.drop_succ_cons] at hx
            refine (hnext (by omega) x hx).imp id fun ⟨last, hlast, hend⟩ => ⟨last, ?_, hend⟩
            rw [Nat.add_comm 1, List.take_succ_cons, List.getLast?_cons, hlast]
            rfl

/-- An ingress lane that fills a slot may ask for a grant. -/
def ingressMay (s : State) (n : LaneId) : Prop :=
  (s.lane n).moving = true ∧ (s.lane n).sub = .receiving ∧ s.outstanding (.publish n) = false ∧ ¬ haltWaits s n

/-- The FIFO of an ingress lane asks with a low request. -/
def ingressLow (l : Lane) : Prop := l.markLo ≤ l.fifo.length ∨ ∃ e ∈ l.fifo, e.eof = true ∨ e.sof = true ∧ e.acted = false

theorem ingressRequest_eq {s : State} {n : LaneId} {i : SlotId} (hdir : (s.lane n).cfg.dir = .ingress)
    (hcur : (s.lane n).cur = some i) (run : Nat)
    (hrun : run = runLength (min 8 ((s.slot i).capacity - (s.slot i).length)) (s.lane n).fifo)
    [Decidable (ingressMay s n ∧ 0 < run)] [Decidable (ingressLow (s.lane n))] :
    s.laneRequest n =
      if ingressMay s n ∧ 0 < run then
        if (s.lane n).markHi ≤ (s.lane n).fifo.length then
          some ⟨true, .ingress n, (s.slot i).base + (s.slot i).length, run⟩
        else if ingressLow (s.lane n) then some ⟨false, .ingress n, (s.slot i).base + (s.slot i).length, run⟩
        else none
      else none := by
  have hlow : ((decide ((s.lane n).markLo ≤ (s.lane n).fifo.length) ||
      (s.lane n).fifo.any fun e => e.eof || (e.sof && !e.acted)) = true) = ingressLow (s.lane n) := by
    simp [ingressLow]
  simp only [State.laneRequest, hdir, State.ingressRequest, hcur, ingressMay, hlow, ← haltAwaits_iff, Bool.not_eq_true,
    true_and, and_assoc]
  rw [show Config.burstWords = 8 from rfl, ← hrun]

/-- An egress lane's next fetch (R34). -/
def fetchSize (l : Lane) : Nat := min 8 (min (32 - l.fifo.length) (l.frameLen - l.fetched))

/-- An egress lane that sends a slot may ask for a grant. -/
def egressMay (s : State) (n : LaneId) : Prop :=
  (s.lane n).moving = true ∧ (s.lane n).sub = .sending ∧ 0 < fetchSize (s.lane n) ∧ ¬ haltWaits s n

theorem egressRequest_eq {s : State} {n : LaneId} {i : SlotId} (hdir : (s.lane n).cfg.dir = .egress)
    (hcur : (s.lane n).cur = some i) [Decidable (egressMay s n)] :
    s.laneRequest n =
      if egressMay s n then
        if (s.lane n).fifo.length ≤ (s.lane n).markHi then
          some ⟨true, .egress n, (s.slot i).base + (s.lane n).fetched, fetchSize (s.lane n)⟩
        else if (s.lane n).fifo.length ≤ (s.lane n).markLo then
          some ⟨false, .egress n, (s.slot i).base + (s.lane n).fetched, fetchSize (s.lane n)⟩
        else none
      else none := by
  have hmay : ((s.lane n).moving = true ∧ (s.lane n).sub = .sending ∧ s.haltAwaits n = false ∧ 0 < fetchSize (s.lane n)) ↔
      egressMay s n := by
    rw [egressMay, ← haltAwaits_iff, Bool.not_eq_true]; tauto
  simp only [State.laneRequest, hdir, State.egressRequest, hcur, true_and, ← hmay]
  rfl

theorem laneRequest_none {s : State} {n : LaneId} (h : (s.lane n).cfg.dir = .none ∨ (s.lane n).cur = none) :
    s.laneRequest n = none := by
  rcases h with h | h
  · simp [State.laneRequest, h]
  · cases hdir : (s.lane n).cfg.dir <;> simp [State.laneRequest, State.ingressRequest, State.egressRequest, hdir, h]

/-! ## The Host Window's request (R35) -/

theorem bufferRun_spec (x : Nat × Word) (rest : List (Nat × Word)) : 0 < bufferRun (x :: rest) ∧
    ((x :: rest).take (bufferRun (x :: rest))).map Prod.fst = (List.range (bufferRun (x :: rest))).map (x.1 + ·) ∧
      ∀ y, ((x :: rest).drop (bufferRun (x :: rest))).head? = some y → y.1 ≠ x.1 + bufferRun (x :: rest) := by
  induction rest generalizing x with
  | nil => simp [bufferRun]
  | cons y rest ih =>
    rcases x with ⟨a, v⟩
    rcases y with ⟨b, w⟩
    unfold bufferRun
    split
    next hb =>
      obtain ⟨hpos, haddrs, hnext⟩ := ih (b, w)
      refine ⟨by omega, ?_, fun y hy => ?_⟩
      · rw [Nat.add_comm 1, List.take_succ_cons, List.map_cons, haddrs, List.range_succ_eq_map, List.map_cons, List.map_map]
        simp only [Nat.add_zero, List.cons.injEq, true_and]
        exact List.map_congr_left fun k _ => by simp only [Function.comp]; omega
      · rw [Nat.add_comm 1, List.drop_succ_cons] at hy
        have := hnext y hy
        simp only at this ⊢
        omega
    next hb => simpa using hb

/-! ## The Copy Engine's request (R143) -/

theorem burst_ascending (count done : Nat) : burst false count done = (done, min 8 (count - done)) := rfl

theorem burst_descending {count done : Nat} (h : 0 < count - done) :
    burst true count done = (8 * ((count - done - 1) / 8), (count - done - 1) % 8 + 1) := by
  have hbursts : (count - done + 7) / 8 - 1 = (count - done - 1) / 8 := by omega
  show (8 * ((count - done + 7) / 8 - 1), count - done - 8 * ((count - done + 7) / 8 - 1)) = _
  rw [hbursts]
  exact Prod.ext rfl (by simp only; omega)

theorem burst_size_zero {desc : Bool} {count done : Nat} (h : count - done = 0) : (burst desc count done).2 = 0 := by
  cases desc <;> simp [burst, h]

theorem burst_size_pos {desc : Bool} {count done : Nat} (h : 0 < count - done) : 0 < (burst desc count done).2 := by
  cases desc with
  | false => rw [burst_ascending]; simp only; omega
  | true => rw [burst_descending h]; simp only; omega

theorem burst_copy {desc : Bool} {count done : Nat} (h : 0 < count - done) :
    burst desc count done = (if desc then 8 * ((count - done - 1) / 8) else done,
      if desc then (count - done - 1) % 8 + 1 else min 8 (count - done)) := by
  cases desc with
  | false => rfl
  | true => exact burst_descending h

/-- Settles O4: the decision as the first of its classes, and the request of each requester. -/
theorem decisionFollowsTheClasses : Obligations.DecisionFollowsTheClasses := by
  classical
  unfold Obligations.DecisionFollowsTheClasses
  refine ⟨fun s => ⟨decision_eq s, escalated_iff s, rotation_val _, fun high => ⟨laneWinner_none s high, fun g hg => laneWinner_some hg⟩⟩,
    fun s n => ⟨laneRequest_none, fun i hdir hcur => ?_, fun i hdir hcur => ?_⟩,
    fun s => ⟨fun p hp => ?_, fun p hp => ?_, fun hstage => ?_, rfl⟩, fun s => ?_⟩
  · refine ⟨runLength (min 8 ((s.slot i).capacity - (s.slot i).length)) (s.lane n).fifo, runLength_isRun _ _, ?_⟩
    have heq := ingressRequest_eq hdir hcur _ rfl
    refine ⟨fun hmay hrun hhi => ?_, fun hmay hrun hhi hlow => ?_, fun hno => ?_⟩
    · rw [heq, if_pos ⟨hmay, hrun⟩, if_pos hhi]
    · rw [heq, if_pos ⟨hmay, hrun⟩, if_neg (by omega), if_pos (show ingressLow _ from hlow)]
    · rw [heq]
      split
      next hyes =>
        obtain ⟨hmay, hrun⟩ := hyes
        rcases hno with hno | hno | ⟨hhi, hlow⟩
        · exact absurd hmay hno
        · omega
        · rw [if_neg (by omega), if_neg (show ¬ ingressLow _ from hlow)]
      next => rfl
  · have heq := egressRequest_eq hdir hcur
    refine ⟨fun hmay hhi => ?_, fun hmay hhi hlo => ?_, fun hno => ?_⟩
    · rw [heq, if_pos (show egressMay s n from hmay), if_pos hhi]; rfl
    · rw [heq, if_pos (show egressMay s n from hmay), if_neg (by omega), if_pos hlo]; rfl
    · rw [heq]
      split
      next hmay =>
        rcases hno with hno | ⟨hhi, hlo⟩
        · exact absurd hmay hno
        · rw [if_neg (by omega), if_neg (by omega)]
      next => rfl
  · simp [State.windowRequest, hp]
  · simp [State.windowRequest, hp]
  · have hrequest : s.windowRequest = match s.win.buffer with
        | [] => none
        | x :: es => some ⟨.winWrite, x.1, bufferRun (x :: es)⟩ := by
      rcases hstage with h | ⟨p, h⟩ <;> (rw [State.windowRequest, h]; cases s.win.buffer <;> rfl)
    refine ⟨fun hempty => by rw [hrequest, hempty], fun x rest hbuffer => ?_⟩
    obtain ⟨hpos, haddrs, hnext⟩ := bufferRun_spec x rest
    exact ⟨bufferRun (x :: rest), by rw [hrequest, hbuffer], hpos, by rw [hbuffer]; exact haddrs, by rw [hbuffer]; exact hnext⟩
  · refine ⟨fun hno => ?_, fun src dst count hcmd => ⟨fun hleft => ?_, fun hleft hphase => ?_, fun hleft hphase => ?_⟩,
      fun dst count pattern step hcmd => ⟨fun hno => ?_, fun hphase hleft => ?_⟩, fun i hcmd => ⟨fun hno => ?_, fun hphase hleft => ?_⟩⟩
    · unfold State.engineRequest
      split <;> simp_all
    · cases hphase : s.eng.phase <;> simp [State.engineRequest, hcmd, hphase, burst_size_zero hleft]
    · have hpos : 0 < (burst s.eng.descending count s.eng.wordsDone).2 := burst_size_pos hleft
      simp only [State.engineRequest, hcmd, hphase, if_pos hpos]
      rw [burst_copy hleft]
    · have hpos : 0 < (burst s.eng.descending count s.eng.wordsDone).2 := burst_size_pos hleft
      simp only [State.engineRequest, hcmd, hphase, if_pos hpos]
      rw [burst_copy hleft]
    · rcases hno with hphase | hleft
      · simp [State.engineRequest, hcmd, hphase]
      · have hzero : (burst false count s.eng.wordsDone).2 = 0 := burst_size_zero (by omega)
        cases hphase : s.eng.phase <;> simp [State.engineRequest, hcmd, hphase, hzero]
    · have hpos : 0 < (burst false count s.eng.wordsDone).2 := burst_size_pos (by omega)
      simp only [State.engineRequest, hcmd, hphase]
      exact if_pos hpos
    · rcases hno with hphase | hleft
      · simp [State.engineRequest, hcmd, hphase]
      · have hzero : (burst false (s.slot i).length s.eng.wordsDone).2 = 0 := burst_size_zero (by omega)
        cases hphase : s.eng.phase <;> simp [State.engineRequest, hcmd, hphase, hzero]
    · have hpos : 0 < (burst false (s.slot i).length s.eng.wordsDone).2 := burst_size_pos (by omega)
      simp only [State.engineRequest, hcmd, hphase]
      exact if_pos hpos

end Sys2Proof.Proofs
end

section
/-! PROOFS. The dispatch of the command at the head of the queue, and how a command completes (R135 to R138, R147). -/

set_option Elab.async false

namespace Sys2Proof.Proofs

open Sys2Proof.Machine Sys2Proof.Safety Sys2Proof.Laws

/-! ## Completion (R137, R138) -/

/-- The command has left the queue, and its completion record has been raised with these events behind it. -/
structure Finished (s : State) (e : CmdEntry) (res : Result) (value : Nat) (slot : Option SlotId) (more : List Event)
    (t : State) : Prop where
  cmd : t.cmd = { s.cmd with queue := s.cmd.queue.tail }
  events : raises (doneEvent s e res value slot :: more) s t

theorem recordDone_finished {fs : List Field} {s u : State} (h : unchangedBut fs s u) (e : CmdEntry) (res : Result)
    (value : Nat) (slot : Option SlotId) (hd : ∀ f ∈ [Field.log, .irq, .cmd, .tb], f ∉ fs := by decide) :
    Finished s e res value slot [] (u.recordDone e res value slot) := by
  have hcmd : u.cmd = s.cmd := h .cmd (hd _ (by simp))
  have htb : u.tb = s.tb := h .tb (hd _ (by simp))
  have hev : u.recordDone e res value slot =
      State.raise { u with cmd := { u.cmd with queue := u.cmd.queue.tail } } (doneEvent s e res value slot) := by
    rw [State.recordDone, commandDetail_eq, doneEvent, ← htb]; rfl
  have hbefore : unchangedBut (.cmd :: fs) s { u with cmd := { u.cmd with queue := u.cmd.queue.tail } } := by
    intro f hf
    simp only [List.mem_cons, not_or] at hf
    have hsame := h f hf.2
    cases f <;> first | exact hsame | exact absurd rfl hf.1
  have hlog : Field.log ∉ Field.cmd :: fs := by simpa using hd .log (by simp)
  have hirq : Field.irq ∉ Field.cmd :: fs := by simpa using hd .irq (by simp)
  rw [hev]
  refine ⟨?_, raises_first hbefore _ hlog hirq⟩
  rw [show (State.raise _ _).cmd = _ from raise_frame _ _ .cmd (by decide), ← hcmd]

namespace Finished

variable {s t u : State} {e : CmdEntry} {res : Result} {value : Nat} {slot : Option SlotId} {more : List Event}

/-- What touches neither the queue nor what an event depends on. -/
theorem frame {fs : List Field} (h : Finished s e res value slot more t) (k : unchangedBut fs t u)
    (hd : ∀ f ∈ [Field.log, .irq, .cmd, .sup], f ∉ fs := by decide) : Finished s e res value slot more u :=
  ⟨Eq.trans (k .cmd (hd _ (by simp))) h.cmd, raises_frame h.events k hd⟩

/-- A lane's event behind those raised so far. -/
theorem raiseLane (h : Finished s e res value slot more t) {n : LaneId} {kind : Kind} {i : Option SlotId} {detail : Word}
    {k : Nat} (htb : t.tb = s.tb) (hdetail : detail = BitVec.ofNat 32 k) :
    Finished s e res value slot (more ++ [laneEvent s n kind i k]) (t.raiseLane n kind i detail) :=
  ⟨Eq.trans (raiseLane_frame t n kind i detail .cmd (by decide)) h.cmd, raises_raiseLane h.events htb hdetail⟩

end Finished

theorem causeDispatch_outstanding (t : State) (q : Req) :
    t.causeDispatch.outstanding q = (t.dispatchable && q == .command || t.outstanding q) := by
  unfold State.causeDispatch
  cases h : t.dispatchable with
  | true => rw [if_pos rfl, outstanding_cause, Bool.true_and]
  | false => rw [if_neg (by decide), Bool.false_and, Bool.false_or]

theorem causeDispatch_dispatchable (t : State) : t.causeDispatch.dispatchable = t.dispatchable := by
  have hframe := causeDispatch_frame t
  rw [State.dispatchable, State.dispatchable, show t.causeDispatch.cmd = t.cmd from hframe .cmd (by decide),
    show t.causeDispatch.eng = t.eng from hframe .eng (by decide), show t.causeDispatch.win = t.win from hframe .win (by decide),
    show t.causeDispatch.power = t.power from hframe .power (by decide)]

/-- The command has completed once the next one has been requested. -/
theorem Finished.completes {s t : State} {e : CmdEntry} {res : Result} {value : Nat} {slot : Option SlotId}
    {more : List Event} (h : Finished s e res value slot more t) : completes s t.causeDispatch e res value slot more := by
  obtain ⟨hcmd, hevents⟩ := h.frame (causeDispatch_frame t)
  refine ⟨hcmd, hevents, fun hd => ?_⟩
  rw [causeDispatch_dispatchable] at hd
  rw [causeDispatch_outstanding, hd]
  simp

/-! ## Dispatch (R136) -/

/-- The service of the head command, where its dispatch is due and does not wait for a grant's end. -/
theorem serveCommand_due {s : State} {e : CmdEntry} {code : BitVec 8} (h : commandDue s e code)
    (hd : s.mustDefer e = false) : s.serveDue (.req .command) = ((begun s).runCommand e).causeDispatch.arbitrate := by
  obtain ⟨_, hdispatch, hhead, _⟩ := h
  have hidle := ((dispatchable_iff s).mp hdispatch).2.2.1
  obtain ⟨rest, hqueue⟩ : ∃ rest, s.cmd.queue = e :: rest := List.head?_eq_some_iff.mp hhead
  have hserve : (begun s).serveCommand = ((begun s).runCommand e).causeDispatch := by
    have hq : (begun s).cmd.queue = e :: rest := hqueue
    have hi : (begun s).cmd.haltDeferred = false := hidle
    have hdue : (begun s).dispatchable = true := hdispatch
    have hnow : (begun s).mustDefer e = false := hd
    simp only [State.serveCommand, hq, hi, hdue, hnow, Bool.false_eq_true, if_false, Bool.true_eq_false]
  exact congrArg State.arbitrate hserve

theorem mustDefer_other {s : State} {e : CmdEntry} (h : e.code ≠ 0x12) : s.mustDefer e = false := by
  rw [State.mustDefer, beq_false_of_ne h, Bool.false_and]

/-- The row of a command that its code names. -/
theorem exec_command {s : State} {e : CmdEntry} {code : BitVec 8} {i : Instr} {mine : BitVec 8 → Bool}
    {run : State → CmdEntry → State} (h : commandDue s e code) (hi : exec i s = .next (s.commandRow mine))
    (hm : mine code = true) (hrun : ∀ (t : State) (e : CmdEntry), e.code = code → t.runCommand e = run t e)
    (hne : code ≠ 0x12) : exec i s = .next (run (begun s) e).causeDispatch.arbitrate := by
  have hcode := h.2.2.2
  rw [hi, commandRow_due h mine hm, serveCommand_due h (mustDefer_other (hcode ▸ hne)), hrun _ _ hcode]

/-- A command that completes and does nothing else. -/
theorem only_completes {s t : State} {e : CmdEntry} {i : Instr} {res : Result} {slot : Option SlotId}
    (hexec : exec i s = .next t.causeDispatch.arbitrate) (ht : t = (begun s).recordDone e res 0 slot) :
    ∃ r, exec i s = .next r.arbitrate ∧ onlyCompletes s r e res slot := by
  subst ht
  have hrecord := recordDone_finished (begun_frame s) e res 0 slot
  exact ⟨_, hexec, hrecord.completes, frame_comp (frame_comp (hs := [.moment, .cmd, .log, .irq]) (begun_frame s)
    (recordDone_frame _ e res 0 slot)) (causeDispatch_frame _)⟩

theorem runCommand_unknown {t : State} {e : CmdEntry}
    (h : e.code.toNat ∉ [1, 2, 3, 4, 5, 6, 16, 17, 18, 19, 20, 32, 33, 34, 35]) :
    t.runCommand e = t.recordDone e .badParam 0 none := by
  unfold State.runCommand
  split <;> simp_all

/-- Settles O32: SYNC and the unknown codes only complete, and COMMAND_DISPATCH serves the same head as the command's own row. -/
theorem syncAndUnknownCodesComplete : Obligations.SyncAndUnknownCodesComplete := by
  unfold Obligations.SyncAndUnknownCodesComplete
  refine ⟨fun s e => ⟨fun h => ?_, fun code hcode h => ?_⟩, fun s e code row h hrow => ?_⟩
  · have hsync : ∀ (t : State) (e : CmdEntry), e.code = 0x23 → t.runCommand e = t.sync e := fun t e hc => by
      rw [State.runCommand, hc]; rfl
    have hrow := exec_command h rfl rfl (i := .sync) hsync (by decide)
    have hany := exec_command h rfl rfl (i := .commandDispatch) hsync (by decide)
    obtain ⟨r, hr, hdone, hframe⟩ := only_completes hrow rfl
    exact ⟨r, hr, hany.trans (hrow.symm.trans hr), hdone, hframe⟩
  · have hknown : (!knownCode code) = true := by
      simpa [knownCode] using hcode
    have hrun : ∀ (t : State) (e : CmdEntry), e.code = code → t.runCommand e = t.recordDone e .badParam 0 none :=
      fun t e hc => runCommand_unknown (hc ▸ hcode)
    have hne : code ≠ 0x12 := fun hc => hcode (by rw [hc]; decide)
    have hrow := exec_command h rfl hknown (i := .unknownCommand) hrun hne
    have hany := exec_command h rfl rfl (i := .commandDispatch) hrun hne
    obtain ⟨r, hr, hdone, hframe⟩ := only_completes hrow rfl
    exact ⟨r, hr, hany.trans (hrow.symm.trans hr), hdone, hframe⟩
  · have hsame {mine : BitVec 8 → Bool} (hi : exec row s = .next (s.commandRow mine)) (hm : mine code = true) :
        ∃ t, exec row s = .next t ∧ exec .commandDispatch s = .next t :=
      ⟨_, hi.trans (by rw [commandRow_due h mine hm]), congrArg Host.Outcome.next (commandRow_due h _ rfl)⟩
    simp only [List.mem_cons, Prod.mk.injEq, List.not_mem_nil, or_false] at hrow
    rcases hrow with h | h | h | h | h | h | h | h | h | h | h | h | h | h | h <;> obtain ⟨rfl, rfl⟩ := h <;>
      exact hsame rfl rfl

end Sys2Proof.Proofs
end

section
/-! PROOFS. Slots given back: joining a free list, telling its owner, and the order in which several are returned (R52, R70). -/

set_option Elab.async false

namespace Sys2Proof.Proofs

open Sys2Proof.Machine Sys2Proof.Safety Sys2Proof.Laws

/-! ## Joining a free list -/

theorem joinFree_slot (s : State) (i j : SlotId) :
    (s.joinFree i).slot j = if j = i then { s.slot i with st := .free } else s.slot j := by
  have hslots : (s.joinFree i).slots = (s.updSlot i fun r => { r with st := .free }).slots := by
    simp only [State.joinFree]; split <;> rfl
  rw [slot_of_slots hslots, slot_updSlot]

theorem joinFree_hostFree (s : State) (i : SlotId) :
    (s.joinFree i).hostFree = if (s.slot i).owner = .host then s.hostFree ++ [i] else s.hostFree := by
  cases ho : (s.slot i).owner <;> simp [State.joinFree, ho]

theorem joinFree_lane (s : State) (i : SlotId) (n : LaneId) : (s.joinFree i).lane n =
    if (s.slot i).owner = .lane n then { s.lane n with freeList := (s.lane n).freeList ++ [i] } else s.lane n := by
  cases ho : (s.slot i).owner with
  | none => simp [State.joinFree, ho]
  | host => simp only [State.joinFree, slot_updSlot_same, ho, reduceCtorEq, if_false]; rfl
  | lane m =>
    simp only [State.joinFree, slot_updSlot_same, ho, lane_updLane, lane_updSlot, Owner.lane.injEq]
    by_cases hm : n = m
    · subst hm; simp
    · simp [hm, Ne.symm hm]

theorem returnSlot_slot (s : State) (i j : SlotId) : (s.returnSlot i).slot j =
    if j = i then { s.slot i with st := if (s.slot i).flags.eccBad then .quarantined else .free } else s.slot j := by
  unfold State.returnSlot
  cases (s.slot i).flags.eccBad <;> simp [joinFree_slot, slot_updSlot]

theorem returnSlot_hostFree (s : State) (i : SlotId) : (s.returnSlot i).hostFree =
    if (s.slot i).flags.eccBad = false ∧ (s.slot i).owner = .host then s.hostFree ++ [i] else s.hostFree := by
  unfold State.returnSlot
  cases (s.slot i).flags.eccBad <;> simp [joinFree_hostFree]

theorem returnSlot_lane (s : State) (i : SlotId) (n : LaneId) : (s.returnSlot i).lane n =
    if (s.slot i).flags.eccBad = false ∧ (s.slot i).owner = .lane n then
      { s.lane n with freeList := (s.lane n).freeList ++ [i] }
    else s.lane n := by
  unfold State.returnSlot
  cases (s.slot i).flags.eccBad <;> simp [joinFree_lane]

/-! ## Telling the owners (R52, R86) -/

/-- A lane that a slot in its free list wakes. -/
def wakeable (l : Lane) : Bool := l.cfg.dir == .ingress && l.moving && l.sub == .stalled

theorem wakeable_iff (l : Lane) : wakeable l = true ↔ l.cfg.dir = .ingress ∧ l.moving = true ∧ l.sub = .stalled := by
  simp [wakeable, and_assoc]

/-- One of the slots is FREE and the lane's own. -/
def tells (s : State) (is : List SlotId) (n : LaneId) : Bool :=
  is.any fun i => ((s.slot i).st == .free) && ((s.slot i).owner == .lane n)

theorem tells_iff (s : State) (is : List SlotId) (n : LaneId) :
    tells s is n = true ↔ ∃ i ∈ is, (s.slot i).st = .free ∧ (s.slot i).owner = .lane n := by
  simp [tells]

theorem tells_congr {s t : State} (h : t.slots = s.slots) (is : List SlotId) (n : LaneId) : tells t is n = tells s is n := by
  simp only [tells, slot_of_slots h]

theorem wake_outstanding (s : State) (n : LaneId) (q : Req) :
    (s.wake n).outstanding q = (q == .allocate n && wakeable (s.lane n) || s.outstanding q) := by
  have hcond : (s.lane n).cfg.dir = .ingress ∧ (s.lane n).moving = true ∧ (s.lane n).sub = .stalled ↔
      wakeable (s.lane n) = true := (wakeable_iff _).symm
  simp only [State.wake, hcond]
  cases wakeable (s.lane n) <;> simp [outstanding_cause]

/-- The lanes told one after another: each for itself. -/
theorem foldl_tell_outstanding (is : List SlotId) (ns : List LaneId) (q : Req) : ∀ s : State,
    (ns.foldl (fun s n => if tells s is n then s.wake n else s) s).outstanding q =
      (ns.any (fun n => q == .allocate n && tells s is n && wakeable (s.lane n)) || s.outstanding q) := by
  induction ns with
  | nil => simp
  | cons n ns ih =>
    intro s
    have hstep : unchangedBut [.moment] s (if tells s is n then s.wake n else s) := by
      split
      · exact wake_frame s n
      · exact frame_refl _ s
    have htells (m : LaneId) : tells (if tells s is n then s.wake n else s) is m = tells s is m :=
      tells_congr (hstep .slots (by decide)) is m
    have hlane (m : LaneId) : (if tells s is n then s.wake n else s).lane m = s.lane m := frame_lane hstep m
    rw [List.foldl_cons, ih]
    simp only [htells, hlane, List.any_cons]
    cases tells s is n with
    | false => simp
    | true => simp only [if_true, wake_outstanding, Bool.and_true]; cases (q == Req.allocate n && wakeable (s.lane n)) <;> simp

theorem tellOwners_outstanding (s : State) (is : List SlotId) (q : Req) : (s.tellOwners is).outstanding q =
    (laneList.any (fun n => q == .allocate n && tells s is n && wakeable (s.lane n)) || s.outstanding q) :=
  foldl_tell_outstanding is laneList q s

theorem tellOwners_allocate (s : State) (is : List SlotId) (n : LaneId) :
    (s.tellOwners is).outstanding (.allocate n) = (tells s is n && wakeable (s.lane n) || s.outstanding (.allocate n)) := by
  rw [tellOwners_outstanding]
  congr 1
  rw [Bool.eq_iff_iff, List.any_eq_true]
  refine ⟨fun ⟨m, _, h⟩ => ?_, fun h => ⟨n, mem_laneList n, by simpa using h⟩⟩
  simp only [Bool.and_eq_true, beq_iff_eq, Req.allocate.injEq] at h
  obtain ⟨⟨rfl, ht⟩, hw⟩ := h
  rw [ht, hw]; rfl

theorem tellOwners_other (s : State) (is : List SlotId) {q : Req} (h : ∀ n, q ≠ .allocate n) :
    (s.tellOwners is).outstanding q = s.outstanding q := by
  rw [tellOwners_outstanding]
  have hnone : laneList.any (fun n => q == .allocate n && tells s is n && wakeable (s.lane n)) = false := by
    rw [List.any_eq_false]
    intro n _
    simp [h n]
  rw [hnone, Bool.false_or]

/-- A STALLED owner of a slot that is FREE is woken. -/
theorem tellOwners_wakes {s t : State} {is : List SlotId} {i : SlotId} {m : LaneId} (hi : i ∈ is) (hfree : (t.slot i).st = .free)
    (howner : (t.slot i).owner = .lane m) (hcfg : (t.lane m).cfg = (s.lane m).cfg) (hst : (t.lane m).st = (s.lane m).st)
    (hsub : (t.lane m).sub = (s.lane m).sub) : wakes m s (t.tellOwners is) := by
  intro hdir hmoving hstalled
  have hw : wakeable (t.lane m) = true := by
    rw [wakeable_iff, hcfg, hsub, Lane.moving, hst]
    exact ⟨hdir, hmoving, hstalled⟩
  rw [tellOwners_allocate, (tells_iff t is m).mpr ⟨i, hi, hfree, howner⟩, hw]
  rfl

/-- What leaves the lists as they are, and every request that was made. -/
theorem joins_later {i : SlotId} {o : Owner} {s t r : State} (h : joins i o s t) (hhost : r.hostFree = t.hostFree)
    (hlanes : r.lanes = t.lanes) (hreq : ∀ m, t.outstanding (.allocate m) = true → r.outstanding (.allocate m) = true) :
    joins i o s r := by
  have hlane := lane_of_lanes hlanes
  cases o with
  | none => exact ⟨hhost.trans h.1, fun n => (hlane n).trans (h.2 n)⟩
  | host => exact ⟨hhost.trans h.1, fun n => (hlane n).trans (h.2 n)⟩
  | lane m =>
    obtain ⟨hfree, hm, hothers, hwakes⟩ := h
    exact ⟨hhost.trans hfree, (hlane m).trans hm, fun k hk => (hlane k).trans (hothers k hk),
      fun hdir hmoving hsub => hreq m (hwakes hdir hmoving hsub)⟩

/-- A slot that joins its owner's free list, with the owner told. -/
theorem joinFree_joins {s t : State} {i : SlotId} (hhost : t.hostFree = s.hostFree)
    (hlane : ∀ n, t.lane n = s.lane n) : joins i (t.slot i).owner s ((t.joinFree i).tellOwners [i]) := by
  have htell := tellOwners_frame (t.joinFree i) [i]
  have hfree : ((t.joinFree i).tellOwners [i]).hostFree = (t.joinFree i).hostFree := htell .hostFree (by decide)
  have hjoin (n : LaneId) : ((t.joinFree i).tellOwners [i]).lane n = (t.joinFree i).lane n := frame_lane htell n
  cases ho : (t.slot i).owner with
  | none | host =>
    refine ⟨?_, fun n => ?_⟩
    · rw [hfree, joinFree_hostFree, ho, ← hhost]; rfl
    · rw [hjoin, joinFree_lane, ho, ← hlane]; rfl
  | lane m =>
    refine ⟨?_, ?_, fun n hn => ?_, ?_⟩
    · rw [hfree, joinFree_hostFree, ho, ← hhost]; rfl
    · rw [hjoin, joinFree_lane, ho, if_pos rfl, hlane]
    · rw [hjoin, joinFree_lane, ho, if_neg (by simpa using hn.symm), hlane]
    · have hm : (t.joinFree i).lane m = { s.lane m with freeList := (s.lane m).freeList ++ [i] } := by
        rw [joinFree_lane, ho, if_pos rfl, hlane]
      refine tellOwners_wakes (List.mem_singleton_self i) ?_ ?_ ?_ ?_ ?_
      · rw [joinFree_slot, if_pos rfl]
      · rw [joinFree_slot, if_pos rfl]; exact ho
      all_goals rw [hm]

/-! ## Several slots returned in their order (R70) -/

/-- What the return of several slots, none named twice, leaves of each part that it touches. -/
theorem returnAll_spec (is : List SlotId) : is.Nodup → ∀ s : State,
    (∀ j, (s.returnAll is).slot j =
      if j ∈ is then { s.slot j with st := if (s.slot j).flags.eccBad then .quarantined else .free } else s.slot j) ∧
    (s.returnAll is).hostFree =
      s.hostFree ++ is.filter (fun i => !(s.slot i).flags.eccBad && (s.slot i).owner == .host) ∧
    ∀ n, (s.returnAll is).lane n = { s.lane n with
      freeList := (s.lane n).freeList ++
        is.filter (fun i => !(s.slot i).flags.eccBad && (s.slot i).owner == .lane n) } := by
  induction is with
  | nil => intro _ s; simp [State.returnAll]
  | cons i is ih =>
    intro hnd s
    obtain ⟨hi, his⟩ := List.nodup_cons.mp hnd
    obtain ⟨hslot, hhost, hlane⟩ := ih his (s.returnSlot i)
    have hkept (j : SlotId) (hj : j ∈ is) : (s.returnSlot i).slot j = s.slot j := by
      rw [returnSlot_slot, if_neg (ne_of_mem_of_not_mem hj hi)]
    have hall : s.returnAll (i :: is) = (s.returnSlot i).returnAll is := rfl
    refine ⟨fun j => ?_, ?_, fun n => ?_⟩
    · rw [hall, hslot, returnSlot_slot]
      by_cases hji : j = i
      · subst hji; simp [hi]
      · simp [hji]
    · rw [hall, hhost, returnSlot_hostFree, List.filter_congr fun j hj => by rw [hkept j hj], List.filter_cons]
      cases (s.slot i).flags.eccBad <;> by_cases ho : (s.slot i).owner = .host <;> simp [ho]
    · rw [hall, hlane, returnSlot_lane, List.filter_congr fun j hj => by rw [hkept j hj], List.filter_cons]
      cases (s.slot i).flags.eccBad <;> by_cases ho : (s.slot i).owner = .lane n <;> simp [ho]

end Sys2Proof.Proofs
end

section
/-! PROOFS. The slot commands (R63 to R69). -/

set_option Elab.async false

namespace Sys2Proof.Proofs

open Sys2Proof.Machine Sys2Proof.Safety Sys2Proof.Laws

/-! ## Parameters -/

theorem slotArg_eq (w : Word) (i : SlotId) : slotArg w = some i ↔ w.toNat = i.val := by
  unfold slotArg
  split
  next h => rw [Option.some.injEq, Fin.ext_iff]
  next h => simp only [reduceCtorEq, false_iff]; omega

theorem slotArg_none {w : Word} (h : 63 < w.toNat) : slotArg w = none := dif_neg (by omega)

theorem laneArg_none {w : Word} (h : 3 < w.toNat) : laneArg w = none := dif_neg (by omega)

/-- The owner that a parameter names (R64). -/
def ownerNamed (w : Word) : Owner := [.none, .lane 0, .lane 1, .lane 2, .lane 3, .host].getD w.toNat .none

theorem ownerOf_named (w : Word) :
    Owner.ofCode w.toNat = if ownerNamed w = .none then none else some (ownerNamed w) := by
  unfold ownerNamed
  generalize w.toNat = k
  match k with
  | 0 | 1 | 2 | 3 | 4 | 5 => rfl
  | k + 6 => rfl

/-- What the service of a command begins with leaves of a state: everything but the moment. -/
theorem record_frame (s : State) (e : CmdEntry) (res : Result) (v : Nat) (i : Option SlotId) :
    unchangedBut [.cmd, .log, .irq, .moment] s ((begun s).recordDone e res v i) :=
  frame_comp (begun_frame s) (recordDone_frame _ e res v i)

/-! ## SLOT_ASSIGN and SLOT_UNASSIGN (R64, R65) -/

/-- Some assigned slot's region meets the one given. -/
def overlapsAny (s : State) (base cap : Nat) : Prop :=
  ∃ j, (s.slot j).st ≠ .unassigned ∧ (s.slot j).base < base + cap ∧ base < (s.slot j).base + (s.slot j).capacity

theorem overlapsAny_iff (s : State) (base cap : Nat) :
    (slotList.any fun j => (s.slot j).assigned && (s.slot j).overlaps base cap) = true ↔ overlapsAny s base cap := by
  simp [overlapsAny, mem_slotList, Slot.assigned, Slot.overlaps]

theorem exec_slotAssign {s : State} {e : CmdEntry} (h : commandDue s e 0x01) :
    exec .slotAssign s = .next ((begun s).slotAssign e).causeDispatch.arbitrate :=
  exec_command h rfl rfl (fun t e hc => by rw [State.runCommand, hc]; rfl) (by decide)

/-- A SLOT_ASSIGN that fails a check. -/
theorem slotAssign_fails {s : State} {e : CmdEntry} {res : Result} (h : commandDue s e 0x01)
    (hf : s.slotAssignFails (slotArg e.arg0) (Owner.ofCode e.arg1.toNat) e.arg2.toNat e.arg3.toNat = some res) :
    ∃ r, exec .slotAssign s = .next r.arbitrate ∧ onlyCompletes s r e res (slotNamed e.arg0) := by
  refine only_completes (exec_slotAssign h) ?_
  have hbegun : (begun s).slotAssignFails (slotArg e.arg0) (Owner.ofCode e.arg1.toNat) e.arg2.toNat e.arg3.toNat = some res := hf
  simp only [State.slotAssign, hbegun]
  rfl

/-- The checks of SLOT_ASSIGN for a slot and an owner that its parameters name, with a region that R64 admits. -/
theorem slotAssignFails_region {s : State} {i : SlotId} {o : Owner} {base cap : Nat} (hl : s.port.lock = false)
    (hregion : ¬ (base % 64 ≠ 0 ∨ cap % 64 ≠ 0 ∨ cap < 64 ∨ 65536 < cap ∨ s.memWords < base + cap)) :
    ((s.slot i).st ≠ .unassigned → s.slotAssignFails (some i) (some o) base cap = some .badState) ∧
      ((s.slot i).st = .unassigned →
        (∀ n, o = .lane n → (s.lane n).cfg.dir ≠ .ingress → s.slotAssignFails (some i) (some o) base cap = some .badState) ∧
        (∀ n, o = .lane n → (s.lane n).cfg.dir = .ingress → 16 ≤ s.owned n →
          s.slotAssignFails (some i) (some o) base cap = some .full) ∧
        ((∀ n, o = .lane n → (s.lane n).cfg.dir = .ingress ∧ s.owned n < 16) →
          (overlapsAny s base cap → s.slotAssignFails (some i) (some o) base cap = some .overlap) ∧
          (¬ overlapsAny s base cap → s.slotAssignFails (some i) (some o) base cap = none))) := by
  have howned : Config.ownedSlots = 16 := rfl
  simp only [State.slotAssignFails, hl, Bool.false_eq_true, if_false, if_neg hregion, ← overlapsAny_iff, howned]
  generalize (slotList.any fun j => (s.slot j).assigned && (s.slot j).overlaps base cap) = met
  refine ⟨fun hst => if_pos hst, fun hst => ?_⟩
  simp only [hst, ne_eq, not_true_eq_false, if_false]
  cases o with
  | none | host => cases met <;> simp
  | lane n =>
    refine ⟨fun m hm hdir => ?_, fun m hm hdir hfull => ?_, fun hok => ?_⟩
    · cases hm; exact if_pos hdir
    · cases hm; simp [hdir, hfull]
    · obtain ⟨hdir, hroom⟩ := hok n rfl
      cases met <;> simp [hdir, hroom]

theorem slotAssignFails_param {s : State} {e : CmdEntry} (hl : s.port.lock = false)
    (hbad : 63 < e.arg0.toNat ∨ ownerNamed e.arg1 = .none ∨ e.arg2.toNat % 64 ≠ 0 ∨ e.arg3.toNat % 64 ≠ 0 ∨ e.arg3.toNat < 64 ∨
      65536 < e.arg3.toNat ∨ s.memWords < e.arg2.toNat + e.arg3.toNat) :
    s.slotAssignFails (slotArg e.arg0) (Owner.ofCode e.arg1.toNat) e.arg2.toNat e.arg3.toNat = some .badParam := by
  simp only [State.slotAssignFails, hl, Bool.false_eq_true, if_false, ownerOf_named]
  rcases hbad with hslot | howner | hregion
  · rw [slotArg_none hslot]
  · rw [if_pos howner]
    cases slotArg e.arg0 <;> rfl
  · cases slotArg e.arg0 <;> split <;> simp_all

/-- The slot that a SLOT_ASSIGN makes, before it joins its owner's list. -/
def assignedSlot (o : Owner) (base cap : Nat) : Slot := { Slot.unassigned with owner := o, base := base, capacity := cap }

/-- A SLOT_ASSIGN that passes its checks. -/
theorem slotAssign_passes {s : State} {e : CmdEntry} {i : SlotId} {o : Owner} (h : commandDue s e 0x01)
    (hi : slotArg e.arg0 = some i) (ho : Owner.ofCode e.arg1.toNat = some o)
    (hf : s.slotAssignFails (some i) (some o) e.arg2.toNat e.arg3.toNat = none) :
    ∃ r, exec .slotAssign s = .next r.arbitrate ∧ completes s r e .ok 0 (some i) [] ∧
      r.slot i = ⟨.free, o, e.arg2.toNat, e.arg3.toNat, 0, 0, 0, 0, SlotFlags.clear, none⟩ ∧ otherSlots i s r ∧
      joins i o s r ∧ unchangedBut [.cmd, .log, .irq, .moment, .slots, .hostFree, .lanes] s r := by
  have hrecord := record_frame s e .ok 0 (some i)
  have hfin := recordDone_finished (begun_frame s) e .ok 0 (some i)
  have hrun : (begun s).slotAssign e = ((((begun s).recordDone e .ok 0 (some i)).setSlot i
      (assignedSlot o e.arg2.toNat e.arg3.toNat)).joinFree i).tellOwners [i] := by
    have hbegun : (begun s).slotAssignFails (some i) (some o) e.arg2.toNat e.arg3.toNat = none := hf
    simp only [State.slotAssign, hi, ho, hbegun]
    rfl
  have hexec := exec_slotAssign h
  rw [hrun] at hexec
  generalize (begun s).recordDone e .ok 0 (some i) = t at *
  have hset := setSlot_frame t i (assignedSlot o e.arg2.toNat e.arg3.toNat)
  have hslot : (t.setSlot i (assignedSlot o e.arg2.toNat e.arg3.toNat)).slot i = assignedSlot o e.arg2.toNat e.arg3.toNat :=
    slot_setSlot_same t i _
  have hothers (j : SlotId) (hj : j ≠ i) : (t.setSlot i (assignedSlot o e.arg2.toNat e.arg3.toNat)).slot j = s.slot j := by
    rw [slot_setSlot_other t i j _ hj, frame_slot hrecord]
  generalize t.setSlot i (assignedSlot o e.arg2.toNat e.arg3.toNat) = u at *
  have hjoin := joinFree_frame u i
  have htell := tellOwners_frame (u.joinFree i) [i]
  have hcause := causeDispatch_frame ((u.joinFree i).tellOwners [i])
  have hbefore : unchangedBut [.cmd, .log, .irq, .moment, .slots] s u := frame_comp hrecord hset
  have hread (j : SlotId) : (((u.joinFree i).tellOwners [i]).causeDispatch).slot j = (u.joinFree i).slot j := by
    rw [frame_slot hcause, frame_slot htell]
  refine ⟨_, hexec, (((hfin.frame hset).frame hjoin).frame htell).completes, ?_, fun j hj => ?_, ?_, ?_⟩
  · rw [hread, joinFree_slot, if_pos rfl, hslot]; rfl
  · rw [hread, joinFree_slot, if_neg hj, hothers j hj]
  · have hjoins := joinFree_joins (i := i) (hbefore .hostFree (by decide)) fun m => frame_lane hbefore m
    rw [hslot] at hjoins
    exact joins_later hjoins (hcause .hostFree (by decide)) (hcause .lanes (by decide)) fun m hm => by
      rw [causeDispatch_outstanding, hm, Bool.or_true]
  · exact frame_comp (frame_comp (frame_comp (hs := [.cmd, .log, .irq, .moment, .slots, .hostFree, .lanes]) hbefore hjoin)
      (hs := [.cmd, .log, .irq, .moment, .slots, .hostFree, .lanes]) htell) hcause

theorem unlistFree_hostFree (s : State) (i : SlotId) : (s.unlistFree i).hostFree =
    if (s.slot i).owner = .host then s.hostFree.filter (· ≠ i) else s.hostFree := by
  cases ho : (s.slot i).owner <;> simp [State.unlistFree, ho, bne, beq_eq_decide]

theorem unlistFree_lane (s : State) (i : SlotId) (n : LaneId) : (s.unlistFree i).lane n =
    if (s.slot i).owner = .lane n then { s.lane n with freeList := (s.lane n).freeList.filter (· ≠ i) } else s.lane n := by
  cases ho : (s.slot i).owner with
  | none => simp [State.unlistFree, ho]
  | host => simp only [State.unlistFree, ho, reduceCtorEq, if_false]; rfl
  | lane m =>
    simp only [State.unlistFree, ho, lane_updLane, Owner.lane.injEq]
    by_cases hm : n = m
    · subst hm; simp [bne, beq_eq_decide]
    · simp [hm, Ne.symm hm]

theorem exec_slotUnassign {s : State} {e : CmdEntry} (h : commandDue s e 0x02) :
    exec .slotUnassign s = .next ((begun s).slotUnassign e).causeDispatch.arbitrate :=
  exec_command h rfl rfl (fun t e hc => by rw [State.runCommand, hc]; rfl) (by decide)

/-- A SLOT_UNASSIGN that fails a check. -/
theorem slotUnassign_fails {s : State} {e : CmdEntry} {res : Result} (h : commandDue s e 0x02)
    (hf : s.slotUnassignFails (slotArg e.arg0) = some res) :
    ∃ r, exec .slotUnassign s = .next r.arbitrate ∧ onlyCompletes s r e res (slotNamed e.arg0) := by
  refine only_completes (exec_slotUnassign h) ?_
  have hbegun : (begun s).slotUnassignFails (slotArg e.arg0) = some res := hf
  simp only [State.slotUnassign, hbegun]
  rfl

/-- A slot taken out of its owner's free list, if it stands there, and unassigned. -/
def slotFreed (t : State) (i : SlotId) : State :=
  (if (t.slot i).st = .free then t.unlistFree i else t).setSlot i Slot.unassigned

theorem slotFreed_frame (t : State) (i : SlotId) : unchangedBut [.slots, .hostFree, .lanes] t (slotFreed t i) := by
  unfold slotFreed
  split
  · exact frame_comp (unlistFree_frame t i) (setSlot_frame _ i _)
  · exact frame_mono (setSlot_frame t i _) (by decide)

theorem slotFreed_slot (t : State) (i j : SlotId) :
    (slotFreed t i).slot j = if j = i then Slot.unassigned else t.slot j := by
  have hbase : (if (t.slot i).st = .free then t.unlistFree i else t).slots = t.slots := by
    split
    · exact unlistFree_frame t i .slots (by decide)
    · rfl
  unfold slotFreed
  by_cases h : j = i
  · rw [if_pos h, h]; exact slot_setSlot_same _ _ _
  · rw [slot_setSlot_other _ _ _ _ h, slot_of_slots hbase, if_neg h]

theorem slotFreed_hostFree (t : State) (i : SlotId) : (slotFreed t i).hostFree =
    if (t.slot i).st = .free ∧ (t.slot i).owner = .host then t.hostFree.filter (· ≠ i) else t.hostFree := by
  rw [slotFreed, setSlot_hostFree]
  by_cases hf : (t.slot i).st = .free <;> simp [hf, unlistFree_hostFree]

theorem slotFreed_lane (t : State) (i : SlotId) (n : LaneId) : (slotFreed t i).lane n =
    if (t.slot i).st = .free ∧ (t.slot i).owner = .lane n then
      { t.lane n with freeList := (t.lane n).freeList.filter (· ≠ i) }
    else t.lane n := by
  rw [slotFreed, lane_setSlot]
  by_cases hf : (t.slot i).st = .free <;> simp [hf, unlistFree_lane]

/-- A SLOT_UNASSIGN that passes its checks. -/
theorem slotUnassign_passes {s : State} {e : CmdEntry} {i : SlotId} (h : commandDue s e 0x02) (hi : slotArg e.arg0 = some i)
    (hf : s.slotUnassignFails (some i) = none) :
    ∃ r, exec .slotUnassign s = .next r.arbitrate ∧ completes s r e .ok 0 (some i) [] ∧
      r.slot i = ⟨.unassigned, .none, 0, 0, 0, 0, 0, 0, SlotFlags.clear, none⟩ ∧ otherSlots i s r ∧
      r.hostFree =
        (if (s.slot i).st = .free ∧ (s.slot i).owner = .host then s.hostFree.filter (· ≠ i) else s.hostFree) ∧
      (∀ n, r.lane n =
        if (s.slot i).st = .free ∧ (s.slot i).owner = .lane n then
          { s.lane n with freeList := (s.lane n).freeList.filter (· ≠ i) }
        else s.lane n) ∧
      unchangedBut [.cmd, .log, .irq, .moment, .slots, .hostFree, .lanes] s r := by
  have hrecord := record_frame s e .ok 0 (some i)
  have hfin := recordDone_finished (begun_frame s) e .ok 0 (some i)
  have hrun : (begun s).slotUnassign e = slotFreed ((begun s).recordDone e .ok 0 (some i)) i := by
    have hbegun : (begun s).slotUnassignFails (some i) = none := hf
    simp only [State.slotUnassign, hi, hbegun]
    rfl
  have hexec := exec_slotUnassign h
  rw [hrun] at hexec
  generalize (begun s).recordDone e .ok 0 (some i) = t at *
  have hfreed := slotFreed_frame t i
  have hcause := causeDispatch_frame (slotFreed t i)
  refine ⟨_, hexec, (hfin.frame hfreed).completes, ?_, fun j hj => ?_, ?_, fun n => ?_, frame_comp (frame_comp
    (hs := [.cmd, .log, .irq, .moment, .slots, .hostFree, .lanes]) hrecord hfreed) hcause⟩
  · rw [frame_slot hcause, slotFreed_slot, if_pos rfl]; rfl
  · rw [frame_slot hcause, slotFreed_slot, if_neg hj, frame_slot hrecord]
  · rw [show (slotFreed t i).causeDispatch.hostFree = _ from hcause .hostFree (by decide), slotFreed_hostFree,
      frame_slot hrecord, show t.hostFree = s.hostFree from hrecord .hostFree (by decide)]
  · rw [frame_lane hcause, slotFreed_lane, frame_slot hrecord, frame_lane hrecord]

/-- Settles O33: the checks of both commands in their order, and the two rows that pass them. -/
theorem slotsAreAssignedAndUnassigned : Obligations.SlotsAreAssignedAndUnassigned := by
  unfold Obligations.SlotsAreAssignedAndUnassigned
  refine ⟨fun s e h => ⟨⟨fun hl => slotAssign_fails h ?_, fun hl hbad => slotAssign_fails h (slotAssignFails_param hl hbad)⟩,
    fun hl howner hbase hcap hmin hmax hsize i hi => ?_⟩,
    fun s e h => ⟨fun hl => slotUnassign_fails h ?_, fun hl hbig => ?_, fun hl i hi => ?_⟩⟩
  · simp only [State.slotAssignFails, hl, if_true]
  · have hslot := (slotArg_eq e.arg0 i).mpr hi
    have hcode : Owner.ofCode e.arg1.toNat = some (ownerNamed e.arg1) := by
      rw [ownerOf_named]; exact if_neg howner
    obtain ⟨hassigned, hfree⟩ := slotAssignFails_region (i := i) (o := ownerNamed e.arg1) (base := e.arg2.toNat)
      (cap := e.arg3.toNat) hl (by omega)
    have hrow {res : Result} (hf : s.slotAssignFails (some i) (some (ownerNamed e.arg1)) e.arg2.toNat e.arg3.toNat = some res) :
        ∃ r, exec .slotAssign s = .next r.arbitrate ∧ onlyCompletes s r e res (some i) := by
      have hrow := slotAssign_fails (res := res) h (by rw [hslot, hcode]; exact hf)
      rwa [show slotNamed e.arg0 = some i from hslot] at hrow
    intro overlap
    refine ⟨fun hst => hrow (hassigned hst), fun hst => ?_⟩
    obtain ⟨hdir, hfull, hmeets⟩ := hfree hst
    refine ⟨fun n hn hd => hrow (hdir n hn hd), fun n hn hd ho => hrow (hfull n hn hd ho), fun hok => ?_⟩
    obtain ⟨hoverlap, hpass⟩ := hmeets hok
    exact ⟨fun hov => hrow (hoverlap hov), fun hov => slotAssign_passes h hslot hcode (hpass hov)⟩
  · simp only [State.slotUnassignFails, hl, if_true]
  · have hnone := slotArg_none hbig
    have hrow := slotUnassign_fails (res := .badParam) h (by simp [State.slotUnassignFails, hl, hnone])
    rwa [show slotNamed e.arg0 = none from hnone] at hrow
  · have hslot := (slotArg_eq e.arg0 i).mpr hi
    refine ⟨fun hfree hquar => ?_, fun hst => slotUnassign_passes h hslot ?_⟩
    · have hrow := slotUnassign_fails (res := .badState) h (by simp [State.slotUnassignFails, hl, hslot, hfree, hquar])
      rwa [show slotNamed e.arg0 = some i from hslot] at hrow
    · simp [State.slotUnassignFails, hl, hst]

/-! ## CLAIM and ALLOC (R66, R67) -/

theorem boundTo_isSome (s : State) (n : LaneId) :
    (s.boundTo n).isSome = true ↔ ∃ m, (s.lane m).cfg.dir = .egress ∧ (s.lane m).binding = some n := by
  simp [State.boundTo, mem_laneList]

theorem exec_claim {s : State} {e : CmdEntry} (h : commandDue s e 0x03) :
    exec .claim s = .next ((begun s).claim e).causeDispatch.arbitrate :=
  exec_command h rfl rfl (fun t e hc => by rw [State.runCommand, hc]; rfl) (by decide)

/-- The head of a ready queue handed to the host. -/
def claimed (t : State) (n : LaneId) (i : SlotId) (rest : List SlotId) : State :=
  (t.updLane n fun l => { l with readyQ := rest }).updSlot i fun r => { r with st := .claimed }

theorem claimed_frame (t : State) (n : LaneId) (i : SlotId) (rest : List SlotId) :
    unchangedBut [.lanes, .slots] t (claimed t n i rest) :=
  frame_comp (updLane_frame t n _) (updSlot_frame _ i _)

theorem claim_passes {s : State} {e : CmdEntry} {n : LaneId} {i : SlotId} {rest : List SlotId} (h : commandDue s e 0x03)
    (hn : laneArg e.arg0 = some n) (hdir : (s.lane n).cfg.dir = .ingress) (hfree : (s.boundTo n).isSome = false)
    (hready : (s.lane n).readyQ = i :: rest) :
    ∃ r, exec .claim s = .next r.arbitrate ∧ completes s r e .ok i.val (some i) [] ∧
      r.slot i = { s.slot i with st := .claimed } ∧ otherSlots i s r ∧
      r.lane n = { s.lane n with readyQ := rest } ∧ otherLanes n s r ∧
      unchangedBut [.cmd, .log, .irq, .moment, .slots, .lanes] s r := by
  have hrecord := record_frame s e .ok i.val (some i)
  have hfin := recordDone_finished (begun_frame s) e .ok i.val (some i)
  have hrun : (begun s).claim e = claimed ((begun s).recordDone e .ok i.val (some i)) n i rest := by
    have hdir' : ((begun s).lane n).cfg.dir = .ingress := hdir
    have hfree' : ((begun s).boundTo n).isSome = false := hfree
    have hready' : ((begun s).lane n).readyQ = i :: rest := hready
    simp only [State.claim, hn, hdir', hfree', hready', ne_eq, not_true_eq_false, if_false, Bool.false_eq_true]
    rfl
  have hexec := exec_claim h
  rw [hrun] at hexec
  generalize (begun s).recordDone e .ok i.val (some i) = t at *
  have hclaim := claimed_frame t n i rest
  have hcause := causeDispatch_frame (claimed t n i rest)
  refine ⟨_, hexec, (hfin.frame hclaim).completes, ?_, fun j hj => ?_, ?_, fun m hm => ?_, frame_comp (frame_comp
    (hs := [.cmd, .log, .irq, .moment, .slots, .lanes]) hrecord hclaim) hcause⟩
  · rw [frame_slot hcause, claimed, slot_updSlot_same, slot_updLane, frame_slot hrecord]
  · rw [frame_slot hcause, claimed, slot_updSlot_other _ _ _ _ hj, slot_updLane, frame_slot hrecord]
  · rw [frame_lane hcause, claimed, lane_updSlot, lane_updLane_same, frame_lane hrecord]
  · rw [frame_lane hcause, claimed, lane_updSlot, lane_updLane_other _ _ _ _ hm, frame_lane hrecord]

theorem exec_alloc {s : State} {e : CmdEntry} (h : commandDue s e 0x04) :
    exec .alloc s = .next ((begun s).alloc e).causeDispatch.arbitrate :=
  exec_command h rfl rfl (fun t e hc => by rw [State.runCommand, hc]; rfl) (by decide)

/-- The head of the host free list handed to the host. -/
def allocated (t : State) (i : SlotId) (rest : List SlotId) : State :=
  State.updSlot { t with hostFree := rest } i fun r => { r.cleared with st := .claimed }

theorem allocated_frame (t : State) (i : SlotId) (rest : List SlotId) :
    unchangedBut [.hostFree, .slots] t (allocated t i rest) := by
  intro f hf; cases f <;> first | rfl | exact absurd (by decide) hf

theorem alloc_passes {s : State} {e : CmdEntry} {i : SlotId} {rest : List SlotId} (h : commandDue s e 0x04)
    (hhost : s.hostFree = i :: rest) :
    ∃ r, exec .alloc s = .next r.arbitrate ∧ completes s r e .ok i.val (some i) [] ∧ r.hostFree = rest ∧
      r.slot i = { s.slot i with
        st := .claimed, length := 0, seq := 0, repeats := 0, stamp := 0, flags := SlotFlags.clear
        stats := none } ∧
      otherSlots i s r ∧ unchangedBut [.cmd, .log, .irq, .moment, .slots, .hostFree] s r := by
  have hrecord := record_frame s e .ok i.val (some i)
  have hfin := recordDone_finished (begun_frame s) e .ok i.val (some i)
  have hrun : (begun s).alloc e = allocated ((begun s).recordDone e .ok i.val (some i)) i rest := by
    have hhost' : (begun s).hostFree = i :: rest := hhost
    simp only [State.alloc, hhost']
    rfl
  have hexec := exec_alloc h
  rw [hrun] at hexec
  generalize (begun s).recordDone e .ok i.val (some i) = t at *
  have halloc := allocated_frame t i rest
  have hcause := causeDispatch_frame (allocated t i rest)
  refine ⟨_, hexec, (hfin.frame halloc).completes, hcause .hostFree (by decide), ?_, fun j hj => ?_, frame_comp (frame_comp
    (hs := [.cmd, .log, .irq, .moment, .slots, .hostFree]) hrecord halloc) hcause⟩
  · rw [frame_slot hcause, allocated, slot_updSlot_same, ← frame_slot hrecord i]; rfl
  · rw [frame_slot hcause, allocated, slot_updSlot_other _ _ _ _ hj, ← frame_slot hrecord j]; rfl

/-- Settles O34: the checks of CLAIM in their order, and the heads of the two lists. -/
theorem claimAndAllocTakeTheHead : Obligations.ClaimAndAllocTakeTheHead := by
  unfold Obligations.ClaimAndAllocTakeTheHead
  refine ⟨fun s e h => ⟨fun hbig => only_completes (exec_claim h) ?_, fun n hn => ?_⟩,
    fun s e h => ⟨fun hempty => only_completes (exec_alloc h) ?_, fun i rest hhost => alloc_passes h hhost⟩⟩
  · simp only [State.claim, laneArg_none hbig]
  · have hlane := (laneArg_eq e.arg0 n).mpr hn
    simp only [← boundTo_isSome, Bool.not_eq_true]
    refine ⟨fun hdir => only_completes (exec_claim h) ?_, fun hdir hbound => only_completes (exec_claim h) ?_,
      fun hdir hfree hempty => only_completes (exec_claim h) ?_, fun i rest hdir hfree hready => claim_passes h hlane hdir hfree hready⟩
    · have hdir' : ((begun s).lane n).cfg.dir ≠ .ingress := hdir
      simp only [State.claim, hlane, if_pos hdir']
    · have hdir' : ((begun s).lane n).cfg.dir = .ingress := hdir
      have hbound' : ((begun s).boundTo n).isSome = true := hbound
      simp only [State.claim, hlane, hdir', hbound', ne_eq, not_true_eq_false, if_false, if_true]
    · have hdir' : ((begun s).lane n).cfg.dir = .ingress := hdir
      have hfree' : ((begun s).boundTo n).isSome = false := hfree
      have hempty' : ((begun s).lane n).readyQ = [] := hempty
      simp only [State.claim, hlane, hdir', hfree', hempty', ne_eq, not_true_eq_false, if_false, Bool.false_eq_true]
  · have hempty' : (begun s).hostFree = [] := hempty
    simp only [State.alloc, hempty']

/-! ## RELEASE (R68) -/

theorem exec_release {s : State} {e : CmdEntry} (h : commandDue s e 0x05) :
    exec .release s = .next ((begun s).release e).causeDispatch.arbitrate :=
  exec_command h rfl rfl (fun t e hc => by rw [State.runCommand, hc]; rfl) (by decide)

/-- A command whose last act is that a slot joins its owner's free list. -/
theorem completes_joining {s t u : State} {e : CmdEntry} {i : SlotId} {ex : Instr} {fs : List Field}
    (hexec : exec ex s = .next ((u.joinFree i).tellOwners [i]).causeDispatch.arbitrate)
    (hrecord : unchangedBut [.cmd, .log, .irq, .moment] s t) (hfin : Finished s e .ok 0 (some i) [] t)
    (hupd : unchangedBut fs t u) (hfs : fs ⊆ [.slots]) (hothers : ∀ j, j ≠ i → u.slot j = t.slot j) :
    ∃ r, exec ex s = .next r.arbitrate ∧ completes s r e .ok 0 (some i) [] ∧
      r.slot i = { u.slot i with st := .free } ∧ otherSlots i s r ∧ joins i (u.slot i).owner s r ∧
      unchangedBut [.cmd, .log, .irq, .moment, .slots, .hostFree, .lanes] s r := by
  have hupd := frame_mono hupd hfs
  have hjoin := joinFree_frame u i
  have htell := tellOwners_frame (u.joinFree i) [i]
  have hcause := causeDispatch_frame ((u.joinFree i).tellOwners [i])
  have hbefore : unchangedBut [.cmd, .log, .irq, .moment, .slots] s u := frame_comp hrecord hupd
  have hread (j : SlotId) : (((u.joinFree i).tellOwners [i]).causeDispatch).slot j = (u.joinFree i).slot j := by
    rw [frame_slot hcause, frame_slot htell]
  refine ⟨_, hexec, (((hfin.frame hupd).frame hjoin).frame htell).completes, ?_, fun j hj => ?_, ?_, ?_⟩
  · rw [hread, joinFree_slot, if_pos rfl]
  · rw [hread, joinFree_slot, if_neg hj, hothers j hj, frame_slot hrecord]
  · have hjoins := joinFree_joins (i := i) (hbefore .hostFree (by decide)) fun m => frame_lane hbefore m
    exact joins_later hjoins (hcause .hostFree (by decide)) (hcause .lanes (by decide)) fun m hm => by
      rw [causeDispatch_outstanding, hm, Bool.or_true]
  · exact frame_comp (frame_comp (frame_comp (hs := [.cmd, .log, .irq, .moment, .slots, .hostFree, .lanes]) hbefore hjoin)
      (hs := [.cmd, .log, .irq, .moment, .slots, .hostFree, .lanes]) htell) hcause

theorem release_claimed {s : State} {e : CmdEntry} {i : SlotId} (hi : slotArg e.arg0 = some i) (hst : (s.slot i).st = .claimed) :
    s.release e = ((s.recordDone e .ok 0 (some i)).returnSlot i).tellOwners [i] := by
  simp only [State.release, hi, hst]

theorem release_quarantined {s : State} {e : CmdEntry} {i : SlotId} (hi : slotArg e.arg0 = some i)
    (hst : (s.slot i).st = .quarantined) : s.release e =
      (((s.recordDone e .ok 0 (some i)).updSlot i fun r => { r with flags := SlotFlags.clear, stats := none }).joinFree
        i).tellOwners [i] := by
  simp only [State.release, hi, hst]

/-- Settles O35: a claimed slot is returned, and a quarantined one is cleared and joins its list. -/
theorem releaseReturnsTheSlot : Obligations.ReleaseReturnsTheSlot := by
  unfold Obligations.ReleaseReturnsTheSlot
  intro s e h
  refine ⟨fun hbig => only_completes (exec_release h) ?_, fun i hi => ?_⟩
  · simp only [State.release, slotArg_none hbig]
  have hslot := (slotArg_eq e.arg0 i).mpr hi
  have hrecord := record_frame s e .ok 0 (some i)
  have hfin := recordDone_finished (begun_frame s) e .ok 0 (some i)
  have hexec := exec_release h
  have hsame := frame_slot hrecord i
  refine ⟨fun hnc hnq => only_completes hexec ?_, fun hst hbad => ?_, fun hst hbad => ?_, fun hst => ?_⟩
  · have hnc' : ((begun s).slot i).st ≠ .claimed := hnc
    have hnq' : ((begun s).slot i).st ≠ .quarantined := hnq
    simp only [State.release, hslot]
  · rw [release_claimed (s := begun s) hslot hst] at hexec
    generalize (begun s).recordDone e .ok 0 (some i) = t at *
    rw [State.returnSlot, hsame, if_pos hbad] at hexec
    have hset := updSlot_frame t i fun r => { r with st := .quarantined }
    have hslots (j : SlotId) : (t.updSlot i fun r => { r with st := .quarantined }).slot j =
        if j = i then { s.slot i with st := .quarantined } else s.slot j := by
      rw [slot_updSlot, hsame, frame_slot hrecord]
    generalize (t.updSlot i fun r => { r with st := .quarantined }) = u at *
    have htell := tellOwners_frame u [i]
    have hcause := causeDispatch_frame (u.tellOwners [i])
    refine ⟨_, hexec, ((hfin.frame hset).frame htell).completes, ?_, fun j hj => ?_, frame_comp (frame_comp (frame_comp
      (hs := [.cmd, .log, .irq, .moment, .slots]) hrecord hset) (hs := [.cmd, .log, .irq, .moment, .slots]) htell) hcause⟩
    · rw [frame_slot hcause, frame_slot htell, hslots, if_pos rfl]
    · rw [frame_slot hcause, frame_slot htell, hslots, if_neg hj]
  · rw [release_claimed (s := begun s) hslot hst] at hexec
    generalize (begun s).recordDone e .ok 0 (some i) = t at *
    rw [State.returnSlot, hsame, hbad, if_neg (by decide)] at hexec
    have hrow := completes_joining hexec hrecord hfin (frame_refl [] t) (by decide) fun j _ => rfl
    rwa [hsame] at hrow
  · rw [release_quarantined (s := begun s) hslot hst] at hexec
    generalize (begun s).recordDone e .ok 0 (some i) = t at *
    have hrow := completes_joining hexec hrecord hfin (updSlot_frame t i _) (by decide) fun j hj => slot_updSlot_other _ _ _ _ hj
    rwa [slot_updSlot_same, hsame] at hrow

/-! ## SUBMIT (R69) -/

theorem exec_submit {s : State} {e : CmdEntry} (h : commandDue s e 0x06) :
    exec .submit s = .next ((begun s).submit e).causeDispatch.arbitrate :=
  exec_command h rfl rfl (fun t e hc => by rw [State.runCommand, hc]; rfl) (by decide)

theorem submit_fails {s : State} {e : CmdEntry} {i : SlotId} {res : Result} (h : commandDue s e 0x06)
    (hi : slotArg e.arg0 = some i) (hf : s.submitFails i (laneArg e.arg1) e.arg2.toNat = some res) :
    ∃ r, exec .submit s = .next r.arbitrate ∧ onlyCompletes s r e res (some i) := by
  refine only_completes (exec_submit h) ?_
  have hbegun : (begun s).submitFails i (laneArg e.arg1) e.arg2.toNat = some res := hf
  simp only [State.submit, hi, hbegun]

/-- A slot with its lane's submit queue after SUBMIT, before the lane notices it. -/
def submitted (t : State) (i : SlotId) (n : LaneId) (len : Nat) : State :=
  (t.updSlot i fun r => r.submitted len t.tb.count).updLane n fun l => { l with submitQ := l.submitQ ++ [i] }

theorem submitted_frame (t : State) (i : SlotId) (n : LaneId) (len : Nat) :
    unchangedBut [.slots, .lanes] t (submitted t i n len) :=
  frame_comp (updSlot_frame t i _) (updLane_frame _ n _)

theorem slotSubmitted_eq (r : Slot) (len : Nat) (now : Word) : r.submitted len now = { r with
    st := .ready, length := len
    stats := if len = r.length then r.stats else none
    stamp := if r.owner = .host then now else r.stamp
    flags := { r.flags with hostBuilt := r.flags.hostBuilt || r.owner == .host } } := by
  by_cases ho : r.owner = .host
  · simp [Slot.submitted, ho]
  · simp [Slot.submitted, ho, beq_false_of_ne ho]

theorem submit_passes {s : State} {e : CmdEntry} {i : SlotId} {n : LaneId} (h : commandDue s e 0x06)
    (hi : slotArg e.arg0 = some i) (hn : laneArg e.arg1 = some n)
    (hf : s.submitFails i (some n) e.arg2.toNat = none) :
    ∃ r, exec .submit s = .next r.arbitrate ∧ completes s r e .ok 0 (some i) [] ∧
      r.slot i = { s.slot i with
        st := .ready, length := e.arg2.toNat
        stats := if e.arg2.toNat = (s.slot i).length then (s.slot i).stats else none
        stamp := if (s.slot i).owner = .host then s.tb.count else (s.slot i).stamp
        flags := { (s.slot i).flags with
          hostBuilt := (s.slot i).flags.hostBuilt || (s.slot i).owner == .host } } ∧
      otherSlots i s r ∧
      r.lane n = takesAgain { s.lane n with submitQ := (s.lane n).submitQ ++ [i] } ∧ otherLanes n s r ∧
      (idleFreeRunner (s.lane n) = true → r.outstanding (.take n) = true) ∧
      unchangedBut [.cmd, .log, .irq, .moment, .slots, .lanes] s r := by
  have hrecord := record_frame s e .ok 0 (some i)
  have hfin := recordDone_finished (begun_frame s) e .ok 0 (some i)
  have hrun : (begun s).submit e = (submitted ((begun s).recordDone e .ok 0 (some i)) i n e.arg2.toNat).nudge n := by
    have hbegun : (begun s).submitFails i (some n) e.arg2.toNat = none := hf
    simp only [State.submit, hi, hn, hbegun]
    rfl
  have hexec := exec_submit h
  rw [hrun] at hexec
  generalize (begun s).recordDone e .ok 0 (some i) = t at *
  have hsub := submitted_frame t i n e.arg2.toNat
  have hslot (j : SlotId) : (submitted t i n e.arg2.toNat).slot j =
      if j = i then (s.slot i).submitted e.arg2.toNat s.tb.count else s.slot j := by
    rw [submitted, slot_updLane, slot_updSlot, frame_slot hrecord, frame_slot hrecord,
      show t.tb = s.tb from hrecord .tb (by decide)]
  have hlane (m : LaneId) : (submitted t i n e.arg2.toNat).lane m =
      if m = n then { s.lane n with submitQ := (s.lane n).submitQ ++ [i] } else s.lane m := by
    rw [submitted, lane_updLane, lane_updSlot, lane_updSlot, frame_lane hrecord, frame_lane hrecord]
  generalize submitted t i n e.arg2.toNat = u at *
  have hnudge := nudge_frame u n
  have hcause := causeDispatch_frame (u.nudge n)
  refine ⟨_, hexec, ((hfin.frame hsub).frame hnudge).completes, ?_, fun j hj => ?_, ?_, fun m hm => ?_, fun hidle => ?_,
    frame_comp (frame_comp (frame_comp (hs := [.cmd, .log, .irq, .moment, .slots, .lanes]) hrecord hsub)
      (hs := [.cmd, .log, .irq, .moment, .slots, .lanes]) hnudge) hcause⟩
  · rw [frame_slot hcause, frame_slot hnudge, hslot, if_pos rfl, slotSubmitted_eq]
  · rw [frame_slot hcause, frame_slot hnudge, hslot, if_neg hj]
  · rw [frame_lane hcause, nudge_lane, if_pos rfl, hlane, if_pos rfl]
  · rw [frame_lane hcause, nudge_lane, if_neg hm, hlane, if_neg hm]
  · have hu : idleFreeRunner (u.lane n) = true := by rw [hlane, if_pos rfl]; exact hidle
    rw [causeDispatch_outstanding, nudge_outstanding, hu]
    simp

/-- Settles O36: the checks of SUBMIT in their order, and the row that passes them. -/
theorem submitQueuesTheSlot : Obligations.SubmitQueuesTheSlot := by
  unfold Obligations.SubmitQueuesTheSlot
  intro s e h
  refine ⟨fun hbig => only_completes (exec_submit h) ?_, fun i hi => ?_⟩
  · simp only [State.submit, slotArg_none hbig]
  have hslot := (slotArg_eq e.arg0 i).mpr hi
  refine ⟨fun hst => submit_fails h hslot ?_, fun hst hbig => submit_fails h hslot ?_, fun hst n hn => ?_⟩
  · simp only [State.submitFails, ne_eq, hst, not_false_eq_true, if_true]
  · simp only [State.submitFails, hst, ne_eq, not_true_eq_false, if_false, laneArg_none hbig]
  have hlane := (laneArg_eq e.arg1 n).mpr hn
  have hchecks : s.submitFails i (some n) e.arg2.toNat =
      if (s.lane n).cfg.dir ≠ .egress ∨ e.arg2.toNat = 0 ∨ (s.slot i).capacity < e.arg2.toNat then some .badParam
      else if 8 ≤ (s.lane n).submitQ.length then some .full else none := by
    by_cases hdir : (s.lane n).cfg.dir = .egress <;> simp [State.submitFails, hst, hdir]; rfl
  intro bad
  refine ⟨fun hbad => submit_fails h hslot ?_, fun hgood hfull => submit_fails h hslot ?_, fun hgood hroom =>
    submit_passes h hslot hlane ?_⟩
  · rw [hlane, hchecks, if_pos hbad]
  · rw [hlane, hchecks, if_neg hgood, if_pos hfull]
  · rw [hchecks, if_neg hgood, if_neg (by omega)]

end Sys2Proof.Proofs
end

section
/-! PROOFS. The lane commands and BIND (R77 to R79, R94, R102, R114 to R116). -/

set_option Elab.async false

namespace Sys2Proof.Proofs

open Sys2Proof.Machine Sys2Proof.Safety Sys2Proof.Laws

/-! ## LANE_START (R77) -/

theorem exec_laneStart {s : State} {e : CmdEntry} (h : commandDue s e 0x10) :
    exec .laneStart s = .next ((begun s).laneStart e).causeDispatch.arbitrate :=
  exec_command h rfl rfl (fun t e hc => by rw [State.runCommand, hc]; rfl) (by decide)

theorem marksValid_iff (l : Lane) : l.marksValid = true ↔
    l.cfg.dir = .ingress ∧ 1 ≤ l.markLo ∧ l.markLo ≤ l.markHi ∧ l.markHi ≤ 32 ∨
      l.cfg.dir = .egress ∧ l.markHi ≤ l.markLo ∧ l.markLo ≤ 24 := by
  cases hdir : l.cfg.dir <;> simp [Lane.marksValid, hdir, and_assoc]

theorem laneStart_fails {s : State} {e : CmdEntry} {n : LaneId} {res : Result} (h : commandDue s e 0x10)
    (hn : laneArg e.arg0 = some n) (hf : s.laneStartFails n = some res) :
    ∃ r, exec .laneStart s = .next r.arbitrate ∧ onlyCompletes s r e res none := by
  refine only_completes (exec_laneStart h) ?_
  have hbegun : (begun s).laneStartFails n = some res := hf
  simp only [State.laneStart, hn, hbegun]

theorem laneStarted_eq (l : Lane) : l.started = { l with
    st := .running, sub := .idle, fifo := [], strayArmed := l.cfg.dir == .ingress || l.strayArmed } := by
  by_cases hdir : l.cfg.dir = .ingress
  · simp [Lane.started, hdir]
  · simp [Lane.started, hdir, beq_false_of_ne hdir]

theorem laneStart_passes {s : State} {e : CmdEntry} {n : LaneId} (h : commandDue s e 0x10)
    (hn : laneArg e.arg0 = some n) (hf : s.laneStartFails n = none) :
    ∃ r, exec .laneStart s = .next r.arbitrate ∧ completes s r e .ok 0 none [] ∧
      r.lane n = takesAgain { s.lane n with
        st := .running, sub := .idle, fifo := [], strayArmed := (s.lane n).cfg.dir == .ingress || (s.lane n).strayArmed } ∧
      ((s.lane n).cfg.dir = .egress → (s.lane n).cfg.triggered = false → r.outstanding (.take n) = true) ∧
      otherLanes n s r ∧ unchangedBut [.cmd, .log, .irq, .moment, .lanes] s r := by
  have hrecord := record_frame s e .ok 0 none
  have hfin := recordDone_finished (begun_frame s) e .ok 0 none
  have hrun : (begun s).laneStart e = (((begun s).recordDone e .ok 0 none).updLane n Lane.started).nudge n := by
    have hbegun : (begun s).laneStartFails n = none := hf
    simp only [State.laneStart, hn, hbegun]
  have hexec := exec_laneStart h
  rw [hrun] at hexec
  generalize (begun s).recordDone e .ok 0 none = t at *
  have hupd := updLane_frame t n Lane.started
  have hlane (m : LaneId) : (t.updLane n Lane.started).lane m = if m = n then (s.lane n).started else s.lane m := by
    rw [lane_updLane, frame_lane hrecord, frame_lane hrecord]
  generalize t.updLane n Lane.started = u at *
  have hnudge := nudge_frame u n
  have hcause := causeDispatch_frame (u.nudge n)
  refine ⟨_, hexec, ((hfin.frame hupd).frame hnudge).completes, ?_, fun hdir htrig => ?_, fun m hm => ?_,
    frame_comp (frame_comp (frame_comp (hs := [.cmd, .log, .irq, .moment, .lanes]) hrecord hupd)
      (hs := [.cmd, .log, .irq, .moment, .lanes]) hnudge) hcause⟩
  · rw [frame_lane hcause, nudge_lane, if_pos rfl, hlane, if_pos rfl, laneStarted_eq]
  · have hidle : idleFreeRunner (u.lane n) = true := by
      rw [hlane, if_pos rfl, idleFreeRunner_iff]
      exact ⟨hdir, htrig, rfl, rfl⟩
    rw [causeDispatch_outstanding, nudge_outstanding, hidle]
    simp
  · rw [frame_lane hcause, nudge_lane, if_neg hm, hlane, if_neg hm]

/-- Settles O37: the checks of LANE_START in their order, and the row that passes them. -/
theorem laneStartChecksAndRuns : Obligations.LaneStartChecksAndRuns := by
  unfold Obligations.LaneStartChecksAndRuns
  intro s e h
  refine ⟨fun hbig => only_completes (exec_laneStart h) ?_, fun n hn => ?_⟩
  · simp only [State.laneStart, laneArg_none hbig]
  have hlane := (laneArg_eq e.arg0 n).mpr hn
  have hchecks : s.laneStartFails n =
      if (s.lane n).st ≠ .stopped ∨ s.power ≠ .run then some .badState
      else if (s.lane n).marksValid = true ∧
          ((s.lane n).cfg.dir = .ingress → (s.lane n).cfg.inPolicy = .stall → (s.lane n).cfg.backpressure = true) then none
      else some .badConfig := by
    have hpolicy : ((s.lane n).cfg.dir = .ingress ∧ (s.lane n).cfg.inPolicy = .stall ∧ (s.lane n).cfg.backpressure = false) ↔
        ¬ ((s.lane n).cfg.dir = .ingress → (s.lane n).cfg.inPolicy = .stall → (s.lane n).cfg.backpressure = true) := by
      simp
    simp only [State.laneStartFails, hpolicy, ite_not]
    by_cases hst : (s.lane n).st = .stopped
    · by_cases hp : s.power = .run
      · cases (s.lane n).marksValid <;> simp only [hst, hp, ne_eq, not_true_eq_false, or_self, if_false, if_true,
          Bool.false_eq_true, Bool.true_eq_false, false_and, true_and]
      · simp [hp]
    · simp [hst]
  intro l marks policy
  have hmarks : (s.lane n).marksValid = true ↔ marks := marksValid_iff _
  refine ⟨fun hor => laneStart_fails h hlane ?_, fun hst hp hno => laneStart_fails h hlane ?_,
    fun hst hp hm hpol => laneStart_passes h hlane ?_⟩
  · rw [hchecks, if_pos hor]
  · rw [hchecks, if_neg (by simp only [not_or, not_not]; exact ⟨hst, hp⟩), if_neg fun hc => hno ⟨hmarks.mp hc.1, hc.2⟩]
  · rw [hchecks, if_neg (by simp only [not_or, not_not]; exact ⟨hst, hp⟩), if_pos ⟨hmarks.mpr hm, hpol⟩]

/-! ## Lanes entering STOPPED (R75) -/

theorem enterStopped_lane (s : State) (n m : LaneId) :
    (s.enterStopped n).lane m = if m = n then stoppedForm (s.lane n) else s.lane m :=
  lane_updLane s n m Lane.stoppedLane

theorem enterStopped_outstanding (s : State) (n : LaneId) (q : Req) :
    (s.enterStopped n).outstanding q = (q != .allocate n && (q != .take n && s.outstanding q)) := by
  rw [State.enterStopped, outstanding_withdraw, outstanding_withdraw, outstanding_congr (updLane_moment s n _)]

theorem raiseLane_lane (s : State) (n m : LaneId) (k : Kind) (i : Option SlotId) (d : Word) :
    (s.raiseLane n k i d).lane m = s.lane m := frame_lane (raiseLane_frame s n k i d) m

theorem raiseLane_outstanding (s : State) (n : LaneId) (k : Kind) (i : Option SlotId) (d : Word) (q : Req) :
    (s.raiseLane n k i d).outstanding q = s.outstanding q := frame_outstanding (raiseLane_frame s n k i d) q

theorem stopAtBoundary_lane (s : State) (n m : LaneId) :
    (s.stopAtBoundary n).lane m = if m = n then stoppedForm (s.lane n) else s.lane m := by
  rw [State.stopAtBoundary, raiseLane_lane, enterStopped_lane]

theorem stopAtBoundary_outstanding (s : State) (n : LaneId) (q : Req) :
    (s.stopAtBoundary n).outstanding q = (q != .allocate n && (q != .take n && s.outstanding q)) := by
  rw [State.stopAtBoundary, raiseLane_outstanding, enterStopped_outstanding]

theorem dropFrame_frame (s : State) (n : LaneId) (i : Option SlotId) (k : Nat) :
    unchangedBut [.lanes, .log, .irq] s (s.dropFrame n i k) :=
  frame_comp (count_frame s n _) (raiseLane_frame _ _ _ _ _)

/-- A lane with one frame more counted as dropped. -/
def withDrop (l : Lane) : Lane := { l with counters := { l.counters with dropped := plus l.counters.dropped 1 } }

theorem dropFrame_lane (s : State) (n m : LaneId) (i : Option SlotId) (k : Nat) :
    (s.dropFrame n i k).lane m = if m = n then withDrop (s.lane n) else s.lane m := by
  rw [State.dropFrame, raiseLane_lane, State.count, lane_updLane]; rfl

/-- A dropped frame's event behind those raised so far. -/
theorem Finished.dropFrame {s t : State} {e : CmdEntry} {res : Result} {value : Nat} {slot : Option SlotId} {more : List Event}
    (h : Finished s e res value slot more t) {n : LaneId} {i : Option SlotId} {k : Nat} (htb : t.tb = s.tb)
    (hseq : (t.lane n).frameSeq = (s.lane n).frameSeq) (hk : k < 65536) :
    Finished s e res value slot (more ++ [laneEvent s n .frameDropped i ((s.lane n).frameSeq.toNat + 65536 * k)])
      (t.dropFrame n i k) :=
  (h.frame (count_frame t n _)).raiseLane htb (by rw [hseq]; exact halves_eq (s.lane n).frameSeq.isLt hk)

/-- LANE_STOPPED behind the events raised so far. -/
theorem Finished.stopAtBoundary {s t : State} {e : CmdEntry} {res : Result} {value : Nat} {slot : Option SlotId}
    {more : List Event} (h : Finished s e res value slot more t) {n : LaneId} (htb : t.tb = s.tb) :
    Finished s e res value slot (more ++ [laneEvent s n .laneStopped none 0]) (t.stopAtBoundary n) :=
  (h.frame (enterStopped_frame t n)).raiseLane htb rfl

theorem withdrawn_take (n : LaneId) (b : Bool) : (Req.take n != .allocate n && (Req.take n != .take n && b)) = false := by
  simp

theorem withdrawn_allocate (n : LaneId) (b : Bool) :
    (Req.allocate n != .allocate n && (Req.allocate n != .take n && b)) = false := by
  simp

/-- The dispatch of the next command leaves a lane's requests alone. -/
theorem causeDispatch_other (t : State) {q : Req} (h : q ≠ .command) : t.causeDispatch.outstanding q = t.outstanding q := by
  rw [causeDispatch_outstanding, beq_false_of_ne h, Bool.and_false, Bool.false_or]

/-! ## LANE_STOP (R78, R114) -/

theorem beganWithoutSlot_iff (s : State) (n : LaneId) : s.beganWithoutSlot n = true ↔ begunNoSlot s n := by
  simp [State.beganWithoutSlot, begunNoSlot]

theorem exec_laneStop {s : State} {e : CmdEntry} (h : commandDue s e 0x11) :
    exec .laneStop s = .next ((begun s).laneStop e).causeDispatch.arbitrate :=
  exec_command h rfl rfl (fun t e hc => by rw [State.runCommand, hc]; rfl) (by decide)

theorem atBoundary_iff (l : Lane) : l.atBoundary = true ↔
    l.sub = .idle ∨ l.cfg.dir = .ingress ∧ l.sub = .stalled ∨ l.cfg.dir ≠ .ingress ∧ l.sub = .taking := by
  cases hdir : l.cfg.dir <;> simp [Lane.atBoundary, hdir]

theorem begunNoSlot_atBoundary {s : State} {n : LaneId} (h : begunNoSlot s n) : (s.lane n).atBoundary = true := by
  rw [atBoundary_iff]
  obtain ⟨hdir, ⟨hsub, _⟩ | hsub⟩ := h
  · exact .inl hsub
  · exact .inr (.inl ⟨hdir, hsub⟩)

theorem begun_begunNoSlot {s : State} {n : LaneId} {t : State} (hdue : s.nextDue = some (.req .command))
    (h : unchangedBut [.cmd, .log, .irq] (begun s) t) : begunNoSlot t n ↔ begunNoSlot s n := by
  have hlane : t.lane n = s.lane n := frame_lane h n
  have hout : t.outstanding (.allocate n) = s.outstanding (.allocate n) := by
    rw [frame_outstanding h, begun_outstanding (r := .allocate n) hdue nofun]
  rw [begunNoSlot, begunNoSlot, hlane, hout]

/-- A RUNNING lane that LANE_STOP stops. -/
theorem laneStop_running {s : State} {e : CmdEntry} {n : LaneId} (hn : laneArg e.arg0 = some n)
    (hst : (s.lane n).st = .running) : s.laneStop e = (s.recordDone e .ok 0 none).stopLane n := by
  simp only [State.laneStop, hn, hst]

/-- Settles O38: the lane's state at the dispatch decides. -/
theorem laneStopWaitsForTheBoundary : Obligations.LaneStopWaitsForTheBoundary := by
  unfold Obligations.LaneStopWaitsForTheBoundary
  intro s e h
  refine ⟨fun hbig => only_completes (exec_laneStop h) ?_, fun n hn => ?_⟩
  · simp only [State.laneStop, laneArg_none hbig]
  have hlane := (laneArg_eq e.arg0 n).mpr hn
  have hexec := exec_laneStop h
  intro l boundary
  have hboundary : (s.lane n).atBoundary = true ↔ boundary := atBoundary_iff _
  refine ⟨fun hst => only_completes hexec ?_, fun hst => only_completes hexec ?_, ?_⟩
  · have hst' : ((begun s).lane n).st = .off := hst
    simp only [State.laneStop, hlane, hst']
  · have hst' : ((begun s).lane n).st = .stopped ∨ ((begun s).lane n).st = .stopping := hst
    rcases hst' with hst' | hst' <;> simp only [State.laneStop, hlane, hst']
  have hrecord := record_frame s e .ok 0 none
  have hfin := recordDone_finished (begun_frame s) e .ok 0 none
  have hbegan := begun_begunNoSlot (n := n) h.1 (recordDone_frame (begun s) e .ok 0 none)
  have hrun (hst : (s.lane n).st = .running) : (begun s).laneStop e = ((begun s).recordDone e .ok 0 none).stopLane n :=
    laneStop_running hlane hst
  generalize (begun s).recordDone e .ok 0 none = t at *
  have hsame (m : LaneId) : t.lane m = s.lane m := frame_lane hrecord m
  have htb : t.tb = s.tb := hrecord .tb (by decide)
  refine ⟨fun hst hno => ?_, fun hst hat hnb => ?_, fun hst hb => ?_⟩
  · have hstop : t.stopLane n = t.updLane n fun l => { l with st := .stopping } := by
      rw [State.stopLane, hsame, if_neg (hboundary.not.mpr hno)]
    rw [hrun hst, hstop] at hexec
    have hupd := updLane_frame t n fun l => { l with st := .stopping }
    have hcause := causeDispatch_frame (t.updLane n fun l => { l with st := .stopping })
    refine ⟨_, hexec, (hfin.frame hupd).completes, ?_, fun m hm => ?_, frame_comp (frame_comp
      (hs := [.cmd, .log, .irq, .moment, .lanes]) hrecord hupd) hcause⟩
    · rw [frame_lane hcause, lane_updLane_same, hsame]
    · rw [frame_lane hcause, lane_updLane_other _ _ _ _ hm, hsame]
  · have hstop : t.stopLane n = t.stopAtBoundary n := by
      rw [State.stopLane, hsame, if_pos (hboundary.mpr hat), if_neg ((beganWithoutSlot_iff t n).not.mpr (hbegan.not.mpr hnb))]
    rw [hrun hst, hstop] at hexec
    have hb := stopAtBoundary_frame t n
    have hcause := causeDispatch_frame (t.stopAtBoundary n)
    refine ⟨_, hexec, (hfin.stopAtBoundary htb).completes, ?_, ?_, ?_, fun m hm => ?_, frame_comp (frame_comp
      (hs := [.cmd, .log, .irq, .moment, .lanes]) hrecord hb) hcause⟩
    · rw [frame_lane hcause, stopAtBoundary_lane, if_pos rfl, hsame]
    · rw [causeDispatch_other (q := .take n) _ nofun, stopAtBoundary_outstanding, withdrawn_take]
    · rw [causeDispatch_other (q := .allocate n) _ nofun, stopAtBoundary_outstanding, withdrawn_allocate]
    · rw [frame_lane hcause, stopAtBoundary_lane, if_neg hm, hsame]
  · have hat : (t.lane n).atBoundary = true := begunNoSlot_atBoundary (hbegan.mpr hb)
    have hstop : t.stopLane n = (t.dropFrame n none 3).stopAtBoundary n := by
      rw [State.stopLane, if_pos hat, if_pos ((beganWithoutSlot_iff t n).mpr (hbegan.mpr hb))]
    rw [hrun hst, hstop] at hexec
    have hdrop := dropFrame_frame t n none 3
    have hdropped := hfin.dropFrame (n := n) (i := none) (k := 3) htb (by rw [hsame]) (by decide)
    have hdlane (m : LaneId) : (t.dropFrame n none 3).lane m = if m = n then withDrop (s.lane n) else s.lane m := by
      rw [dropFrame_lane, hsame, hsame]
    have htb' : (t.dropFrame n none 3).tb = s.tb := (hdrop .tb (by decide)).trans htb
    generalize t.dropFrame n none 3 = u at *
    have hb := stopAtBoundary_frame u n
    have hcause := causeDispatch_frame (u.stopAtBoundary n)
    refine ⟨_, hexec, (hdropped.stopAtBoundary htb').completes, ?_, ?_, ?_, fun m hm => ?_,
      frame_comp (frame_comp (frame_comp (hs := [.cmd, .log, .irq, .moment, .lanes]) hrecord hdrop)
        (hs := [.cmd, .log, .irq, .moment, .lanes]) hb) hcause⟩
    · rw [frame_lane hcause, stopAtBoundary_lane, if_pos rfl, hdlane, if_pos rfl]; rfl
    · rw [causeDispatch_other (q := .take n) _ nofun, stopAtBoundary_outstanding, withdrawn_take]
    · rw [causeDispatch_other (q := .allocate n) _ nofun, stopAtBoundary_outstanding, withdrawn_allocate]
    · rw [frame_lane hcause, stopAtBoundary_lane, if_neg hm, hdlane, if_neg hm]

/-! ## LANE_HALT (R79, R115) -/

theorem wordsSent_eq (l : Lane) : l.wordsSent = wordsOut l := by
  cases hsub : l.sub <;> simp [Lane.wordsSent, wordsOut, hsub]

/-- The slot of a halted lane given back, the lane's frame counted as dropped where it is an ingress frame. -/
def haltReturned (t : State) (n : LaneId) (i : SlotId) : State :=
  let u := (t.returnSlot i).updLane n fun l => { l with cur := none }
  if (t.lane n).cfg.dir == .ingress then u.dropFrame n (some i) 2 else u

theorem haltLane_some {t : State} {n : LaneId} {i : SlotId} (hcur : (t.lane n).cur = some i) :
    t.haltLane n = (((haltReturned t n i).enterStopped n).raiseLane n .laneHalted (some i)
      (placed (if (t.lane n).cfg.dir == .ingress then (t.slot i).length else (t.lane n).wordsSent) 0)).tellOwners [i] := by
  simp only [State.haltLane, hcur]
  rfl

theorem haltReturned_frame (t : State) (n : LaneId) (i : SlotId) :
    unchangedBut [.slots, .lanes, .hostFree, .log, .irq] t (haltReturned t n i) := by
  have hreturn := frame_comp (hs := [.slots, .lanes, .hostFree]) (returnSlot_frame t i)
    (updLane_frame (t.returnSlot i) n fun l => { l with cur := none })
  simp only [haltReturned]
  split
  · exact frame_comp hreturn (dropFrame_frame _ _ _ _)
  · exact frame_mono hreturn (by decide)

theorem haltReturned_slot (t : State) (n : LaneId) (i j : SlotId) : (haltReturned t n i).slot j =
    if j = i then { t.slot i with st := if (t.slot i).flags.eccBad then .quarantined else .free } else t.slot j := by
  rw [← returnSlot_slot]
  simp only [haltReturned]
  split
  · rw [frame_slot (dropFrame_frame _ _ _ _), slot_updLane]
  · rw [slot_updLane]

theorem haltReturned_hostFree (t : State) (n : LaneId) (i : SlotId) : (haltReturned t n i).hostFree =
    if (t.slot i).flags.eccBad = false ∧ (t.slot i).owner = .host then t.hostFree ++ [i] else t.hostFree := by
  rw [← returnSlot_hostFree]
  simp only [haltReturned]
  split
  · exact dropFrame_frame _ _ _ _ .hostFree (by decide)
  · rfl

theorem haltReturned_lane (t : State) (n m : LaneId) (i : SlotId) : (haltReturned t n i).lane m =
    if m = n then
      if (t.lane n).cfg.dir = .ingress then withDrop { (t.returnSlot i).lane n with cur := none }
      else { (t.returnSlot i).lane n with cur := none }
    else (t.returnSlot i).lane m := by
  by_cases hdir : (t.lane n).cfg.dir = .ingress
  · simp only [haltReturned, hdir, beq_self_eq_true, if_true, dropFrame_lane, lane_updLane_same]
    by_cases hm : m = n
    · rw [if_pos hm, if_pos hm]
    · rw [if_neg hm, if_neg hm, lane_updLane_other _ _ _ _ hm]
  · simp only [haltReturned, beq_false_of_ne hdir, Bool.false_eq_true, if_false, hdir, lane_updLane]

/-- The events of a halt of a lane that holds a slot. -/
theorem Finished.givesBack {s t : State} {e : CmdEntry} {res : Result} {value : Nat} {slot : Option SlotId}
    (h : Finished s e res value slot [] t) {n : LaneId} {i : SlotId} (htb : t.tb = s.tb) (hlane : t.lane n = s.lane n) :
    Finished s e res value slot (if (s.lane n).cfg.dir = .ingress then
      [laneEvent s n .frameDropped (some i) ((s.lane n).frameSeq.toNat + 65536 * 2)] else []) (haltReturned t n i) := by
  have hreturn := frame_comp (hs := [.slots, .lanes, .hostFree]) (returnSlot_frame t i)
    (updLane_frame (t.returnSlot i) n fun l => { l with cur := none })
  have hupd := h.frame hreturn
  have hseq : (((t.returnSlot i).updLane n fun l => { l with cur := none }).lane n).frameSeq = (s.lane n).frameSeq := by
    rw [lane_updLane_same, returnSlot_lane, ← hlane]; split <;> rfl
  simp only [haltReturned, hlane]
  by_cases hdir : (s.lane n).cfg.dir = .ingress
  · rw [if_pos hdir, hdir, if_pos (by decide)]
    exact hupd.dropFrame ((hreturn .tb (by decide)).trans htb) hseq (by decide)
  · rw [if_neg hdir, beq_false_of_ne hdir, if_neg (by decide)]
    exact hupd

/-- What a halt leaves of a lane that holds a slot. -/
theorem haltLane_holding {s t : State} {e : CmdEntry} {n : LaneId} {i : SlotId} (hrecord : unchangedBut [.cmd, .log, .irq, .moment] s t)
    (hfin : Finished s e .ok 0 none [] t) (hcur : (s.lane n).cur = some i) :
    let l := s.lane n
    let r := (t.haltLane n).causeDispatch
    let gave := if (s.slot i).flags.eccBad then SlotSt.quarantined else .free
    completes s r e .ok 0 none ((if l.cfg.dir = .ingress then
        [laneEvent s n .frameDropped (some i) (l.frameSeq.toNat + 65536 * 2)] else []) ++
      [laneEvent s n .laneHalted (some i) (if l.cfg.dir = .ingress then (s.slot i).length else wordsOut l)]) ∧
    (∀ j, r.slot j = if j = i then { s.slot i with st := gave } else s.slot j) ∧
    (r.hostFree = if (s.slot i).flags.eccBad = false ∧ (s.slot i).owner = .host then s.hostFree ++ [i] else s.hostFree) ∧
    (∀ m, r.lane m =
      let back := if (s.slot i).flags.eccBad = false ∧ (s.slot i).owner = .lane m then (s.lane m).freeList ++ [i]
        else (s.lane m).freeList
      if m = n then
        if l.cfg.dir = .ingress then withDrop { stoppedForm l with cur := none, freeList := back }
        else { stoppedForm l with cur := none, freeList := back }
      else { s.lane m with freeList := back }) ∧
    (∀ m, m ≠ n → (s.slot i).flags.eccBad = false → (s.slot i).owner = .lane m → wakes m s r) ∧
    r.outstanding (.take n) = false ∧ r.outstanding (.allocate n) = false ∧
    unchangedBut [.cmd, .log, .irq, .moment, .lanes, .slots, .hostFree] s r := by
  intro l r gave
  have hsame (m : LaneId) : t.lane m = s.lane m := frame_lane hrecord m
  have hslot (j : SlotId) : t.slot j = s.slot j := frame_slot hrecord j
  have hhost : t.hostFree = s.hostFree := hrecord .hostFree (by decide)
  have htb : t.tb = s.tb := hrecord .tb (by decide)
  have hr : r = ((((haltReturned t n i).enterStopped n).raiseLane n .laneHalted (some i)
      (placed (if l.cfg.dir == .ingress then (s.slot i).length else l.wordsSent) 0)).tellOwners [i]).causeDispatch := by
    show (t.haltLane n).causeDispatch = _
    rw [haltLane_some (by rw [hsame]; exact hcur), hsame, hslot]
  have hdetail : placed (if l.cfg.dir == .ingress then (s.slot i).length else l.wordsSent) 0 =
      BitVec.ofNat 32 (if l.cfg.dir = .ingress then (s.slot i).length else wordsOut l) := by
    simp only [beq_iff_eq, wordsSent_eq]; rfl
  have hevents := hfin.givesBack (n := n) (i := i) htb (hsame n)
  have hreturned := haltReturned_frame t n i
  have hrslot (j : SlotId) : (haltReturned t n i).slot j = if j = i then { s.slot i with st := gave } else s.slot j := by
    rw [haltReturned_slot, hslot, hslot]
  have hrhost : (haltReturned t n i).hostFree =
      if (s.slot i).flags.eccBad = false ∧ (s.slot i).owner = .host then s.hostFree ++ [i] else s.hostFree := by
    rw [haltReturned_hostFree, hslot, hhost]
  have hrlane (m : LaneId) : (haltReturned t n i).lane m =
      let back := if (s.slot i).flags.eccBad = false ∧ (s.slot i).owner = .lane m then (s.lane m).freeList ++ [i]
        else (s.lane m).freeList
      if m = n then
        if l.cfg.dir = .ingress then withDrop { l with cur := none, freeList := back } else { l with cur := none, freeList := back }
      else { s.lane m with freeList := back } := by
    have hgiven (k : LaneId) : (t.returnSlot i).lane k = { s.lane k with
        freeList := if (s.slot i).flags.eccBad = false ∧ (s.slot i).owner = .lane k then (s.lane k).freeList ++ [i]
          else (s.lane k).freeList } := by
      rw [returnSlot_lane, hslot, hsame]; split <;> rfl
    rw [haltReturned_lane, hgiven, hgiven, hsame]
    by_cases hm : m = n
    · subst hm; rfl
    · rw [if_neg hm]; exact (if_neg hm).symm
  rw [hr]
  generalize haltReturned t n i = u at *
  have htbu : u.tb = s.tb := (hreturned .tb (by decide)).trans htb
  have hstop := enterStopped_frame u n
  have hhalted := (hevents.frame hstop).raiseLane (n := n) (kind := .laneHalted) (i := some i)
    ((hstop .tb (by decide)).trans htbu) hdetail
  have hraise := raiseLane_frame (u.enterStopped n) n .laneHalted (some i)
    (placed (if l.cfg.dir == .ingress then (s.slot i).length else l.wordsSent) 0)
  have hvlane (m : LaneId) : ((u.enterStopped n).raiseLane n .laneHalted (some i)
      (placed (if l.cfg.dir == .ingress then (s.slot i).length else l.wordsSent) 0)).lane m =
        if m = n then stoppedForm (u.lane n) else u.lane m := by
    rw [raiseLane_lane, enterStopped_lane]
  have hvout (q : Req) : ((u.enterStopped n).raiseLane n .laneHalted (some i)
      (placed (if l.cfg.dir == .ingress then (s.slot i).length else l.wordsSent) 0)).outstanding q =
        (q != .allocate n && (q != .take n && u.outstanding q)) := by
    rw [raiseLane_outstanding, enterStopped_outstanding]
  have hpart := frame_comp (hs := [.lanes, .moment, .log, .irq]) hstop hraise
  generalize (u.enterStopped n).raiseLane n .laneHalted (some i)
      (placed (if l.cfg.dir == .ingress then (s.slot i).length else l.wordsSent) 0) = v at *
  have htell := tellOwners_frame v [i]
  have hcause := causeDispatch_frame (v.tellOwners [i])
  have hrest := frame_comp (hs := [.moment]) htell hcause
  refine ⟨(hhalted.frame htell).completes, fun j => ?_, ?_, fun m => ?_, fun m hm hgood howner => ?_, ?_, ?_, ?_⟩
  · rw [frame_slot hrest, frame_slot hpart, hrslot]
  · rw [show (v.tellOwners [i]).causeDispatch.hostFree = v.hostFree from hrest .hostFree (by decide),
      show v.hostFree = u.hostFree from hpart .hostFree (by decide), hrhost]
  · rw [frame_lane hrest, hvlane]
    by_cases hm : m = n
    · subst hm
      rw [if_pos rfl, hrlane, if_pos rfl]
      simp only [if_true]
      split <;> rfl
    · rw [if_neg hm, hrlane]
      simp only [if_neg hm]
  · have hfree : (v.slot i).st = .free := by
      rw [frame_slot hpart, hrslot, if_pos rfl]; simp only [gave, hgood, Bool.false_eq_true, if_false]
    have hown : (v.slot i).owner = .lane m := by
      rw [frame_slot hpart, hrslot, if_pos rfl]; exact howner
    have hvm : v.lane m = u.lane m := by rw [hvlane, if_neg hm]
    have hum := hrlane m
    simp only [if_neg hm] at hum
    have hw : wakes m s (v.tellOwners [i]) :=
      tellOwners_wakes (List.mem_singleton_self i) hfree hown (by rw [hvm, hum]) (by rw [hvm, hum]) (by rw [hvm, hum])
    intro hdir hmoving hsub
    rw [causeDispatch_other (q := .allocate m) _ nofun]
    exact hw hdir hmoving hsub
  · rw [causeDispatch_other (q := .take n) _ nofun, tellOwners_other _ _ (q := .take n) nofun, hvout, withdrawn_take]
  · have hasleep : wakeable (v.lane n) = false := by
      rw [hvlane, if_pos rfl]; simp [wakeable, stoppedForm, Lane.moving]
    rw [causeDispatch_other (q := .allocate n) _ nofun, tellOwners_allocate, hasleep, hvout, withdrawn_allocate, Bool.and_false]
    rfl
  · exact frame_comp (frame_comp (frame_comp (hs := [.cmd, .log, .irq, .moment, .lanes, .slots, .hostFree]) hrecord hreturned)
      (hs := [.cmd, .log, .irq, .moment, .lanes, .slots, .hostFree]) hpart) hrest

theorem haltLane_none {t : State} {n : LaneId} (hcur : (t.lane n).cur = none) :
    t.haltLane n = ((if t.beganWithoutSlot n then t.dropFrame n none 2 else t).enterStopped n).raiseLane n .laneHalted none
      (placed (if (t.lane n).cfg.dir = .egress then (t.lane n).wordsSent else 0) 0) := by
  simp only [State.haltLane, hcur]

/-- What a halt leaves of a lane that holds no slot. -/
theorem haltLane_empty {s t : State} {e : CmdEntry} {n : LaneId} (hrecord : unchangedBut [.cmd, .log, .irq, .moment] s t)
    (hfin : Finished s e .ok 0 none [] t) (hcur : (s.lane n).cur = none) (hbegan : begunNoSlot t n ↔ begunNoSlot s n) :
    let l := s.lane n
    let r := (t.haltLane n).causeDispatch
    (begunNoSlot s n →
      completes s r e .ok 0 none
        [laneEvent s n .frameDropped none (l.frameSeq.toNat + 65536 * 2), laneEvent s n .laneHalted none 0] ∧
      r.lane n = withDrop (stoppedForm l)) ∧
    (¬ begunNoSlot s n →
      completes s r e .ok 0 none [laneEvent s n .laneHalted none (if l.cfg.dir = .egress then wordsOut l else 0)] ∧
      r.lane n = stoppedForm l) ∧
    otherLanes n s r ∧ r.outstanding (.take n) = false ∧ r.outstanding (.allocate n) = false ∧
    unchangedBut [.cmd, .log, .irq, .moment, .lanes] s r := by
  intro l r
  have hsame (m : LaneId) : t.lane m = s.lane m := frame_lane hrecord m
  have htb : t.tb = s.tb := hrecord .tb (by decide)
  have hr : r = (((if t.beganWithoutSlot n then t.dropFrame n none 2 else t).enterStopped n).raiseLane n .laneHalted none
      (placed (if l.cfg.dir = .egress then l.wordsSent else 0) 0)).causeDispatch := by
    show (t.haltLane n).causeDispatch = _
    rw [haltLane_none (by rw [hsame]; exact hcur), hsame]
  have hdetail : placed (if l.cfg.dir = .egress then l.wordsSent else 0) 0 =
      BitVec.ofNat 32 (if l.cfg.dir = .egress then wordsOut l else 0) := by
    rw [wordsSent_eq]; rfl
  have hbool : t.beganWithoutSlot n = true ↔ begunNoSlot s n := (beganWithoutSlot_iff t n).trans hbegan
  have hdrop : unchangedBut [.lanes, .log, .irq] t (if t.beganWithoutSlot n then t.dropFrame n none 2 else t) := by
    split
    · exact dropFrame_frame t n none 2
    · exact frame_refl _ t
  have hdropped (hb : begunNoSlot s n) : Finished s e .ok 0 none
      [laneEvent s n .frameDropped none (l.frameSeq.toNat + 65536 * 2)]
      (if t.beganWithoutSlot n then t.dropFrame n none 2 else t) := by
    rw [if_pos (hbool.mpr hb)]
    exact hfin.dropFrame htb (by rw [hsame]) (by decide)
  have hkept (hb : ¬ begunNoSlot s n) : Finished s e .ok 0 none []
      (if t.beganWithoutSlot n then t.dropFrame n none 2 else t) := by
    rw [if_neg (hbool.not.mpr hb)]; exact hfin
  have hlane (m : LaneId) : (if t.beganWithoutSlot n then t.dropFrame n none 2 else t).lane m =
      if m = n ∧ t.beganWithoutSlot n = true then withDrop (s.lane n) else s.lane m := by
    cases t.beganWithoutSlot n with
    | true => simp only [if_true, dropFrame_lane, hsame, and_true]
    | false => simp only [Bool.false_eq_true, if_false, hsame, and_false]
  rw [hr]
  generalize (if t.beganWithoutSlot n then t.dropFrame n none 2 else t) = u at *
  have hhalt {more : List Event} (h : Finished s e .ok 0 none more u) :=
    (h.frame (enterStopped_frame u n)).raiseLane (n := n) (kind := .laneHalted) (i := none)
      ((enterStopped_frame u n .tb (by decide)).trans ((hdrop .tb (by decide)).trans htb)) hdetail
  have hpart := frame_comp (hs := [.lanes, .moment, .log, .irq]) (enterStopped_frame u n)
    (raiseLane_frame (u.enterStopped n) n .laneHalted none (placed (if l.cfg.dir = .egress then l.wordsSent else 0) 0))
  have hvlane (m : LaneId) : ((u.enterStopped n).raiseLane n .laneHalted none
      (placed (if l.cfg.dir = .egress then l.wordsSent else 0) 0)).lane m = if m = n then stoppedForm (u.lane n) else u.lane m := by
    rw [raiseLane_lane, enterStopped_lane]
  have hvout (q : Req) : ((u.enterStopped n).raiseLane n .laneHalted none
      (placed (if l.cfg.dir = .egress then l.wordsSent else 0) 0)).outstanding q =
        (q != .allocate n && (q != .take n && u.outstanding q)) := by
    rw [raiseLane_outstanding, enterStopped_outstanding]
  generalize (u.enterStopped n).raiseLane n .laneHalted none
      (placed (if l.cfg.dir = .egress then l.wordsSent else 0) 0) = v at *
  have hcause := causeDispatch_frame v
  refine ⟨fun hb => ⟨?_, ?_⟩, fun hb => ⟨(hhalt (hkept hb)).completes, ?_⟩, fun m hm => ?_, ?_, ?_,
    frame_comp (frame_comp (frame_comp (hs := [.cmd, .log, .irq, .moment, .lanes]) hrecord hdrop)
      (hs := [.cmd, .log, .irq, .moment, .lanes]) hpart) hcause⟩
  · have hnot : l.cfg.dir ≠ .egress := by
      rw [show l.cfg.dir = .ingress from hb.1]; exact nofun
    have hdone := (hhalt (hdropped hb)).completes
    rwa [if_neg hnot] at hdone
  · rw [frame_lane hcause, hvlane, if_pos rfl, hlane, if_pos ⟨rfl, hbool.mpr hb⟩]; rfl
  · rw [frame_lane hcause, hvlane, if_pos rfl, hlane, if_neg fun hc => hb (hbool.mp hc.2)]
  · rw [frame_lane hcause, hvlane, if_neg hm, hlane, if_neg fun hc => hm hc.1]
  · rw [causeDispatch_other (q := .take n) _ nofun, hvout, withdrawn_take]
  · rw [causeDispatch_other (q := .allocate n) _ nofun, hvout, withdrawn_allocate]

/-- What a halt does, whatever the lane holds. -/
theorem haltLane_halts {s t : State} {e : CmdEntry} {n : LaneId} (hrecord : unchangedBut [.cmd, .log, .irq, .moment] s t)
    (hfin : Finished s e .ok 0 none [] t) (hbegan : begunNoSlot t n ↔ begunNoSlot s n) :
    halts s (t.haltLane n).causeDispatch e n := by
  cases hcur : (s.lane n).cur with
  | none =>
    obtain ⟨hb, hnb, hothers, htake, halloc, hframe⟩ := haltLane_empty hrecord hfin hcur hbegan
    refine ⟨fun i hi => absurd (hcur.symm.trans hi) nofun, fun i hi => absurd (hcur.symm.trans hi) nofun,
      fun i m hi => absurd (hcur.symm.trans hi) nofun, fun _ h => ?_, fun _ h => ?_, htake, halloc,
      frame_mono hframe (by decide)⟩
    · obtain ⟨hdone, hlane⟩ := hb h
      exact ⟨hdone, hlane, hothers, hframe .slots (by decide), hframe .hostFree (by decide)⟩
    · obtain ⟨hdone, hlane⟩ := hnb h
      exact ⟨hdone, hlane, hothers, hframe .slots (by decide), hframe .hostFree (by decide)⟩
  | some i =>
    obtain ⟨hdone, hslots, hhost, hlanes, hwakes, htake, halloc, hframe⟩ := haltLane_holding hrecord hfin hcur
    refine ⟨fun j hj hdir howner => ?_, fun j hj hdir howner => ?_, fun j m hj hdir howner hm => ?_,
      fun h => absurd (hcur.symm.trans h) nofun, fun h => absurd (hcur.symm.trans h) nofun, htake, halloc, hframe⟩
    all_goals cases hcur.symm.trans hj
    · rw [if_pos hdir, if_pos hdir] at hdone
      refine ⟨hdone, by rw [hslots, if_pos rfl], fun k hk => by rw [hslots, if_neg hk], ?_, fun k hk => ?_, ?_⟩
      · rw [hlanes, howner]
        cases (s.slot i).flags.eccBad <;> simp [hdir, withDrop, stoppedForm]
      · rw [hlanes, howner]
        simp [hk, Ne.symm hk]
      · rw [hhost, howner]; simp
    · rw [if_neg (by rw [hdir]; exact nofun), if_neg (by rw [hdir]; exact nofun)] at hdone
      refine ⟨hdone, by rw [hslots, if_pos rfl], fun k hk => by rw [hslots, if_neg hk], ?_, fun k hk => ?_, ?_⟩
      · rw [hlanes, howner]
        simp [hdir, stoppedForm]
      · rw [hlanes, howner]
        simp [hk]
      · rw [hhost, howner]; cases (s.slot i).flags.eccBad <;> simp
    · rw [if_neg (by rw [hdir]; exact nofun), if_neg (by rw [hdir]; exact nofun)] at hdone
      refine ⟨hdone, by rw [hslots, if_pos rfl], fun k hk => by rw [hslots, if_neg hk], ?_, ?_, fun k hk hkm => ?_, ?_,
        fun hgood => hwakes m hm hgood howner⟩
      · rw [hlanes, howner]
        simp [hdir, stoppedForm, hm]
      · rw [hlanes, howner]
        cases (s.slot i).flags.eccBad <;> simp [hm]
      · rw [hlanes, howner]
        simp [hk, Ne.symm hkm]
      · rw [hhost, howner]; simp

theorem runCommand_laneHalt (t : State) (e : CmdEntry) (hc : e.code = 0x12) : t.runCommand e = t.laneHalt e := by
  rw [State.runCommand, hc]; rfl

/-- The service of a head command that is deferred, or that may be. -/
theorem serveCommand_head {t : State} {e : CmdEntry} {rest : List CmdEntry} (hq : t.cmd.queue = e :: rest) :
    t.serveCommand =
      if t.cmd.haltDeferred then (State.laneHalt { t with cmd := { t.cmd with haltDeferred := false } } e).causeDispatch
      else if t.dispatchable = false then t
      else if t.mustDefer e then { t with cmd := { t.cmd with haltDeferred := true } }
      else (t.runCommand e).causeDispatch := by
  unfold State.serveCommand
  split
  next h => exact absurd (hq.symm.trans h) nofun
  next h => cases hq.symm.trans h; rfl

theorem laneGranted_iff (s : State) (n : LaneId) :
    s.laneGranted n = true ↔ ∃ g, s.arb.grant = some g ∧ (g.who = .ingress n ∨ g.who = .egress n) := by
  unfold State.laneGranted
  cases s.arb.grant <;> simp

/-- A LANE_HALT whose lane holds no grant. -/
theorem exec_laneHalt {s : State} {e : CmdEntry} (h : commandDue s e 0x12) (hd : s.mustDefer e = false) :
    exec .laneHalt s = .next ((begun s).laneHalt e).causeDispatch.arbitrate := by
  have hi : exec .laneHalt s = .next (s.commandRow (· == 0x12)) := rfl
  rw [hi, commandRow_due h _ rfl, serveCommand_due h hd, runCommand_laneHalt _ _ h.2.2.2]

theorem laneHalt_moving {s : State} {e : CmdEntry} {n : LaneId} (hn : laneArg e.arg0 = some n)
    (hm : (s.lane n).moving = true) : s.laneHalt e = (s.recordDone e .ok 0 none).haltLane n := by
  cases hst : (s.lane n).st with
  | off | stopped => simp [Lane.moving, hst] at hm
  | running | stopping => simp only [State.laneHalt, hn, hst]

/-- Settles O39: the lane's state and grant at the dispatch decide, and the operation at the grant's end is the same halt. -/
theorem laneHaltStopsAtOnce : Obligations.LaneHaltStopsAtOnce := by
  unfold Obligations.LaneHaltStopsAtOnce
  refine ⟨fun s e h => ⟨fun hbig => ?_, fun n hn => ?_⟩, fun s e n hdue hwait hhead hn hm => ?_⟩
  · have hnone := laneArg_none hbig
    refine only_completes (exec_laneHalt h (by simp [State.mustDefer, hnone])) ?_
    simp only [State.laneHalt, hnone]
  · have hlane := (laneArg_eq e.arg0 n).mpr hn
    have hdefer : s.mustDefer e = s.laneGranted n := by
      simp [State.mustDefer, h.2.2.2, hlane]
    intro granted
    have hgranted : s.mustDefer e = true ↔ granted := by rw [hdefer]; exact laneGranted_iff s n
    have hrow (hno : ¬ granted) := exec_laneHalt h (Bool.not_eq_true _ ▸ hgranted.not.mpr hno)
    refine ⟨fun hno hst => only_completes (hrow hno) ?_, fun hno hst => only_completes (hrow hno) ?_, fun hno hm => ?_,
      fun hyes => ?_⟩
    · have hst' : ((begun s).lane n).st = .off := hst
      simp only [State.laneHalt, hlane, hst']
    · have hst' : ((begun s).lane n).st = .stopped := hst
      simp only [State.laneHalt, hlane, hst']
    · have hexec := hrow hno
      rw [laneHalt_moving (s := begun s) hlane hm] at hexec
      exact ⟨_, hexec, haltLane_halts (record_frame s e .ok 0 none) (recordDone_finished (begun_frame s) e .ok 0 none)
        (begun_begunNoSlot h.1 (recordDone_frame (begun s) e .ok 0 none))⟩
    · have hexec : exec .laneHalt s = .next ((begun s).serveCommand).arbitrate :=
        congrArg Host.Outcome.next (commandRow_due h _ rfl)
      obtain ⟨hdue, hdispatch, hhead, _⟩ := h
      have hidle := ((dispatchable_iff s).mp hdispatch).2.2.1
      obtain ⟨rest, hqueue⟩ : ∃ rest, s.cmd.queue = e :: rest := List.head?_eq_some_iff.mp hhead
      have hserve : (begun s).serveCommand = { begun s with cmd := { s.cmd with haltDeferred := true } } := by
        have hq : (begun s).cmd.queue = e :: rest := hqueue
        have hi : (begun s).cmd.haltDeferred = false := hidle
        have hd : (begun s).dispatchable = true := hdispatch
        have hw : (begun s).mustDefer e = true := hgranted.mpr hyes
        rw [serveCommand_head hq, hi, if_neg (by decide), hd, if_neg (by decide), hw, if_pos rfl]
        rfl
      rw [hserve] at hexec
      exact ⟨_, hexec, rfl, by intro f hf; cases f <;> first | rfl | exact absurd (by decide) hf⟩
  · have hlane := (laneArg_eq e.arg0 n).mpr hn
    obtain ⟨rest, hqueue⟩ : ∃ rest, s.cmd.queue = e :: rest := List.head?_eq_some_iff.mp hhead
    let p : State := { s with cmd := { s.cmd with haltDeferred := false } }
    have hserve : (begun s).serveCommand = ((begun p).laneHalt e).causeDispatch := by
      have hq : (begun s).cmd.queue = e :: rest := hqueue
      have hw : (begun s).cmd.haltDeferred = true := hwait
      rw [serveCommand_head hq, if_pos hw]
      rfl
    have hexec : exec .haltAtGrantEnd s = .next ((begun s).serveCommand).arbitrate := by
      show Host.Outcome.next (if s.cmd.haltDeferred then s.serviceRow (.req .command) else s) = _
      rw [if_pos hwait, serviceRow_req hdue]; rfl
    rw [hserve, laneHalt_moving (s := begun p) hlane hm] at hexec
    have hbegan : begunNoSlot ((begun p).recordDone e .ok 0 none) n ↔ begunNoSlot p n := by
      have hframe := recordDone_frame (begun p) e .ok 0 none
      have hout : ((begun p).recordDone e .ok 0 none).outstanding (.allocate n) = p.outstanding (.allocate n) := by
        rw [frame_outstanding hframe]
        exact begun_outstanding (r := .allocate n) hdue nofun
      rw [begunNoSlot, begunNoSlot, frame_lane hframe, hout]; rfl
    exact ⟨_, hexec, haltLane_halts (record_frame p e .ok 0 none) (recordDone_finished (begun_frame p) e .ok 0 none) hbegan⟩

end Sys2Proof.Proofs
end

section
/-! PROOFS. LANE_FLUSH and BIND (R70, R94, R102, R116). -/

set_option Elab.async false

namespace Sys2Proof.Proofs

open Sys2Proof.Machine Sys2Proof.Safety Sys2Proof.Laws

/-! ## LANE_FLUSH -/

theorem exec_laneFlush {s : State} {e : CmdEntry} (h : commandDue s e 0x13) :
    exec .laneFlush s = .next ((begun s).laneFlush e).causeDispatch.arbitrate :=
  exec_command h rfl rfl (fun t e hc => by rw [State.runCommand, hc]; rfl) (by decide)

/-- The slots that a flush of the lane returns. -/
def flushedSlots (l : Lane) : List SlotId := if l.cfg.dir = .ingress then l.readyQ else l.submitQ ++ l.linger.toList

theorem flushed_eq (l : Lane) : l.flushed = flushedSlots l := by
  cases hdir : l.cfg.dir <;> simp [Lane.flushed, flushedSlots, hdir]

theorem emptied_eq (l : Lane) : l.emptied = { l with
    readyQ := if l.cfg.dir = .ingress then [] else l.readyQ
    submitQ := if l.cfg.dir ≠ .ingress then [] else l.submitQ
    linger := if l.cfg.dir ≠ .ingress then none else l.linger } := by
  cases hdir : l.cfg.dir <;> simp [Lane.emptied, hdir]

theorem laneFlush_stopped {t : State} {e : CmdEntry} {n : LaneId} (hn : laneArg e.arg0 = some n)
    (hst : (t.lane n).st = .stopped) : t.laneFlush e =
      (((t.recordDone e .ok 0 none).updLane n Lane.emptied).returnAll (flushedSlots (t.lane n))).tellOwners
        (flushedSlots (t.lane n)) := by
  simp only [State.laneFlush, hn, hst, ne_eq, not_true_eq_false, if_false, flushed_eq]

theorem laneFlush_passes {s : State} {e : CmdEntry} {n : LaneId} (h : commandDue s e 0x13) (hn : laneArg e.arg0 = some n)
    (hst : (s.lane n).st = .stopped) (hnd : (flushedSlots (s.lane n)).Nodup) :
    let l := s.lane n
    let gone := flushedSlots l
    ∃ r, exec .laneFlush s = .next r.arbitrate ∧ completes s r e .ok 0 none [] ∧
      (∀ i, r.slot i =
        if i ∈ gone then { s.slot i with st := if (s.slot i).flags.eccBad then .quarantined else .free }
        else s.slot i) ∧
      r.hostFree = s.hostFree ++
        gone.filter (fun i => !(s.slot i).flags.eccBad && (s.slot i).owner == .host) ∧
      (∀ m, r.lane m = { s.lane m with
        freeList := (s.lane m).freeList ++
          gone.filter (fun i => !(s.slot i).flags.eccBad && (s.slot i).owner == .lane m)
        readyQ := if m = n ∧ l.cfg.dir = .ingress then [] else (s.lane m).readyQ
        submitQ := if m = n ∧ l.cfg.dir ≠ .ingress then [] else (s.lane m).submitQ
        linger := if m = n ∧ l.cfg.dir ≠ .ingress then none else (s.lane m).linger }) ∧
      (∀ i m, i ∈ gone → (s.slot i).flags.eccBad = false → (s.slot i).owner = .lane m → wakes m s r) ∧
      unchangedBut [.cmd, .log, .irq, .moment, .slots, .hostFree, .lanes] s r := by
  intro l gone
  have hrecord := record_frame s e .ok 0 none
  have hfin := recordDone_finished (begun_frame s) e .ok 0 none
  have hexec := exec_laneFlush h
  rw [laneFlush_stopped (t := begun s) hn hst, show flushedSlots ((begun s).lane n) = gone from rfl] at hexec
  generalize (begun s).recordDone e .ok 0 none = t at *
  have hupd := updLane_frame t n Lane.emptied
  have hlane (m : LaneId) : (t.updLane n Lane.emptied).lane m = { s.lane m with
      readyQ := if m = n ∧ l.cfg.dir = .ingress then [] else (s.lane m).readyQ
      submitQ := if m = n ∧ l.cfg.dir ≠ .ingress then [] else (s.lane m).submitQ
      linger := if m = n ∧ l.cfg.dir ≠ .ingress then none else (s.lane m).linger } := by
    rw [lane_updLane, frame_lane hrecord, frame_lane hrecord]
    by_cases hm : m = n
    · subst hm; simp only [if_true, emptied_eq, true_and]; rfl
    · simp only [hm, if_false, false_and]
  have hbefore : unchangedBut [.cmd, .log, .irq, .moment, .lanes] s (t.updLane n Lane.emptied) := frame_comp hrecord hupd
  have hfin := hfin.frame hupd
  generalize t.updLane n Lane.emptied = u at *
  obtain ⟨hslots, hhost, hlanes⟩ := returnAll_spec gone hnd u
  have hback := returnAll_frame u gone
  have hslot (i : SlotId) : u.slot i = s.slot i := frame_slot hbefore i
  simp only [hslot, hlane, show u.hostFree = s.hostFree from hbefore .hostFree (by decide)] at hslots hhost hlanes
  have hfin := hfin.frame hback
  generalize u.returnAll gone = v at *
  have htell := tellOwners_frame v gone
  have hcause := causeDispatch_frame (v.tellOwners gone)
  have hrest := frame_comp (hs := [.moment]) htell hcause
  refine ⟨_, hexec, (hfin.frame htell).completes, fun i => ?_, ?_, fun m => ?_, fun i m hi hgood howner => ?_,
    frame_comp (frame_comp (hs := [.cmd, .log, .irq, .moment, .slots, .hostFree, .lanes]) hbefore hback) hrest⟩
  · rw [frame_slot hrest, hslots]
  · rw [show (v.tellOwners gone).causeDispatch.hostFree = v.hostFree from hrest .hostFree (by decide), hhost]
  · rw [frame_lane hrest, hlanes]
  · have hfree : (v.slot i).st = .free := by rw [hslots, if_pos hi, hgood]; rfl
    have hown : (v.slot i).owner = .lane m := by rw [hslots, if_pos hi]; exact howner
    have hw : wakes m s (v.tellOwners gone) :=
      tellOwners_wakes hi hfree hown (by rw [hlanes]) (by rw [hlanes]) (by rw [hlanes])
    intro hdir hmoving hsub
    rw [causeDispatch_other (q := .allocate m) _ nofun]
    exact hw hdir hmoving hsub

/-! ## BIND -/

theorem exec_bind {s : State} {e : CmdEntry} (h : commandDue s e 0x14) :
    exec .bind s = .next ((begun s).bindLane e).causeDispatch.arbitrate :=
  exec_command h rfl rfl (fun t e hc => by rw [State.runCommand, hc]; rfl) (by decide)

theorem bind_fails {s : State} {e : CmdEntry} {n : LaneId} {res : Result} (h : commandDue s e 0x14)
    (hn : laneArg e.arg0 = some n) (hf : s.bindFails n (bindTarget e.arg1) = some res) :
    ∃ r, exec .bind s = .next r.arbitrate ∧ onlyCompletes s r e res none := by
  refine only_completes (exec_bind h) ?_
  have hbegun : (begun s).bindFails n (bindTarget e.arg1) = some res := hf
  simp only [State.bindLane, hn, hbegun]

/-- The lane that a BIND names as its target, or none. -/
def bindNamed (w : Word) : Option LaneId := if h : w.toNat < 4 then some ⟨w.toNat, h⟩ else none

theorem bindTarget_eq (w : Word) : bindTarget w = if w.toNat ≤ 4 then some (bindNamed w) else none := by
  unfold bindTarget bindNamed laneArg
  by_cases h4 : w.toNat = 4
  · simp [h4]
  · by_cases hlt : w.toNat < 4
    · simp [h4, hlt, Nat.le_of_lt hlt]
    · simp [h4, hlt, show ¬ w.toNat ≤ 4 by omega]

/-- The kinds that BIND asks for: an EGRESS lane, and an INGRESS lane or none as the target. -/
def bindKinds (s : State) (n : LaneId) (w : Word) : Prop :=
  (s.lane n).cfg.dir = .egress ∧ w.toNat ≤ 4 ∧ ∀ m, bindNamed w = some m → (s.lane m).cfg.dir = .ingress

/-- The states that BIND asks for: the lane STOPPED, and no other egress lane bound to the target. -/
def bindStates (s : State) (n : LaneId) (w : Word) : Prop :=
  (s.lane n).st = .stopped ∧
    ∀ m k, bindNamed w = some m → k ≠ n → (s.lane k).cfg.dir = .egress → (s.lane k).binding ≠ some m

theorem othersBound_iff (s : State) (n m : LaneId) :
    (laneList.any fun k => k != n && ((s.lane k).cfg.dir == .egress) && ((s.lane k).binding == some m)) = false ↔
      ∀ k, k ≠ n → (s.lane k).cfg.dir = .egress → (s.lane k).binding ≠ some m := by
  simp [mem_laneList]

theorem bindFails_eq {s : State} {n : LaneId} {w : Word} (hl : s.port.lock = false) :
    (¬ bindKinds s n w → s.bindFails n (bindTarget w) = some .badParam) ∧
      (bindKinds s n w → ¬ bindStates s n w → s.bindFails n (bindTarget w) = some .badState) ∧
      (bindKinds s n w → bindStates s n w → s.bindFails n (bindTarget w) = none) := by
  rw [bindTarget_eq, bindKinds, bindStates]
  by_cases hdir : (s.lane n).cfg.dir = .egress
  · by_cases hle : w.toNat ≤ 4
    · rw [if_pos hle]
      cases htarget : bindNamed w with
      | none =>
        by_cases hst : (s.lane n).st = .stopped <;> simp [State.bindFails, hl, hdir, hle, hst]
      | some m =>
        have hbound := othersBound_iff s n m
        generalize hany : (laneList.any fun k => k != n && ((s.lane k).cfg.dir == .egress) && ((s.lane k).binding == some m)) = b
          at hbound
        by_cases hm : (s.lane m).cfg.dir = .ingress
        · by_cases hst : (s.lane n).st = .stopped
          · have hstates : (∀ m_1 k, some m = some m_1 → k ≠ n → (s.lane k).cfg.dir = .egress →
                (s.lane k).binding ≠ some m_1) ↔ b = false := by
              rw [hbound]
              exact ⟨fun h k => h m k rfl, fun h m' k hm' => by cases hm'; exact h k⟩
            simp only [State.bindFails, hl, hdir, hle, hm, hst, hany, hstates]
            cases b <;> simp [hm]
          · simp [State.bindFails, hl, hdir, hle, hm, hst]
        · simp [State.bindFails, hl, hdir, hm]
    · rw [if_neg hle]
      simp [State.bindFails, hl, hdir, hle]
  · simp [State.bindFails, hl, hdir]

/-- A BIND that stores a new target. -/
theorem bindLane_new {t : State} {e : CmdEntry} {n : LaneId} (hn : laneArg e.arg0 = some n)
    (hf : t.bindFails n (bindTarget e.arg1) = none) (hle : e.arg1.toNat ≤ 4)
    (hnew : ((t.recordDone e .ok 0 none).lane n).binding ≠ bindNamed e.arg1) : t.bindLane e =
      ((((t.recordDone e .ok 0 none).updLane n fun l => { l with binding := bindNamed e.arg1, linger := none }).returnAll
        (((t.recordDone e .ok 0 none).lane n).linger.toList)).tellOwners (((t.recordDone e .ok 0 none).lane n).linger.toList)) := by
  have hjoin : (bindTarget e.arg1).join = bindNamed e.arg1 := by rw [bindTarget_eq, if_pos hle]; rfl
  simp only [State.bindLane, hn, hf, hjoin, if_neg hnew]

/-- A lane with a new binding, which has given up its linger place. -/
def rebound (l : Lane) (target : Option LaneId) : Lane := { l with binding := target, linger := none }

/-- The row of a BIND that stores a new target. -/
theorem exec_bindNew {s : State} {e : CmdEntry} {n : LaneId} (h : commandDue s e 0x14) (hn : laneArg e.arg0 = some n)
    (hf : s.bindFails n (bindTarget e.arg1) = none) (hle : e.arg1.toNat ≤ 4)
    (hnew : (s.lane n).binding ≠ bindNamed e.arg1) :
    ∃ u, unchangedBut [.cmd, .log, .irq, .moment, .lanes] s u ∧ Finished s e .ok 0 none [] u ∧
      (∀ m, u.lane m = if m = n then rebound (s.lane n) (bindNamed e.arg1) else s.lane m) ∧
      exec .bind s = .next ((u.returnAll (s.lane n).linger.toList).tellOwners (s.lane n).linger.toList).causeDispatch.arbitrate := by
  have hrecord := record_frame s e .ok 0 none
  have hfin := recordDone_finished (begun_frame s) e .ok 0 none
  have hsame (m : LaneId) := frame_lane hrecord m
  have hexec := exec_bind h
  rw [bindLane_new (t := begun s) hn hf hle (by rw [hsame]; exact hnew), hsame] at hexec
  have hupd := updLane_frame ((begun s).recordDone e .ok 0 none) n fun l => { l with binding := bindNamed e.arg1, linger := none }
  exact ⟨_, frame_comp hrecord hupd, hfin.frame hupd, fun m => by rw [lane_updLane, hsame, hsame]; rfl, hexec⟩

theorem bind_unlingered {s : State} {e : CmdEntry} {n : LaneId} (h : commandDue s e 0x14) (hn : laneArg e.arg0 = some n)
    (hf : s.bindFails n (bindTarget e.arg1) = none) (hle : e.arg1.toNat ≤ 4)
    (hnew : (s.lane n).binding ≠ bindNamed e.arg1) (hlinger : (s.lane n).linger = none) :
    ∃ r, exec .bind s = .next r.arbitrate ∧ completes s r e .ok 0 none [] ∧
      r.lane n = { s.lane n with binding := bindNamed e.arg1 } ∧ otherLanes n s r ∧
      unchangedBut [.cmd, .log, .irq, .moment, .lanes] s r := by
  obtain ⟨u, hframe, hfin, hlane, hexec⟩ := exec_bindNew h hn hf hle hnew
  have hnone : u.returnAll (s.lane n).linger.toList = u := by rw [hlinger]; rfl
  rw [hnone] at hexec
  have htell := tellOwners_frame u (s.lane n).linger.toList
  have hcause := causeDispatch_frame (u.tellOwners (s.lane n).linger.toList)
  have hrest := frame_comp (hs := [.moment]) htell hcause
  refine ⟨_, hexec, (hfin.frame htell).completes, ?_, fun m hm => ?_, frame_comp hframe hrest⟩
  · rw [frame_lane hrest, hlane, if_pos rfl, rebound, ← hlinger]
  · rw [frame_lane hrest, hlane, if_neg hm]

theorem bind_lingering {s : State} {e : CmdEntry} {n : LaneId} {i : SlotId} (h : commandDue s e 0x14)
    (hn : laneArg e.arg0 = some n) (hf : s.bindFails n (bindTarget e.arg1) = none) (hle : e.arg1.toNat ≤ 4)
    (hnew : (s.lane n).binding ≠ bindNamed e.arg1) (hlinger : (s.lane n).linger = some i) :
    ∃ r, exec .bind s = .next r.arbitrate ∧ completes s r e .ok 0 none [] ∧
      (r.lane n).binding = bindNamed e.arg1 ∧ (r.lane n).linger = none ∧
      r.slot i = { s.slot i with st := if (s.slot i).flags.eccBad then .quarantined else .free } ∧
      otherSlots i s r ∧
      ((s.slot i).flags.eccBad = false →
        joins i (s.slot i).owner (s.setLane n (rebound (s.lane n) (bindNamed e.arg1))) r) ∧
      ((s.slot i).flags.eccBad = true →
        r.hostFree = s.hostFree ∧ r.lane n = rebound (s.lane n) (bindNamed e.arg1) ∧ otherLanes n s r) ∧
      unchangedBut [.cmd, .log, .irq, .moment, .slots, .hostFree, .lanes] s r := by
  obtain ⟨u, hframe, hfin, hlane, hexec⟩ := exec_bindNew h hn hf hle hnew
  rw [hlinger] at hexec
  have hreturn : u.returnAll [i] = u.returnSlot i := rfl
  rw [Option.toList_some, hreturn] at hexec
  have hslot (j : SlotId) : u.slot j = s.slot j := frame_slot hframe j
  have hhost : u.hostFree = s.hostFree := hframe .hostFree (by decide)
  have hback := returnSlot_frame u i
  have hfin := hfin.frame hback
  have hvlane (m : LaneId) := returnSlot_lane u i m
  have hvslot (j : SlotId) := returnSlot_slot u i j
  have hvhost := returnSlot_hostFree u i
  simp only [hslot, hhost] at hvlane hvslot hvhost
  have hjoin (hgood : (s.slot i).flags.eccBad = false) :
      joins i (s.slot i).owner (s.setLane n (rebound (s.lane n) (bindNamed e.arg1))) ((u.returnSlot i).tellOwners [i]) := by
    have hlanes (m : LaneId) : u.lane m = (s.setLane n (rebound (s.lane n) (bindNamed e.arg1))).lane m := by
      rw [hlane]
      by_cases hm : m = n
      · rw [if_pos hm, hm, lane_setLane_same]
      · rw [if_neg hm, lane_setLane_other _ _ _ _ hm]
    have hjoined : u.returnSlot i = u.joinFree i := by
      rw [State.returnSlot, hslot, hgood, if_neg (by decide)]
    rw [hjoined, ← hslot i]
    exact joinFree_joins (i := i) hhost hlanes
  generalize u.returnSlot i = v at *
  have htell := tellOwners_frame v [i]
  have hcause := causeDispatch_frame (v.tellOwners [i])
  have hrest := frame_comp (hs := [.moment]) htell hcause
  have hrlane (m : LaneId) : (v.tellOwners [i]).causeDispatch.lane m = v.lane m := frame_lane hrest m
  have hrn : (v.tellOwners [i]).causeDispatch.lane n = { rebound (s.lane n) (bindNamed e.arg1) with
      freeList := ((v.tellOwners [i]).causeDispatch.lane n).freeList } := by
    rw [hrlane, hvlane, hlane, if_pos rfl]; split <;> rfl
  refine ⟨_, hexec, (hfin.frame htell).completes, ?_, ?_, ?_, fun j hj => ?_, fun hgood => ?_, fun hbad => ⟨?_, ?_, fun m hm => ?_⟩,
    frame_comp (frame_comp (hs := [.cmd, .log, .irq, .moment, .slots, .hostFree, .lanes]) hframe hback) hrest⟩
  · rw [hrn]; rfl
  · rw [hrn]; rfl
  · rw [frame_slot hrest, hvslot, if_pos rfl]
  · rw [frame_slot hrest, hvslot, if_neg hj]
  · exact joins_later (hjoin hgood) (hcause .hostFree (by decide)) (hcause .lanes (by decide)) fun m hm => by
      rw [causeDispatch_outstanding, hm, Bool.or_true]
  · rw [show (v.tellOwners [i]).causeDispatch.hostFree = v.hostFree from hrest .hostFree (by decide), hvhost,
      if_neg (by rw [hbad]; simp)]
  · rw [hrlane, hvlane, if_neg (by rw [hbad]; simp), hlane, if_pos rfl]
  · rw [hrlane, hvlane, if_neg (by rw [hbad]; simp), hlane, if_neg hm]

/-- Settles O40: the checks of both commands in their order, and the rows that pass them. -/
theorem lanesAreFlushedAndBound : Obligations.LanesAreFlushedAndBound := by
  unfold Obligations.LanesAreFlushedAndBound
  refine ⟨fun s e h => ⟨fun hbig => only_completes (exec_laneFlush h) ?_, fun n hn => ?_⟩,
    fun s e h => ⟨fun hbig => only_completes (exec_bind h) ?_, fun n hn => ?_⟩⟩
  · simp only [State.laneFlush, laneArg_none hbig]
  · have hlane := (laneArg_eq e.arg0 n).mpr hn
    refine ⟨fun hst => only_completes (exec_laneFlush h) ?_, fun hst hnd => laneFlush_passes h hlane hst hnd⟩
    have hst' : ((begun s).lane n).st ≠ .stopped := hst
    simp only [State.laneFlush, hlane, if_pos hst']
  · simp only [State.bindLane, laneArg_none hbig]
  · have hlane := (laneArg_eq e.arg0 n).mpr hn
    intro l target kinds states
    refine ⟨fun hl => bind_fails h hlane ?_, fun hl hk => bind_fails h hlane ((bindFails_eq hl).1 hk),
      fun hl hk hs => bind_fails h hlane ((bindFails_eq hl).2.1 hk hs), fun hl hk hs => ?_⟩
    · simp only [State.bindFails, hl, if_true]
    have hpass : s.bindFails n (bindTarget e.arg1) = none := (bindFails_eq hl).2.2 hk hs
    have hle : e.arg1.toNat ≤ 4 := hk.2.1
    refine ⟨fun hsame => only_completes (exec_bind h) ?_, fun hnew hnone => bind_unlingered h hlane hpass hle hnew hnone,
      fun i hnew hsome => bind_lingering h hlane hpass hle hnew hsome⟩
    have hpass' : (begun s).bindFails n (bindTarget e.arg1) = none := hpass
    have hjoin : (bindTarget e.arg1).join = bindNamed e.arg1 := by rw [bindTarget_eq, if_pos hle]; rfl
    have hsame' : (((begun s).recordDone e .ok 0 none).lane n).binding = bindNamed e.arg1 := by
      rw [frame_lane (record_frame s e .ok 0 none)]; exact hsame
    simp only [State.bindLane, hlane, hpass', hjoin, if_pos hsame']

end Sys2Proof.Proofs
end

section
/-! PROOFS. COPY, FILL and MEASURE at their dispatch, and ENGINE_ABORT (R141 to R148). -/

set_option Elab.async false

namespace Sys2Proof.Proofs

open Sys2Proof.Machine Sys2Proof.Safety Sys2Proof.Laws

/-! ## Dispatch -/

theorem exec_copy {s : State} {e : CmdEntry} (h : commandDue s e 0x20) :
    exec .copy s = .next ((begun s).copy e).causeDispatch.arbitrate :=
  exec_command h rfl rfl (fun t e hc => by rw [State.runCommand, hc]; rfl) (by decide)

theorem exec_fill {s : State} {e : CmdEntry} (h : commandDue s e 0x21) :
    exec .fill s = .next ((begun s).fill e).causeDispatch.arbitrate :=
  exec_command h rfl rfl (fun t e hc => by rw [State.runCommand, hc]; rfl) (by decide)

theorem exec_measure {s : State} {e : CmdEntry} (h : commandDue s e 0x22) :
    exec .measure s = .next ((begun s).measure e).causeDispatch.arbitrate :=
  exec_command h rfl rfl (fun t e hc => by rw [State.runCommand, hc]; rfl) (by decide)

/-- A long command that starts: the engine holds it, and nothing else has changed but the moment. -/
theorem starts_long {s : State} {i : Instr} {c : LongCmd} {desc : Bool} {phase : Phase} {stats : Option RunningStats}
    (hexec : exec i s = .next ((begun s).startLong c desc phase stats).causeDispatch.arbitrate) :
    ∃ r, exec i s = .next r.arbitrate ∧ r.eng = ⟨some c, desc, 0, phase, [], stats, false⟩ ∧ unchangedBut [.eng, .moment] s r := by
  have hcause := causeDispatch_frame ((begun s).startLong c desc phase stats)
  have hstart : unchangedBut [.eng] (begun s) ((begun s).startLong c desc phase stats) := by
    intro f hf; cases f <;> first | rfl | exact absurd (by decide) hf
  exact ⟨_, hexec, hcause .eng (by decide),
    frame_comp (frame_comp (hs := [.eng, .moment]) (begun_frame s) hstart) hcause⟩

theorem copyFails_eq (s : State) (src dst count : Nat) : s.copyFails src dst count =
    if ¬ (0 < count ∧ count ≤ 262144 ∧ src + count ≤ s.memWords ∧ dst + count ≤ s.memWords) then some .badParam
    else if ¬ (s.rangeAccessible src count = true ∧ s.rangeAccessible dst count = true) then some .denied
    else none := by
  have hmax : Config.maxCount = 262144 := rfl
  have hdenied : (s.rangeAccessible src count = false ∨ s.rangeAccessible dst count = false) ↔
      ¬ (s.rangeAccessible src count = true ∧ s.rangeAccessible dst count = true) := by
    simp [imp_iff_not_or]
  simp only [State.copyFails, hmax, hdenied]
  by_cases hcount : count = 0 ∨ 262144 < count
  · rw [if_pos hcount, if_pos (by omega)]
  · by_cases hsize : s.memWords < src + count ∨ s.memWords < dst + count
    · rw [if_neg hcount, if_pos hsize, if_pos (by omega)]
    · rw [if_neg hcount, if_neg hsize, if_neg (c := ¬ (0 < count ∧ _)) (by omega)]

theorem fillFails_eq (s : State) (dst count : Nat) : s.fillFails dst count =
    if ¬ (0 < count ∧ count ≤ 262144 ∧ dst + count ≤ s.memWords) then some .badParam
    else if s.rangeAccessible dst count = false then some .denied else none := by
  have hmax : Config.maxCount = 262144 := rfl
  simp only [State.fillFails, hmax]
  by_cases hcount : count = 0 ∨ 262144 < count
  · rw [if_pos hcount, if_pos (by omega)]
  · by_cases hsize : s.memWords < dst + count
    · rw [if_neg hcount, if_pos hsize, if_pos (by omega)]
    · rw [if_neg hcount, if_neg hsize, if_neg (c := ¬ (0 < count ∧ _)) (by omega)]

theorem copy_fails {t : State} {e : CmdEntry} {res : Result}
    (hf : t.copyFails e.arg0.toNat e.arg1.toNat e.arg2.toNat = some res) : t.copy e = t.recordDone e res 0 none := by
  simp only [State.copy, hf]

theorem copy_passes {t : State} {e : CmdEntry} (hf : t.copyFails e.arg0.toNat e.arg1.toNat e.arg2.toNat = none) :
    t.copy e = t.startLong (.copy e.arg0.toNat e.arg1.toNat e.arg2.toNat)
      (decide (e.arg0.toNat < e.arg1.toNat ∧ e.arg1.toNat < e.arg0.toNat + e.arg2.toNat)) .readWait none := by
  simp only [State.copy, hf, Bool.decide_and]

theorem fill_fails {t : State} {e : CmdEntry} {res : Result} (hf : t.fillFails e.arg0.toNat e.arg1.toNat = some res) :
    t.fill e = t.recordDone e res 0 none := by
  simp only [State.fill, hf]

theorem fill_passes {t : State} {e : CmdEntry} (hf : t.fillFails e.arg0.toNat e.arg1.toNat = none) :
    t.fill e = t.startLong (.fill e.arg0.toNat e.arg1.toNat e.arg2 e.arg3) false .writeWait none := by
  simp only [State.fill, hf]

theorem measure_named {t : State} {e : CmdEntry} {i : SlotId} (hi : slotArg e.arg0 = some i) : t.measure e =
    if (t.slot i).st ≠ .claimed then t.recordDone e .badState 0 (some i)
    else if (t.slot i).length = 0 then
      (t.updSlot i fun r => { r with stats := some RunningStats.start.finish }).recordDone e .ok 0 (some i)
    else t.startLong (.measure i) false .readWait (some RunningStats.start) := by
  simp only [State.measure, hi]

theorem measure_atOnce {s : State} {e : CmdEntry} {i : SlotId} (h : commandDue s e 0x22) (hi : slotArg e.arg0 = some i)
    (hst : (s.slot i).st = .claimed) (hlen : (s.slot i).length = 0) :
    ∃ r, exec .measure s = .next r.arbitrate ∧ completes s r e .ok 0 (some i) [] ∧
      r.slot i = { s.slot i with stats := some ⟨0, 0, 0, true⟩ } ∧ otherSlots i s r ∧
      unchangedBut [.cmd, .log, .irq, .moment, .slots] s r := by
  have hexec := exec_measure h
  have hst' : ¬ ((begun s).slot i).st ≠ .claimed := fun hc => hc hst
  have hlen' : ((begun s).slot i).length = 0 := hlen
  rw [measure_named hi, if_neg hst', if_pos hlen'] at hexec
  have hset := frame_comp (hs := [.moment, .slots]) (begun_frame s)
    (updSlot_frame (begun s) i fun r => { r with stats := some RunningStats.start.finish })
  have hslot (j : SlotId) : ((begun s).updSlot i fun r => { r with stats := some RunningStats.start.finish }).slot j =
      if j = i then { s.slot i with stats := some ⟨0, 0, 0, true⟩ } else s.slot j := slot_updSlot (begun s) i j _
  generalize ((begun s).updSlot i fun r => { r with stats := some RunningStats.start.finish }) = u at *
  have hrecord := recordDone_frame u e .ok 0 (some i)
  have hcause := causeDispatch_frame (u.recordDone e .ok 0 (some i))
  refine ⟨_, hexec, (recordDone_finished hset e .ok 0 (some i)).completes, ?_, fun j hj => ?_,
    frame_comp (frame_comp (hs := [.cmd, .log, .irq, .moment, .slots]) hset hrecord) hcause⟩
  · rw [frame_slot hcause, frame_slot hrecord, hslot, if_pos rfl]
  · rw [frame_slot hcause, frame_slot hrecord, hslot, if_neg hj]

/-- Settles O41: the checks of the three long commands, and the engine that starts. -/
theorem longCommandsCheckAndStart : Obligations.LongCommandsCheckAndStart := by
  unfold Obligations.LongCommandsCheckAndStart
  refine ⟨fun s e h => ?_, fun s e h => ?_, fun s e h => ⟨fun hbig => only_completes (exec_measure h) ?_, fun i hi => ?_⟩⟩
  · intro src dst count fits open_
    have hchecks := copyFails_eq s src dst count
    refine ⟨fun hno => only_completes (exec_copy h) (copy_fails (t := begun s) ?_),
      fun hfits hno => only_completes (exec_copy h) (copy_fails (t := begun s) ?_), fun hfits hopen => ?_⟩
    · exact hchecks.trans (if_pos hno)
    · exact hchecks.trans ((if_neg (not_not.mpr hfits)).trans (if_pos hno))
    · have hpass : s.copyFails src dst count = none :=
        hchecks.trans ((if_neg (not_not.mpr hfits)).trans (if_neg (not_not.mpr hopen)))
      have hexec := exec_copy h
      rw [copy_passes (t := begun s) hpass] at hexec
      exact starts_long hexec
  · intro dst count fits
    have hchecks := fillFails_eq s dst count
    refine ⟨fun hno => only_completes (exec_fill h) (fill_fails (t := begun s) ?_),
      fun hfits hno => only_completes (exec_fill h) (fill_fails (t := begun s) ?_), fun hfits hopen => ?_⟩
    · exact hchecks.trans (if_pos hno)
    · exact hchecks.trans ((if_neg (not_not.mpr hfits)).trans (if_pos hno))
    · have hpass : s.fillFails dst count = none :=
        hchecks.trans ((if_neg (not_not.mpr hfits)).trans (if_neg (by rw [hopen]; decide)))
      have hexec := exec_fill h
      rw [fill_passes (t := begun s) hpass] at hexec
      exact starts_long hexec
  · simp only [State.measure, slotArg_none hbig]
  · have hslot := (slotArg_eq e.arg0 i).mpr hi
    have hexec := exec_measure h
    refine ⟨fun hst => only_completes hexec ?_, fun hst hlen => measure_atOnce h hslot hst hlen, fun hst hlen => ?_⟩
    · exact (measure_named hslot).trans (if_pos hst)
    · have hst' : ¬ ((begun s).slot i).st ≠ .claimed := fun hc => hc hst
      have hlen' : ¬ ((begun s).slot i).length = 0 := hlen
      rw [measure_named hslot, if_neg hst', if_neg hlen'] at hexec
      exact starts_long hexec

/-! ## ENGINE_ABORT (R148) -/

theorem engineGranted_iff (s : State) : s.engineGranted = true ↔
    ∃ g, s.arb.grant = some g ∧ g.who ∈ [Client.copyRead, .copyWrite, .fill, .measure] := by
  unfold State.engineGranted
  cases s.arb.grant with
  | none => simp
  | some g => cases hw : g.who <;> simp [hw]

/-- ENGINE_ABORT as its response leaves the state. -/
def aborting (s : State) : State := (admitted s).respondOk none

theorem aborting_eq (s : State) : aborting s = { s with
    port := answered s.port .ok none, sup := counted s.sup, moment := Moment.empty } := by
  rw [aborting, respondOk_eq]; rfl

theorem exec_engineAbort {s : State} (data : Word) (h : quiet s) (hp : s.power ≠ .retain) :
    exec (.engineAbort data) s = .next (aborting s).abortEngine.arbitrate := by
  have hpasses : s.accessFails ⟨0x26, true, data⟩ = none :=
    accessFails_write (reg := .engineAbort) rfl (absurd · hp) rfl rfl nofun rfl rfl nofun
  have hplain : s.requestsAtOnce ⟨0x26, true, data⟩ = false := requestsAtOnce_plain (reg := .engineAbort) rfl nofun nofun nofun
  exact congrArg Host.Outcome.next (hostRow_writing h (r := .engineAbort) rfl hpasses hplain)

/-- A long command that is stopped: its completion, with the engine idle again. -/
theorem endLong_eq {t : State} {c : LongCmd} {e : CmdEntry} {rest : List CmdEntry} (hc : t.eng.cmd = some c)
    (hq : t.cmd.queue = e :: rest) (res : Result) (v : Nat) :
    t.endLong res v = (State.recordDone { t with eng := Engine.reset } e res v c.slotIndex).causeDispatch := by
  unfold State.endLong
  rw [hc]
  split
  next c' e' rest' hc' hq' => cases hc'; cases hq.symm.trans hq'; rfl
  next hno => exact absurd hq (hno c e rest rfl)

/-- Settles O42: what the engine and its grant allow at the response. -/
theorem engineAbortStopsOrWaits : Obligations.EngineAbortStopsOrWaits := by
  unfold Obligations.EngineAbortStopsOrWaits
  intro s data h hp granted
  have hgranted : s.engineGranted = true ↔ granted := engineGranted_iff s
  have hexec := exec_engineAbort data h hp
  have hframe : unchangedBut [.port, .sup, .moment] s (aborting s) := by
    rw [aborting_eq]; intro f hf; cases f <;> first | rfl | exact absurd (by decide) hf
  have hok : answeredOk s (aborting s) none := by rw [aborting_eq]; exact ⟨rfl, rfl, rfl⟩
  generalize aborting s = u at *
  have heng : u.eng = s.eng := hframe .eng (by decide)
  have hug : u.engineGranted = true ↔ granted := by
    rw [← hgranted, State.engineGranted, State.engineGranted, show u.arb = s.arb from hframe .arb (by decide)]
  refine ⟨fun hno => ?_, fun c e rest hc hpending hq hng hheld => ?_, fun hc hpending hor => ?_⟩
  · rw [State.abortEngine, heng, if_pos hno] at hexec
    exact ⟨_, hexec, hok, hframe⟩
  · have habort : u.abortEngine = u.endLong .aborted s.eng.wordsDone := by
      rw [State.abortEngine, heng, if_neg (by rw [hc, hpending]; simp), if_pos ⟨Bool.not_eq_true _ ▸ hug.not.mpr hng, hheld⟩]
    have hqueue : u.cmd.queue = e :: rest := by rw [show u.cmd = s.cmd from hframe .cmd (by decide)]; exact hq
    rw [habort, endLong_eq (heng ▸ hc) hqueue] at hexec
    have hidle : unchangedBut [.port, .sup, .moment, .eng] s { u with eng := Engine.reset } :=
      frame_comp (gs := [.eng]) hframe (by intro f hf; cases f <;> first | rfl | exact absurd (by decide) hf)
    have hport : ({ u with eng := Engine.reset } : State).port = u.port := rfl
    have hsup : ({ u with eng := Engine.reset } : State).sup = u.sup := rfl
    have hreset : ({ u with eng := Engine.reset } : State).eng = Engine.reset := rfl
    generalize ({ u with eng := Engine.reset } : State) = v at *
    have hdone := (recordDone_finished hidle e .aborted s.eng.wordsDone c.slotIndex).completes
    have hrecord := recordDone_frame v e .aborted s.eng.wordsDone c.slotIndex
    have hrest := frame_comp (hs := [.moment, .cmd, .log, .irq]) hrecord (causeDispatch_frame _)
    refine ⟨_, hexec, ?_, ?_, ?_, ?_, frame_comp (hs := [.port, .sup, .moment, .eng, .cmd, .log, .irq]) hidle hrest⟩
    · exact Eq.trans (hrest .port (by decide)) (hport.trans hok.1)
    · exact Eq.trans (hrest .sup (by decide)) (hsup.trans hok.2.1)
    · exact Eq.trans (hrest .eng (by decide)) hreset
    · cases c <;> exact hdone
  · have hno : ¬ (u.engineGranted = false ∧ s.eng.held = []) := by
      rintro ⟨hng, hheld⟩
      rcases hor with hg | hh
      · rw [hug.mpr hg] at hng; exact absurd hng (by decide)
      · exact hh hheld
    have hpends : u.abortEngine = { u with eng := { s.eng with abortPending := true } } := by
      rw [State.abortEngine, heng, if_neg (by rw [hpending]; simp [hc]), if_neg hno]
    rw [hpends] at hexec
    exact ⟨_, hexec, hok, rfl,
      frame_comp (gs := [.eng]) hframe (by intro f hf; cases f <;> first | rfl | exact absurd (by decide) hf)⟩

end Sys2Proof.Proofs
end

section
/-! PROOFS. The Frame Inspector over all the bits of a frame (R96, R97). -/

set_option Elab.async false

namespace Sys2Proof.Proofs

open Sys2Proof.Machine Sys2Proof.Safety Sys2Proof.Laws

/-- The bits of words in the order in which the Frame Inspector takes them: bit 31 of the first word first. -/
def frameBits (ws : List Word) : List Bool := ws.flatMap fun w => (List.range 32).map fun k => w.getLsbD (31 - k)

/-- One bit into the CRC register. -/
def shifted (reg : Word) (b : Bool) : Word :=
  if reg.getLsbD 31 = b then reg <<< 1 else (reg <<< 1) ^^^ 0x04C11DB7#32

theorem crcBit_eq (reg : Word) (b : Bool) : crcBit reg b = shifted reg b := by
  rw [crcBit, shifted, BitVec.msb_eq_getLsbD_last]
  cases reg.getLsbD 31 <;> cases b <;> rfl

theorem wordBits_eq (w : Word) : wordBits w = (List.range 32).map fun k => w.getLsbD (31 - k) := by
  refine List.map_congr_left fun k hk => ?_
  rw [BitVec.getMsbD_eq_getLsbD, decide_eq_true (List.mem_range.mp hk), Bool.true_and]

theorem frameBits_nil : frameBits [] = [] := rfl

theorem frameBits_cons (w : Word) (ws : List Word) : frameBits (w :: ws) = wordBits w ++ frameBits ws := by
  rw [wordBits_eq, frameBits, List.flatMap_cons]; rfl

theorem crcWord_eq (reg w : Word) : crcWord reg w = (wordBits w).foldl shifted reg := by
  rw [crcWord, show crcBit = shifted from funext fun r => funext (crcBit_eq r)]

/-- A word holds a 1 where it is not 0. -/
theorem true_mem_wordBits (w : Word) : true ∈ wordBits w ↔ w ≠ 0 := by
  rw [wordBits_eq, List.mem_map]
  constructor
  · rintro ⟨k, -, hk⟩ h0
    rw [h0, BitVec.ofNat_eq_ofNat, BitVec.getLsbD_zero] at hk
    exact Bool.false_ne_true hk
  · intro hw
    by_contra hnone
    refine hw (BitVec.eq_of_getLsbD_eq fun b hb => ?_)
    rw [BitVec.ofNat_eq_ofNat, BitVec.getLsbD_zero, ← Bool.not_eq_true]
    intro hbit
    exact hnone ⟨31 - b, List.mem_range.mpr (by omega), by rw [show 31 - (31 - b) = b by omega]; exact hbit⟩

/-- The zeros before the first 1 of two runs of bits: those of the first, and those of the second only where the first has
no 1. -/
theorem leadZeros_append (xs ys : List Bool) : ((xs ++ ys).takeWhile not).length =
    (xs.takeWhile not).length + if true ∈ xs then 0 else (ys.takeWhile not).length := by
  induction xs with
  | nil => simp
  | cons x xs ih =>
    cases x with
    | true => simp
    | false => simp [ih]; omega

/-- The running statistics of further words. -/
theorem addAll_eq (ws : List Word) : ∀ x : RunningStats, x.addAll ws =
    { crcReg := (frameBits ws).foldl shifted x.crcReg
      ones := x.ones + (frameBits ws).count true
      leadZeros := x.leadZeros + (if x.sawOne then 0 else ((frameBits ws).takeWhile not).length)
      sawOne := x.sawOne || (frameBits ws).contains true } := by
  induction ws with
  | nil => intro x; simp [RunningStats.addAll, frameBits_nil]
  | cons w ws ih =>
    intro x
    have hones : onesOf w = (wordBits w).count true := by
      rw [onesOf, List.count]
      congr 1
      funext b
      cases b <;> rfl
    have hsaw : (w != 0) = (wordBits w).contains true := by
      rw [Bool.eq_iff_iff, bne_iff_ne, List.contains_iff_mem, true_mem_wordBits]
    rw [RunningStats.addAll, List.foldl_cons, ← RunningStats.addAll, ih, frameBits_cons]
    simp only [RunningStats.add, crcWord_eq, List.foldl_append, List.count_append, leadZeros_append, hones, leadZerosOf,
      hsaw, List.contains_append, RunningStats.mk.injEq, true_and]
    refine ⟨by omega, ?_, by rw [Bool.or_assoc]⟩
    cases x.sawOne with
    | true => simp
    | false =>
      by_cases hw : true ∈ wordBits w <;> simp [hw]; omega

theorem statsOf_eq (ws : List Word) : statsOf ws =
    ⟨~~~((frameBits ws).foldl shifted 0xFFFFFFFF#32), (frameBits ws).count true, ((frameBits ws).takeWhile not).length,
      !(frameBits ws).contains true⟩ := by
  rw [statsOf, addAll_eq]
  simp [RunningStats.finish, RunningStats.start, crcStart]

end Sys2Proof.Proofs
end

section
/-! PROOFS. Read outcomes by the flipped bits (R18), and what the reads of a grant count, mark and report (R19 to R24, R62). -/

set_option Elab.async false

namespace Sys2Proof.Proofs

open Sys2Proof.Machine Sys2Proof.Safety Sys2Proof.Laws

/-! ## Flipped bits -/

/-- The number of flipped bits does not depend on the word. -/
theorem flipCount_word (w : Word) (f : BitVec 39) : (⟨w, f⟩ : Cell).flipCount = (⟨0, f⟩ : Cell).flipCount := rfl

/-- A one shifted to a place is set there and nowhere else. -/
theorem getLsbD_one_shiftLeft (i : Fin 39) (b : Nat) (hb : b < 39) : (1#39 <<< i.val).getLsbD b = (b == i.val) := by
  rw [BitVec.getLsbD_shiftLeft, BitVec.getLsbD_one, Bool.eq_iff_iff]
  simp only [hb, decide_true, Bool.and_eq_true, Bool.not_eq_true', decide_eq_false_iff_not, decide_eq_true_eq, beq_iff_eq,
    true_and]
  omega

/-- How often two different numbers occur among the first `n`. -/
theorem countP_pair {i j : Nat} (h : i ≠ j) : ∀ n, (List.range n).countP (fun b => b == i || b == j) =
    (if i < n then 1 else 0) + if j < n then 1 else 0 := by
  intro n
  induction n with
  | zero => rfl
  | succ n ih =>
    have hlast : [n].countP (fun b => b == i || b == j) = (if n = i then 1 else 0) + if n = j then 1 else 0 := by
      by_cases hi : n = i
      · simp [hi, h]
      · simp [hi, beq_eq_decide]
    rw [List.range_succ, List.countP_append, ih, hlast]
    split_ifs <;> omega

theorem countP_one (i : Nat) : ∀ n, (List.range n).countP (fun b => b == i) = if i < n then 1 else 0 := by
  intro n
  rw [show (fun b => b == i) = (· == i) from rfl, ← List.count, List.count_range]

theorem flipCount_one (i : Fin 39) : (⟨0, 1#39 <<< i.val⟩ : Cell).flipCount = 1 := by
  rw [Cell.flipCount, List.countP_congr (q := fun b => b == i.val), countP_one, if_pos i.isLt]
  intro b hb
  rw [getLsbD_one_shiftLeft i b (List.mem_range.mp hb)]

theorem flipCount_two (i j : Fin 39) (h : i ≠ j) : (⟨0, 1#39 <<< i.val ||| 1#39 <<< j.val⟩ : Cell).flipCount = 2 := by
  rw [Cell.flipCount, List.countP_congr (q := fun b => b == i.val || b == j.val),
    countP_pair (fun hv => h (Fin.ext hv)), if_pos i.isLt, if_pos j.isLt]
  intro b hb
  rw [BitVec.getLsbD_or, getLsbD_one_shiftLeft i b (List.mem_range.mp hb), getLsbD_one_shiftLeft j b (List.mem_range.mp hb)]

/-- Settles O47: the outcome follows the number of flipped bits. -/
theorem readOutcomesFollowTheFlips : Obligations.ReadOutcomesFollowTheFlips := by
  intro w i j one two
  have hone : (⟨w, one⟩ : Cell).flipCount = 1 := flipCount_one i
  have honeOut : (⟨w, one⟩ : Cell).outcome = .corrected := by simp only [Cell.outcome, hone]
  refine ⟨⟨fresh_outcome w, fresh_delivered w⟩, ⟨honeOut, ?_⟩, fun hij => ?_⟩
  · rw [Cell.delivered, honeOut]
    exact if_pos hone
  · have htwo : (⟨w, two⟩ : Cell).flipCount = 2 := flipCount_two i j hij
    have htwoOut : (⟨w, two⟩ : Cell).outcome = .uncorrectable := by simp only [Cell.outcome, htwo]
    refine ⟨htwoOut, fun b => ?_⟩
    have hb := b.isLt
    have hflip : two.getLsbD b.val = (b.val == i.val || b.val == j.val) := by
      rw [BitVec.getLsbD_or, getLsbD_one_shiftLeft i _ (by omega), getLsbD_one_shiftLeft j _ (by omega)]
    have hdelivered : (⟨w, two⟩ : Cell).delivered = w ^^^ two.setWidth 32 := by rw [Cell.delivered, htwoOut]; rfl
    rw [hdelivered, BitVec.getLsbD_xor, BitVec.getLsbD_setWidth, hflip]
    simp only [hb, decide_true, Bool.true_and]

/-! ## Many slot records updated -/

/-- Updating the records of a list by a change that is made at most once. -/
theorem foldl_updSlot_slot {f : Slot → Slot} (hf : ∀ r, f (f r) = f r) (is : List SlotId) (j : SlotId) : ∀ s : State,
    (is.foldl (fun s i => s.updSlot i f) s).slot j = if j ∈ is then f (s.slot j) else s.slot j := by
  induction is with
  | nil => simp
  | cons i is ih =>
    intro s
    rw [List.foldl_cons, ih, slot_updSlot]
    by_cases hj : j = i
    · subst hj
      by_cases hjs : j ∈ is <;> simp [hjs, hf]
    · simp [hj]

theorem foldl_updSlot_frame (f : Slot → Slot) (is : List SlotId) (s : State) :
    unchangedBut [.slots] s (is.foldl (fun s i => s.updSlot i f) s) :=
  frame_foldl _ (fun s i => updSlot_frame s i f) is s

/-! ## Quarantine of a marked slot (R62) -/

/-- A record whose slot is QUARANTINED where it was FREE or LINGER. -/
def quarantined (r : Slot) : Slot := { r with st := if r.st = .free ∨ r.st = .linger then .quarantined else r.st }

theorem option_filter_true {α : Type} (o : Option α) : o.filter (fun _ => true) = o := by cases o <;> rfl

/-- A slot stands FREE in the free list of this owner. -/
def freeFor (o : Owner) (r : Slot) : Bool := r.st == .free && r.owner == o

theorem unlinger_slot (s : State) (i j : SlotId) : (s.unlinger i).slot j = s.slot j :=
  frame_slot (unlinger_frame s i) j

theorem foldl_unlinger_lane (i : SlotId) (ns : List LaneId) (m : LaneId) : ∀ s : State,
    (ns.foldl (fun s n => if (s.lane n).linger = some i then s.updLane n fun l => { l with linger := none } else s) s).lane m =
      if m ∈ ns then { s.lane m with linger := (s.lane m).linger.filter (· != i) } else s.lane m := by
  induction ns with
  | nil => simp
  | cons n ns ih =>
    intro s
    rw [List.foldl_cons, ih]
    have hstep : (if (s.lane n).linger = some i then s.updLane n fun l => { l with linger := none } else s).lane m =
        if m = n then { s.lane m with linger := (s.lane m).linger.filter (· != i) } else s.lane m := by
      by_cases hm : m = n
      · subst hm
        rw [if_pos rfl]
        split
        next h => rw [lane_updLane, if_pos rfl, h]; simp [Option.filter]
        next h =>
          have hkept : (s.lane m).linger.filter (· != i) = (s.lane m).linger := by
            cases hl : (s.lane m).linger with
            | none => rfl
            | some k =>
              have hk : k ≠ i := fun e => h (by rw [hl, e])
              simp [Option.filter, hk]
          rw [hkept]
      · rw [if_neg hm]
        split
        · rw [lane_updLane, if_neg hm]
        · rfl
    rw [hstep]
    by_cases hm : m = n
    · subst hm
      by_cases hms : m ∈ ns <;> simp [hms, Option.filter_filter]
    · simp [hm]

theorem unlinger_lane (s : State) (i : SlotId) (m : LaneId) :
    (s.unlinger i).lane m = { s.lane m with linger := (s.lane m).linger.filter (· != i) } := by
  rw [State.unlinger, foldl_unlinger_lane, if_pos (mem_laneList m)]

/-- What the quarantine of a marked slot does, by the slot's state. -/
theorem quarantineMarked_cases (s : State) (i : SlotId) :
    ((s.slot i).st = .free ∧ s.quarantineMarked i = (s.unlistFree i).updSlot i fun r => { r with st := .quarantined }) ∨
      ((s.slot i).st = .linger ∧ s.quarantineMarked i = (s.unlinger i).updSlot i fun r => { r with st := .quarantined }) ∨
      (((s.slot i).st == .free) = false ∧ ((s.slot i).st == .linger) = false ∧ s.quarantineMarked i = s) := by
  unfold State.quarantineMarked
  cases hst : (s.slot i).st with
  | free => exact .inl ⟨rfl, rfl⟩
  | linger => exact .inr (.inl ⟨rfl, rfl⟩)
  | _ => exact .inr (.inr ⟨rfl, rfl, rfl⟩)

theorem quarantineMarked_slot (s : State) (i j : SlotId) :
    (s.quarantineMarked i).slot j = if j = i then quarantined (s.slot i) else s.slot j := by
  rcases quarantineMarked_cases s i with ⟨h, he⟩ | ⟨h, he⟩ | ⟨hfree, hlinger, he⟩
  · rw [he, slot_updSlot, frame_slot (unlistFree_frame s i), frame_slot (unlistFree_frame s i)]
    simp [quarantined, h]
  · rw [he, slot_updSlot, unlinger_slot, unlinger_slot]
    simp [quarantined, h]
  · have hkept : quarantined (s.slot i) = s.slot i := by
      rw [quarantined, if_neg]
      rw [beq_eq_false_iff_ne] at hfree hlinger
      exact fun h => h.elim hfree hlinger
    rw [he, hkept]
    split
    next h => rw [h]
    next => rfl

theorem quarantineMarked_hostFree (s : State) (i : SlotId) :
    (s.quarantineMarked i).hostFree = s.hostFree.filter (fun j => !(j == i && freeFor .host (s.slot i))) := by
  rcases quarantineMarked_cases s i with ⟨h, he⟩ | ⟨h, he⟩ | ⟨hfree, hlinger, he⟩
  · rw [he, show ∀ t : State, ∀ f, (t.updSlot i f).hostFree = t.hostFree from fun t f => rfl, unlistFree_hostFree]
    by_cases ho : (s.slot i).owner = .host <;> simp [freeFor, h, ho, beq_eq_decide]
  · have hfree : freeFor .host (s.slot i) = false := by rw [freeFor, h]; rfl
    have hframe := frame_comp (hs := [.lanes, .slots]) (unlinger_frame s i)
      (updSlot_frame (s.unlinger i) i fun r => { r with st := .quarantined })
    have hkept : (s.quarantineMarked i).hostFree = s.hostFree := he ▸ hframe .hostFree (by decide)
    simp [hkept, hfree]
  · simp [he, freeFor, hfree]

theorem quarantineMarked_lane (s : State) (i : SlotId) (m : LaneId) :
    (s.quarantineMarked i).lane m = { s.lane m with
      freeList := (s.lane m).freeList.filter (fun j => !(j == i && freeFor (.lane m) (s.slot i)))
      linger := (s.lane m).linger.filter (fun j => !(j == i && (s.slot i).st == .linger)) } := by
  rcases quarantineMarked_cases s i with ⟨h, he⟩ | ⟨h, he⟩ | ⟨hfree, hlinger, he⟩
  · rw [he, frame_lane (updSlot_frame _ i _), unlistFree_lane]
    by_cases ho : (s.slot i).owner = .lane m <;>
      simp [freeFor, h, ho, beq_eq_decide, option_filter_true]
  · have hfree : freeFor (.lane m) (s.slot i) = false := by rw [freeFor, h]; rfl
    rw [he, frame_lane (updSlot_frame _ i _), unlinger_lane]
    simp [hfree, h, bne]
  · simp [he, freeFor, hfree, hlinger, option_filter_true]

/-- Records that agree on the slots named say the same of each of them. -/
theorem named_congr {is : List SlotId} {s t : State} (h : ∀ i ∈ is, t.slot i = s.slot i) (p : Slot → Bool) (j : SlotId) :
    (decide (j ∈ is) && p (t.slot j)) = (decide (j ∈ is) && p (s.slot j)) := by
  by_cases hj : j ∈ is
  · rw [h j hj]
  · simp [hj]

/-- What the quarantine of marked slots leaves. -/
theorem foldl_quarantineMarked (is : List SlotId) (hnd : is.Nodup) : ∀ s : State,
    let r := is.foldl State.quarantineMarked s
    (∀ j, r.slot j = if j ∈ is then quarantined (s.slot j) else s.slot j) ∧
      r.hostFree = s.hostFree.filter (fun j => !(decide (j ∈ is) && freeFor .host (s.slot j))) ∧
      (∀ m, r.lane m = { s.lane m with
        freeList := (s.lane m).freeList.filter (fun j => !(decide (j ∈ is) && freeFor (.lane m) (s.slot j)))
        linger := (s.lane m).linger.filter (fun j => !(decide (j ∈ is) && (s.slot j).st == .linger)) }) := by
  induction is with
  | nil => intro s; refine ⟨fun j => by simp, by simp, fun m => by simp [option_filter_true]⟩
  | cons i is ih =>
    intro s
    obtain ⟨hi, his⟩ := List.nodup_cons.mp hnd
    obtain ⟨hslot, hhost, hlane⟩ := ih his (s.quarantineMarked i)
    have hagree (j : SlotId) (hj : j ∈ is) : (s.quarantineMarked i).slot j = s.slot j := by
      rw [quarantineMarked_slot, if_neg (ne_of_mem_of_not_mem hj hi)]
    have hboth (p : Slot → Bool) (j : SlotId) : (!(j == i && p (s.slot i)) && !(decide (j ∈ is) && p (s.slot j))) =
        !(decide (j ∈ i :: is) && p (s.slot j)) := by
      by_cases hj : j = i
      · subst hj; simp [hi]
      · simp [hj]
    refine ⟨fun j => ?_, ?_, fun m => ?_⟩
    · rw [List.foldl_cons, hslot, quarantineMarked_slot]
      by_cases hj : j = i
      · subst hj; simp [hi]
      · simp [hj]
    · rw [List.foldl_cons, hhost, quarantineMarked_hostFree, List.filter_filter]
      refine List.filter_congr fun j _ => ?_
      rw [named_congr hagree, Bool.and_comm]
      exact hboth (freeFor .host) j
    · have hfree : ((s.lane m).freeList.filter fun j => !(decide (j ∈ is) && freeFor (.lane m) ((s.quarantineMarked i).slot j)) &&
          !(j == i && freeFor (.lane m) (s.slot i))) =
          (s.lane m).freeList.filter fun j => !(decide (j ∈ i :: is) && freeFor (.lane m) (s.slot j)) := by
        refine List.filter_congr fun j _ => ?_
        rw [named_congr hagree, Bool.and_comm]
        exact hboth (freeFor (.lane m)) j
      have hlinger : (fun j => !(j == i && (s.slot i).st == .linger) &&
          !(decide (j ∈ is) && ((s.quarantineMarked i).slot j).st == .linger)) =
          fun j => !(decide (j ∈ i :: is) && (s.slot j).st == .linger) := by
        funext j
        rw [named_congr hagree (fun r => r.st == .linger)]
        exact hboth (fun r => r.st == .linger) j
      rw [List.foldl_cons, hlane, quarantineMarked_lane]
      simp only [List.filter_filter, Option.filter_filter, hfree, hlinger]

/-! ## The mark (R21, R62) -/

/-- The slot is assigned and its region holds one of the addresses (R21). -/
def meets (r : Slot) (addrs : List Nat) : Bool := r.assigned && addrs.any r.covers

theorem mem_slotsMeeting (s : State) (addrs : List Nat) (i : SlotId) :
    i ∈ s.slotsMeeting addrs ↔ meets (s.slot i) addrs = true := by
  simp [State.slotsMeeting, meets, mem_slotList]

theorem slotsMeeting_nodup (s : State) (addrs : List Nat) : (s.slotsMeeting addrs).Nodup :=
  (List.nodup_finRange 64).filter _

/-- A record marked with ECC_FIXED, and one marked with ECC_BAD. -/
def markedFixed (r : Slot) : Slot := { r with flags := { r.flags with eccFixed := true } }

def markedBad (r : Slot) : Slot := { r with flags := { r.flags with eccBad := true } }

theorem mark_eq (s : State) (fixedAt badAt : List Nat) : s.mark fixedAt badAt =
    (s.slotsMeeting badAt).foldl State.quarantineMarked
      ((s.slotsMeeting badAt).foldl (fun s i => s.updSlot i markedBad)
        ((s.slotsMeeting fixedAt).foldl (fun s i => s.updSlot i markedFixed) s)) := rfl

/-- What the mark leaves of every record, free list and linger place. -/
theorem mark_spec (s : State) (fixedAt badAt : List Nat) :
    (∀ i, (s.mark fixedAt badAt).slot i = { s.slot i with
      st := if meets (s.slot i) badAt ∧ ((s.slot i).st = .free ∨ (s.slot i).st = .linger) then .quarantined else (s.slot i).st
      flags := { (s.slot i).flags with
        eccFixed := (s.slot i).flags.eccFixed || meets (s.slot i) fixedAt
        eccBad := (s.slot i).flags.eccBad || meets (s.slot i) badAt } }) ∧
      (s.mark fixedAt badAt).hostFree = s.hostFree.filter
        (fun i => !(meets (s.slot i) badAt && (s.slot i).st == .free && (s.slot i).owner == .host)) ∧
      (∀ m, (s.mark fixedAt badAt).lane m = { s.lane m with
        freeList := (s.lane m).freeList.filter
          (fun i => !(meets (s.slot i) badAt && (s.slot i).st == .free && (s.slot i).owner == .lane m))
        linger := (s.lane m).linger.filter (fun i => !(meets (s.slot i) badAt && (s.slot i).st == .linger)) }) := by
  rw [mark_eq]
  generalize hfixed : (s.slotsMeeting fixedAt).foldl (fun s i => s.updSlot i markedFixed) s = t
  generalize hbad : (s.slotsMeeting badAt).foldl (fun s i => s.updSlot i markedBad) t = u
  have hft : unchangedBut [.slots] s t := hfixed ▸ foldl_updSlot_frame _ _ s
  have hfu : unchangedBut [.slots] s u := frame_comp (hs := [.slots]) hft (hbad ▸ foldl_updSlot_frame _ _ t)
  have ht (i : SlotId) : t.slot i = { s.slot i with flags := { (s.slot i).flags with
      eccFixed := (s.slot i).flags.eccFixed || meets (s.slot i) fixedAt } } := by
    rw [← hfixed, foldl_updSlot_slot (f := markedFixed) (fun _ => rfl)]
    simp only [mem_slotsMeeting]
    cases meets (s.slot i) fixedAt <;> simp [markedFixed]
  have hu (i : SlotId) : u.slot i = { s.slot i with flags := { (s.slot i).flags with
      eccFixed := (s.slot i).flags.eccFixed || meets (s.slot i) fixedAt
      eccBad := (s.slot i).flags.eccBad || meets (s.slot i) badAt } } := by
    rw [← hbad, foldl_updSlot_slot (f := markedBad) (fun _ => rfl)]
    simp only [mem_slotsMeeting, ht]
    cases meets (s.slot i) badAt <;> simp [markedBad]
  have hmem (i : SlotId) : decide (i ∈ s.slotsMeeting badAt) = meets (s.slot i) badAt := by
    rw [Bool.eq_iff_iff, decide_eq_true_iff, mem_slotsMeeting]
  obtain ⟨hslot, hhost, hlane⟩ := foldl_quarantineMarked _ (slotsMeeting_nodup s badAt) u
  refine ⟨fun i => ?_, ?_, fun m => ?_⟩
  · simp only [hslot, mem_slotsMeeting, hu, quarantined]
    cases meets (s.slot i) badAt <;> simp
  · rw [hhost, show u.hostFree = s.hostFree from hfu .hostFree (by decide)]
    simp only [hmem, hu, freeFor, Bool.and_assoc]
  · rw [hlane, frame_lane hfu]
    simp only [hmem, hu, freeFor, Bool.and_assoc]

/-! ## The report (R19 to R24) -/

theorem satAdd_eq (c : BitVec 16) (k : Nat) : satAdd c k = plus c k := rfl

/-- The detail of ECC_UNCORRECTABLE: the first word's address, and the number of words from bit 20 up. -/
theorem placed_or_placed (a n k : Nat) : placed a 0 ||| placed n k = BitVec.ofNat 32 (a ||| 2 ^ k * n) := by
  apply BitVec.eq_of_toNat_eq
  simp [placed, Nat.shiftLeft_eq, Nat.mul_comm]

/-- A mark changes no slot's region, and leaves assigned slots assigned. -/
theorem mark_slotAt (s : State) (fixedAt badAt : List Nat) (a : Nat) :
    (s.mark fixedAt badAt).slotAt a = s.slotAt a := by
  rw [State.slotAt, State.slotAt]
  congr 1
  funext i
  rw [(mark_spec s fixedAt badAt).1 i]
  simp only [Slot.assigned, Slot.covers]
  split
  next h => rcases h.2 with h | h <;> rw [h] <;> rfl
  next => rfl

theorem reportCorrected_armed (s : State) (reader : Reader) (rs : List WordRead) :
    (s.reportCorrected reader rs).ecc = { s.ecc with
      reportArmed := s.ecc.reportArmed && (correctedOf rs).isEmpty } := by
  unfold State.reportCorrected
  split
  next h => simp [h]
  next w ws h =>
    split
    next harmed => rw [raise_frame _ _ .ecc (by decide)]; simp [h]
    next harmed =>
      rw [Bool.not_eq_true] at harmed
      simp only [h, harmed, List.isEmpty_cons, Bool.and_false]
      rw [← harmed]

/-- An event of the memory block. -/
def memoryEvent (t : State) (reader : Reader) (kind : Kind) (slot : Option SlotId) (detail : Nat) : Event :=
  ⟨kind, some 5, reader.source, slot, t.tb.count, BitVec.ofNat 32 detail⟩

/-- The events of a grant's corrected words: at most one, with the first of them. -/
def correctedEvents (t : State) (reader : Reader) (rs : List WordRead) : List Event :=
  match correctedOf rs with
  | [] => []
  | w :: _ => if t.ecc.reportArmed then [memoryEvent t reader .eccCorrected (t.slotAt w.addr) w.addr] else []

/-- The events of a grant's uncorrectable words: at most one, with the first of them and how many there are. -/
def uncorrectableEvents (t : State) (reader : Reader) (rs : List WordRead) : List Event :=
  match uncorrectableOf rs with
  | [] => []
  | w :: _ => [memoryEvent t reader .eccUncorrectable (t.slotAt w.addr) (w.addr ||| 1048576 * (uncorrectableOf rs).length)]

theorem raises_reportCorrected {es : List Event} {s t : State} (h : raises es s t) (reader : Reader) (rs : List WordRead) :
    raises (es ++ correctedEvents t reader rs) s (t.reportCorrected reader rs) := by
  unfold State.reportCorrected correctedEvents
  cases correctedOf rs with
  | nil => rw [List.append_nil]; exact h
  | cons w ws =>
    by_cases harmed : t.ecc.reportArmed = true
    · have hdisarm : unchangedBut [.ecc] t { t with ecc := { t.ecc with reportArmed := false } } := by
        intro f hf; cases f <;> first | rfl | exact absurd (by decide) hf
      simp only [harmed, if_true]
      exact raises_raise (raises_frame h hdisarm) _
    · simp only [if_neg harmed, List.append_nil]
      exact h

theorem raises_reportUncorrectable {es : List Event} {s t : State} (h : raises es s t) (reader : Reader)
    (rs : List WordRead) : raises (es ++ uncorrectableEvents t reader rs) s (t.reportUncorrectable reader rs) := by
  unfold State.reportUncorrectable uncorrectableEvents
  cases uncorrectableOf rs with
  | nil => rw [List.append_nil]; exact h
  | cons w ws =>
    simp only [placed_or_placed]
    exact raises_raise h _

/-- What the reads of a grant leave, with the records and lists as the mark leaves them. -/
theorem eccReport_spec (s : State) (reader : Reader) (rs : List WordRead) :
    let r := s.eccReport reader rs
    let m := s.mark ((correctedOf rs).map WordRead.addr) ((uncorrectableOf rs).map WordRead.addr)
    r.ecc = { s.ecc.counted reader rs with reportArmed := s.ecc.reportArmed && (correctedOf rs).isEmpty } ∧
      (∀ i, r.slot i = m.slot i) ∧ r.hostFree = m.hostFree ∧ (∀ n, r.lane n = m.lane n) ∧
      raises (correctedEvents s reader rs ++ uncorrectableEvents s reader rs) s r := by
  intro r m
  have hcount : unchangedBut [.ecc] s { s with ecc := s.ecc.counted reader rs } := by
    intro f hf; cases f <;> first | rfl | exact absurd (by decide) hf
  have hmarked := mark_spec { s with ecc := s.ecc.counted reader rs } ((correctedOf rs).map WordRead.addr)
    ((uncorrectableOf rs).map WordRead.addr)
  have hat := mark_slotAt { s with ecc := s.ecc.counted reader rs } ((correctedOf rs).map WordRead.addr)
    ((uncorrectableOf rs).map WordRead.addr)
  have hmark := mark_frame { s with ecc := s.ecc.counted reader rs } ((correctedOf rs).map WordRead.addr)
    ((uncorrectableOf rs).map WordRead.addr)
  obtain ⟨hslot, hhost, hlane⟩ := mark_spec s ((correctedOf rs).map WordRead.addr) ((uncorrectableOf rs).map WordRead.addr)
  have hr : r = State.reportUncorrectable (State.reportCorrected (State.mark { s with ecc := s.ecc.counted reader rs }
    ((correctedOf rs).map WordRead.addr) ((uncorrectableOf rs).map WordRead.addr)) reader rs) reader rs := rfl
  generalize State.mark { s with ecc := s.ecc.counted reader rs } ((correctedOf rs).map WordRead.addr)
    ((uncorrectableOf rs).map WordRead.addr) = t at *
  have hft := frame_comp (hs := [.ecc, .slots, .lanes, .hostFree]) hcount hmark
  have hecc : t.ecc = s.ecc.counted reader rs := hmark .ecc (by decide)
  have htb : t.tb = s.tb := hft .tb (by decide)
  have hc := reportCorrected_frame t reader rs
  have hu := reportUncorrectable_frame (t.reportCorrected reader rs) reader rs
  have hcu : unchangedBut [.ecc, .log, .irq] t r := hr ▸ frame_comp (hs := [.ecc, .log, .irq]) hc hu
  have hevents : raises (correctedEvents t reader rs ++ uncorrectableEvents (t.reportCorrected reader rs) reader rs) s r :=
    hr ▸ raises_reportUncorrectable (raises_reportCorrected (raises_start hft) reader rs) reader rs
  have harmed : t.ecc.reportArmed = s.ecc.reportArmed := by rw [hecc]; rfl
  have hat' (a : Nat) : (t.reportCorrected reader rs).slotAt a = s.slotAt a := by
    refine Eq.trans ?_ (hat a)
    simp only [State.slotAt, frame_slot hc]
  have hsame : correctedEvents t reader rs = correctedEvents s reader rs := by
    simp only [correctedEvents, memoryEvent, hat, harmed, htb]; rfl
  have hsame' : uncorrectableEvents (t.reportCorrected reader rs) reader rs = uncorrectableEvents s reader rs := by
    simp only [uncorrectableEvents, memoryEvent, hat', show (t.reportCorrected reader rs).tb = s.tb from
      (hc .tb (by decide)).trans htb]
  refine ⟨?_, fun i => ?_, ?_, fun n => ?_, hsame ▸ hsame' ▸ hevents⟩
  · rw [hr, hu .ecc (by decide), reportCorrected_armed, hecc]; rfl
  · rw [frame_slot hcu, hmarked.1, hslot]; rfl
  · rw [hcu .hostFree (by decide), hmarked.2.1, hhost]; rfl
  · rw [frame_lane hcu, hmarked.2.2, hlane]; rfl

/-- Settles O48: the counts and the latch, the mark, and the events in the order of R24. -/
theorem readsAreCountedMarkedAndReported : Obligations.ReadsAreCountedMarkedAndReported := by
  intro s reader rs corrected bad holds source event events r
  have hholds (ws : List WordRead) (i : SlotId) : holds ws i = meets (s.slot i) (ws.map WordRead.addr) := by
    simp only [holds, meets, List.any_map]; rfl
  have hsource : reader.source = source := by cases reader <;> rfl
  have hslotAt (w : WordRead) : s.slotAt w.addr = slotList.find? (holds [w]) := by
    rw [State.slotAt]
    congr 1
    funext i
    simp [hholds, meets]
  have hevents : correctedEvents s reader rs ++ uncorrectableEvents s reader rs = events := by
    simp only [correctedEvents, uncorrectableEvents, memoryEvent, hslotAt, hsource]; rfl
  obtain ⟨hecc, hslot, hhost, hlane, hraises⟩ := eccReport_spec s reader rs
  obtain ⟨hmslot, hmhost, hmlane⟩ := mark_spec s ((correctedOf rs).map WordRead.addr) ((uncorrectableOf rs).map WordRead.addr)
  refine ⟨by rw [hecc]; rfl, by rw [hecc]; rfl, by rw [hecc]; rfl, by rw [hecc]; rfl, fun i => ?_, ?_, fun m => ?_,
    hevents ▸ hraises, frame_mono (eccReport_frame s reader rs) (by decide)⟩
  · rw [hholds, hholds]; exact (hslot i).trans (hmslot i)
  · simp only [hholds]; exact hhost.trans hmhost
  · simp only [hholds]; exact (hlane m).trans (hmlane m)

end Sys2Proof.Proofs
end

section
/-! PROOFS. The end of a grant with nothing due: the moment it opens, the words it has written, and the reads it reports (R33). -/

set_option Elab.async false

namespace Sys2Proof.Proofs

open Sys2Proof.Machine Sys2Proof.Safety Sys2Proof.Laws

/-! ## The moment of a grant's end -/

/-- The state in another moment. -/
def atMoment (s : State) (m : Moment) : State := { s with moment := m }

theorem atMoment_frame (s : State) (m : Moment) : unchangedBut [.moment] s (atMoment s m) := by
  intro f hf; cases f <;> first | rfl | exact absurd (by decide) hf

/-- The state in the moment that a grant's end opens. -/
def ended (s : State) (g : Grant) : State := atMoment s ⟨[], [], s.opening g.who.source, false⟩

theorem ended_frame (s : State) (g : Grant) : unchangedBut [.moment] s (ended s g) := atMoment_frame s _

theorem ended_outstanding (s : State) (g : Grant) (q : Req) : (ended s g).outstanding q = false := rfl

theorem grantRow_calm {s : State} {g : Grant} (h : calm s) (hg : s.arb.grant = some g) {mine : Client → Bool}
    (hmine : mine g.who = true) (hfit : g.addr + g.count ≤ s.memWords) (finish : Grant → State → State) :
    s.grantRow mine finish = .next (finish g (ended s g)) := by
  have hfits : s.grantFits g = true := decide_eq_true hfit
  rw [State.grantRow, hg]
  simp only [hmine, hfits, if_true, joinMoment_calm h]
  rfl

theorem ended_nextDue {s : State} (h : calm s) (g : Grant) : (ended s g).nextDue = none := by
  obtain ⟨_, _, hasked, hcaused⟩ := calm_facts h
  have hnone := nextDue_sources s (s.opening g.who.source) false
  rw [hasked, hcaused] at hnone
  exact hnone.trans h.1

theorem ended_beforeMark {s : State} (h : calm s) (g : Grant) : (ended s g).beforeMark = ended s g :=
  beforeMark_none (ended_nextDue h g)

theorem closeGrant_frame (s : State) : unchangedBut [.arb] s s.closeGrant := by
  intro f hf; cases f <;> first | rfl | exact absurd (by decide) hf

/-! ## Words written (R33) -/

/-- Words written from an address upward read back sound, and no other word changes. -/
theorem written_spec {s r : State} {a : Nat} {ws : List Word} (hmem : r.mem = s.mem.writeWords a ws)
    (hwf : Memory.wf s.mem = true) :
    (∀ j w, ws[j]? = some w → r.mem.read (a + j) = ⟨w, 0⟩) ∧ otherWords a ws.length s r := by
  constructor
  · intro j w hw
    obtain ⟨hj, hget⟩ := List.getElem?_eq_some_iff.mp hw
    rw [hmem, read_writeWords ws s.mem a j hj hwf, hget]; rfl
  · intro b hb
    rw [hmem]
    exact read_writeWords_other ws s.mem a b hb

/-! ## Reports do not depend on the moment -/

theorem raise_atMoment (s : State) (m : Moment) (e : Event) : (atMoment s m).raise e = atMoment (s.raise e) m := by
  obtain ⟨hlog, hirq⟩ := raise_congr (s := s) (t := atMoment s m) e rfl rfl rfl rfl
  rw [raise_eq (atMoment s m), raise_eq s, hlog, hirq]
  rfl

theorem foldl_atMoment {α : Type} (f : State → α → State) (hf : ∀ s m x, f (atMoment s m) x = atMoment (f s x) m)
    (xs : List α) (m : Moment) : ∀ s, xs.foldl f (atMoment s m) = atMoment (xs.foldl f s) m := by
  induction xs with
  | nil => exact fun _ => rfl
  | cons x xs ih => intro s; rw [List.foldl_cons, List.foldl_cons, hf, ih]

theorem unlinger_atMoment (s : State) (m : Moment) (i : SlotId) :
    (atMoment s m).unlinger i = atMoment (s.unlinger i) m := by
  refine foldl_atMoment _ (fun s m n => ?_) laneList m s
  by_cases hn : (s.lane n).linger = some i
  · rw [if_pos hn, if_pos (show ((atMoment s m).lane n).linger = some i from hn)]; rfl
  · rw [if_neg hn, if_neg (show ¬ ((atMoment s m).lane n).linger = some i from hn)]

theorem unlistFree_atMoment (s : State) (m : Moment) (i : SlotId) :
    (atMoment s m).unlistFree i = atMoment (s.unlistFree i) m := by
  unfold State.unlistFree
  rw [show (atMoment s m).slot i = s.slot i from rfl]
  cases (s.slot i).owner <;> rfl

theorem quarantineMarked_atMoment (s : State) (m : Moment) (i : SlotId) :
    (atMoment s m).quarantineMarked i = atMoment (s.quarantineMarked i) m := by
  unfold State.quarantineMarked
  rw [show (atMoment s m).slot i = s.slot i from rfl, unlistFree_atMoment, unlinger_atMoment]
  cases (s.slot i).st <;> rfl

theorem mark_atMoment (s : State) (m : Moment) (fixedAt badAt : List Nat) :
    (atMoment s m).mark fixedAt badAt = atMoment (s.mark fixedAt badAt) m := by
  rw [mark_eq, mark_eq, show (atMoment s m).slotsMeeting = s.slotsMeeting from rfl,
    foldl_atMoment _ (fun _ _ _ => rfl), foldl_atMoment _ (fun _ _ _ => rfl),
    foldl_atMoment _ (fun s m i => quarantineMarked_atMoment s m i)]

theorem reportCorrected_atMoment (s : State) (m : Moment) (reader : Reader) (rs : List WordRead) :
    (atMoment s m).reportCorrected reader rs = atMoment (s.reportCorrected reader rs) m := by
  unfold State.reportCorrected
  cases correctedOf rs with
  | nil => rfl
  | cons w ws =>
    by_cases harmed : s.ecc.reportArmed = true
    · simp only [show (atMoment s m).ecc = s.ecc from rfl, harmed, if_true]
      exact raise_atMoment { s with ecc := { s.ecc with reportArmed := false } } m _
    · simp only [show (atMoment s m).ecc = s.ecc from rfl, if_neg harmed]

theorem reportUncorrectable_atMoment (s : State) (m : Moment) (reader : Reader) (rs : List WordRead) :
    (atMoment s m).reportUncorrectable reader rs = atMoment (s.reportUncorrectable reader rs) m := by
  unfold State.reportUncorrectable
  cases uncorrectableOf rs with
  | nil => rfl
  | cons w ws => exact raise_atMoment s m _

theorem eccReport_atMoment (s : State) (m : Moment) (reader : Reader) (rs : List WordRead) :
    (atMoment s m).eccReport reader rs = atMoment (s.eccReport reader rs) m := by
  have hcount : State.mark { atMoment s m with ecc := (atMoment s m).ecc.counted reader rs } =
      State.mark (atMoment { s with ecc := s.ecc.counted reader rs } m) := rfl
  simp only [State.eccReport, hcount, mark_atMoment, reportCorrected_atMoment, reportUncorrectable_atMoment]

/-! ## Events raised from another state -/

theorem foldl_raise_congr (es : List Event) : ∀ {s t : State}, t.log = s.log → t.irq = s.irq → t.cmd = s.cmd →
    t.sup = s.sup → (es.foldl State.raise t).log = (es.foldl State.raise s).log ∧
      (es.foldl State.raise t).irq = (es.foldl State.raise s).irq := by
  induction es with
  | nil => exact fun hlog hirq _ _ => ⟨hlog, hirq⟩
  | cons e es ih =>
    intro s t hlog hirq hcmd hsup
    obtain ⟨hlog', hirq'⟩ := raise_congr e hlog hirq hcmd hsup
    have hs := raise_frame s e
    have ht := raise_frame t e
    exact ih hlog' hirq' ((ht .cmd (by decide)).trans (hcmd.trans (hs .cmd (by decide)).symm))
      ((ht .sup (by decide)).trans (hsup.trans (hs .sup (by decide)).symm))

/-- What comes before the events touches neither the log nor the flags. -/
theorem raises_from {fs : List Field} {es : List Event} {s t u : State} (h : unchangedBut fs s t) (hr : raises es t u)
    (hlog : Field.log ∉ fs := by decide) (hirq : Field.irq ∉ fs := by decide) : raises es s u := by
  obtain ⟨hl, hi⟩ := hr
  obtain ⟨hl', hi'⟩ := foldl_raise_congr (s := { s with cmd := u.cmd, sup := u.sup })
    (t := { t with cmd := u.cmd, sup := u.sup }) es (h .log hlog) (h .irq hirq) rfl rfl
  exact ⟨hl.trans hl', hi.trans hi'⟩

/-! ## Reads (R33) -/

/-- The reads of a grant's end, reported: what the reads leave, in the moment of the end. -/
theorem ended_reads (s : State) (g : Grant) (reader : Reader) (m : Memory) (rs : List WordRead) :
    State.eccReport { ended s g with mem := m } reader rs =
      atMoment (afterReads s m reader rs) (ended s g).moment :=
  eccReport_atMoment { s with mem := m } (ended s g).moment reader rs

theorem afterReads_frame (s : State) (m : Memory) (reader : Reader) (rs : List WordRead) :
    unchangedBut [.mem, .ecc, .slots, .lanes, .hostFree, .log, .irq] s (afterReads s m reader rs) := by
  refine frame_comp (fs := [.mem]) ?_ (eccReport_frame { s with mem := m } reader rs)
  intro f hf; cases f <;> first | rfl | exact absurd (by decide) hf

end Sys2Proof.Proofs
end

section
/-! PROOFS. The grants of COPY, FILL and MEASURE (R141 to R148). -/

set_option Elab.async false

namespace Sys2Proof.Proofs

open Sys2Proof.Machine Sys2Proof.Safety Sys2Proof.Laws

/-! ## The end of a long command, and its going on -/

/-- A long command ends: the engine is idle, and the command completes. -/
theorem endLong_completes {fs : List Field} {t u : State} (h : unchangedBut fs t u) {c : LongCmd} {e : CmdEntry}
    {rest : List CmdEntry} (hc : u.eng.cmd = some c) (hq : u.cmd.queue = e :: rest) (res : Result) (v : Nat)
    (hd : ∀ f ∈ [Field.log, .irq, .cmd, .tb], f ∉ fs := by decide) :
    (u.endLong res v).eng = Engine.reset ∧ completes t (u.endLong res v) e res v c.slotIndex [] := by
  have hidle : unchangedBut (.eng :: fs) t { u with eng := Engine.reset } := by
    refine frame_comp h (gs := [.eng]) ?_ (List.subset_cons_self _ _) (by simp)
    intro f hf; cases f <;> first | rfl | exact absurd (by decide) hf
  have hdone := recordDone_finished hidle e res v c.slotIndex (by simpa using hd)
  rw [endLong_eq hc hq]
  refine ⟨?_, hdone.completes⟩
  rw [causeDispatch_frame _ .eng (by decide), recordDone_frame _ _ _ _ _ .eng (by decide)]

/-- A long command ends with its grant: the engine is idle, the command completes, and the grant is over. -/
theorem endLong_closed {fs : List Field} {t u : State} (h : unchangedBut fs t u) {c : LongCmd} {e : CmdEntry}
    {rest : List CmdEntry} (hc : u.eng.cmd = some c) (hq : u.cmd.queue = e :: rest) {arb : Arbiter} (harb : u.arb = arb)
    (res : Result) (v : Nat) (hd : ∀ f ∈ [Field.log, .irq, .cmd, .tb], f ∉ fs := by decide) :
    ∃ r, (u.endLong res v).closeGrant = r ∧ r.eng = ⟨none, false, 0, .idle, [], none, false⟩ ∧
      completes t r e res v c.slotIndex [] ∧ r.arb = { arb with grant := none } ∧
      unchangedBut [.eng, .arb, .moment, .cmd, .log, .irq] u r := by
  obtain ⟨hidle, hdone⟩ := endLong_completes h hc hq res v hd
  have hend := endLong_frame u res v
  generalize u.endLong res v = w at *
  refine ⟨_, rfl, hidle, hdone, ?_, frame_comp hend (closeGrant_frame w)⟩
  rw [← harb, ← show w.arb = u.arb from hend .arb (by decide)]
  rfl

theorem afterBurst_done {u : State} {total : Nat} (h : total ≤ u.eng.wordsDone) (next : Phase) :
    u.afterBurst total next = u.endLong .ok u.eng.wordsDone := by rw [State.afterBurst, if_pos h]

theorem afterBurst_aborted {u : State} {total : Nat} (h : ¬ total ≤ u.eng.wordsDone) (ha : u.eng.abortPending = true)
    (next : Phase) : u.afterBurst total next = u.endLong .aborted u.eng.wordsDone := by
  rw [State.afterBurst, if_neg h, if_pos ha]

theorem afterBurst_more {u : State} {total : Nat} (h : ¬ total ≤ u.eng.wordsDone) (ha : u.eng.abortPending = false)
    (next : Phase) : u.afterBurst total next = { u with eng := { u.eng with phase := next } } := by
  rw [State.afterBurst, if_neg h, if_neg (by rw [ha]; decide)]

/-- The first uncorrectable word of a grant's reads. -/
theorem firstBad_eq (rs : List WordRead) :
    firstBad rs = (rs.filter fun w => w.outcome == .uncorrectable).head?.map WordRead.addr := rfl

/-! ## COPY read grants (R143, R144) -/

theorem exec_copyReadGrantEnd {s : State} {a k : Nat} (flips : List Flip) (h : calm s)
    (hg : s.arb.grant = some ⟨.copyRead, a, k⟩) (hfit : a + k ≤ s.memWords) :
    let m := s.mem.disturb s.memWords flips
    let rs := m.readWords a k
    let u := atMoment (afterReads s m .engine rs) (ended s ⟨.copyRead, a, k⟩).moment
    exec (.copyReadGrantEnd flips) s = .next
      ((match firstBad rs with
        | some x => u.endLong .eccFault x
        | none => u.holdBurst rs).closeGrant.raiseWrite).arbitrate := by
  intro m rs u
  have hrow : exec (.copyReadGrantEnd flips) s =
      .next ((ended s ⟨.copyRead, a, k⟩).endCopyRead ⟨.copyRead, a, k⟩ flips) :=
    grantRow_calm (mine := (· == .copyRead)) h hg rfl hfit fun g s => s.endCopyRead g flips
  rw [hrow, State.endCopyRead, ended_beforeMark h]
  exact congrArg (fun t : State => Host.Outcome.next ((match firstBad rs with
    | some x => t.endLong .eccFault x
    | none => t.holdBurst rs).closeGrant.raiseWrite).arbitrate) (ended_reads s _ .engine m rs)

theorem copyReadGrants (s : State) (src dst count a k : Nat) (flips : List Flip) (e : CmdEntry) (more : List CmdEntry)
    (h : calm s) (hg : s.arb.grant = some ⟨.copyRead, a, k⟩) (hfit : a + k ≤ s.memWords)
    (hc : s.eng.cmd = some (.copy src dst count)) (hq : s.cmd.queue = e :: more) :
    let m := s.mem.disturb s.memWords flips
    let rs := m.readWords a k
    let t := afterReads s m .engine rs
    let bad := rs.filter fun w => w.outcome == .uncorrectable
    (bad = [] → ∃ r, exec (.copyReadGrantEnd flips) s = .next r.arbitrate ∧
      r.eng = { s.eng with phase := .writeWait, held := rs.map WordRead.data } ∧
      r.arb = { s.arb with grant := none } ∧ unchangedBut [.eng, .arb, .moment] t r) ∧
      ∀ w ws, bad = w :: ws → ∃ r, exec (.copyReadGrantEnd flips) s = .next r.arbitrate ∧
        r.eng = ⟨none, false, 0, .idle, [], none, false⟩ ∧ r.arb = { s.arb with grant := none } ∧
        completes t r e .eccFault w.addr none [] ∧ unchangedBut [.eng, .arb, .moment, .cmd, .log, .irq] t r := by
  intro m rs t bad
  have hexec := exec_copyReadGrantEnd flips h hg hfit
  have hreads := afterReads_frame s m .engine rs
  have hmoment := atMoment_frame t (ended s ⟨.copyRead, a, k⟩).moment
  change exec _ s = .next ((match bad.head?.map WordRead.addr with
    | some x => (atMoment t (ended s ⟨.copyRead, a, k⟩).moment).endLong .eccFault x
    | none => (atMoment t (ended s ⟨.copyRead, a, k⟩).moment).holdBurst rs).closeGrant.raiseWrite).arbitrate at hexec
  generalize atMoment t (ended s ⟨.copyRead, a, k⟩).moment = u at *
  have hsu := frame_comp (hs := [.mem, .ecc, .slots, .lanes, .hostFree, .log, .irq, .moment]) hreads hmoment
  have heng : u.eng = s.eng := hsu .eng (by decide)
  have harb : u.arb = s.arb := hsu .arb (by decide)
  have hcmd : u.cmd = s.cmd := hsu .cmd (by decide)
  refine ⟨fun hbad => ?_, fun w ws hbad => ?_⟩
  · rw [hbad] at hexec
    refine ⟨_, hexec, ?_, ?_, ?_⟩
    · rw [← heng]; rfl
    · rw [← harb]; rfl
    · refine frame_comp (gs := [.eng, .arb]) hmoment ?_
      intro f hf; cases f <;> first | rfl | exact absurd (by decide) hf
  · rw [hbad] at hexec
    simp only [List.head?_cons, Option.map_some] at hexec
    obtain ⟨r, hr, hidle, hdone, ha, hframe⟩ := endLong_closed hmoment (heng ▸ hc) (hcmd ▸ hq) harb .eccFault w.addr
    have hno : r.raiseWrite = r := if_neg (by rw [hidle]; decide)
    rw [hr, hno] at hexec
    exact ⟨r, hexec, hidle, ha, hdone, frame_comp hmoment hframe⟩

/-! ## COPY write and FILL grants (R143, R145, R148) -/

/-- The state as steps 1 and 2 of a write grant of the engine leave it. -/
def wroteBurst (s : State) (g : Grant) : State := ((ended s g).wroteGrant g).countDone g.count

theorem wroteBurst_frame (s : State) (g : Grant) : unchangedBut [.mem, .eng, .moment] s (wroteBurst s g) := by
  intro f hf; cases f <;> first | rfl | exact absurd (by decide) hf

/-- How many words a long command has in all. -/
def commandWords (s : State) : LongCmd → Nat
  | .copy _ _ count => count
  | .fill _ count _ _ => count
  | .measure i => (s.slot i).length

theorem longTotal_of {u : State} {c : LongCmd} (h : u.eng.cmd = some c) : u.longTotal = commandWords u c := by
  rw [State.longTotal, h]
  cases c <;> rfl

theorem exec_fillGrantEnd {s : State} {a k : Nat} (h : calm s) (hg : s.arb.grant = some ⟨.fill, a, k⟩)
    (hfit : a + k ≤ s.memWords) {c : LongCmd} (hc : s.eng.cmd = some c) :
    exec .fillGrantEnd s = .next (((wroteBurst s ⟨.fill, a, k⟩).afterBurst (commandWords s c) .writeWait).closeGrant).arbitrate := by
  have hrow : exec .fillGrantEnd s = .next ((ended s ⟨.fill, a, k⟩).endFillGrant ⟨.fill, a, k⟩) :=
    grantRow_calm (mine := (· == .fill)) h hg rfl hfit fun g s => s.endFillGrant g
  rw [hrow, State.endFillGrant]
  have htotal : (wroteBurst s ⟨.fill, a, k⟩).longTotal = commandWords s c := longTotal_of hc
  rw [← htotal]; rfl

theorem exec_copyWriteGrantEnd {s : State} {a k : Nat} (h : calm s) (hg : s.arb.grant = some ⟨.copyWrite, a, k⟩)
    (hfit : a + k ≤ s.memWords) {c : LongCmd} (hc : s.eng.cmd = some c) :
    exec .copyWriteGrantEnd s =
      .next (((wroteBurst s ⟨.copyWrite, a, k⟩).afterBurst (commandWords s c) .readWait).closeGrant).arbitrate := by
  have hrow : exec .copyWriteGrantEnd s = .next ((ended s ⟨.copyWrite, a, k⟩).endCopyWrite ⟨.copyWrite, a, k⟩) :=
    grantRow_calm (mine := (· == .copyWrite)) h hg rfl hfit fun g s => s.endCopyWrite g
  rw [hrow, State.endCopyWrite]
  have htotal : (wroteBurst s ⟨.copyWrite, a, k⟩).longTotal = commandWords s c := longTotal_of hc
  rw [← htotal]; rfl

/-- A burst that has been written: the command's end, or its going on, with the memory as the burst leaves it. -/
theorem burst_goesOn {s u : State} {c : LongCmd} {e : CmdEntry} {more : List CmdEntry} {row : Instr} {next : Phase}
    {total k a : Nat} {ws : List Word} (hu : unchangedBut [.mem, .eng, .moment] s u)
    (heng : u.eng = { s.eng with wordsDone := s.eng.wordsDone + k, held := [] })
    (hmem : u.mem = s.mem.writeWords a ws) (hlen : ws.length = k) (hwf : Memory.wf s.mem = true)
    (hc : s.eng.cmd = some c) (hslot : c.slotIndex = none) (hq : s.cmd.queue = e :: more)
    (hexec : exec row s = .next ((u.afterBurst total next).closeGrant).arbitrate) :
    let done := s.eng.wordsDone + k
    ∃ r, exec row s = .next r.arbitrate ∧ r.arb = { s.arb with grant := none } ∧
      (∀ j w, ws[j]? = some w → r.mem.read (a + j) = ⟨w, 0⟩) ∧ otherWords a k s r ∧
      (if total ≤ done then
        r.eng = ⟨none, false, 0, .idle, [], none, false⟩ ∧ completes s r e .ok done none []
      else if s.eng.abortPending then
        r.eng = ⟨none, false, 0, .idle, [], none, false⟩ ∧ completes s r e .aborted done none []
      else
        r.eng = { s.eng with wordsDone := done, held := [], phase := next } ∧
          unchangedBut [.mem, .arb, .eng, .moment] s r) ∧
      unchangedBut [.mem, .arb, .eng, .moment, .cmd, .log, .irq] s r := by
  intro done
  have hcu : u.eng.cmd = some c := by rw [heng]; exact hc
  have hqu : u.cmd.queue = e :: more := by rw [show u.cmd = s.cmd from hu .cmd (by decide)]; exact hq
  have harb : u.arb = s.arb := hu .arb (by decide)
  have hwords : u.eng.wordsDone = done := by rw [heng]
  have hpending : u.eng.abortPending = s.eng.abortPending := by rw [heng]
  have hwrote (r : State) (hr : r.mem = u.mem) :
      (∀ j w, ws[j]? = some w → r.mem.read (a + j) = ⟨w, 0⟩) ∧ otherWords a k s r :=
    hlen ▸ written_spec (hr.trans hmem) hwf
  by_cases hall : total ≤ done
  · rw [afterBurst_done (hwords ▸ hall), hwords] at hexec
    obtain ⟨r, hr, hidle, hdone, ha, hframe⟩ := endLong_closed hu hcu hqu harb .ok done
    rw [hr] at hexec
    obtain ⟨hread, hother⟩ := hwrote r (hframe .mem (by decide))
    exact ⟨r, hexec, ha, hread, hother, by rw [if_pos hall]; exact ⟨hidle, hslot ▸ hdone⟩, frame_comp hu hframe⟩
  · cases hab : s.eng.abortPending with
    | true =>
      rw [afterBurst_aborted (hwords ▸ hall) (hpending.trans hab), hwords] at hexec
      obtain ⟨r, hr, hidle, hdone, ha, hframe⟩ := endLong_closed hu hcu hqu harb .aborted done
      rw [hr] at hexec
      obtain ⟨hread, hother⟩ := hwrote r (hframe .mem (by decide))
      exact ⟨r, hexec, ha, hread, hother, by rw [if_neg hall, if_pos rfl]; exact ⟨hidle, hslot ▸ hdone⟩,
        frame_comp hu hframe⟩
    | false =>
      rw [afterBurst_more (hwords ▸ hall) (hpending.trans hab)] at hexec
      have hmore : unchangedBut [.eng, .arb] u ({ u with eng := { u.eng with phase := next } } : State).closeGrant := by
        intro f hf; cases f <;> first | rfl | exact absurd (by decide) hf
      have hframe := frame_comp (hs := [.mem, .arb, .eng, .moment]) hu hmore
      obtain ⟨hread, hother⟩ := hwrote _ (hmore .mem (by decide))
      refine ⟨_, hexec, by rw [← harb]; rfl, hread, hother, ?_, frame_mono hframe (by decide)⟩
      rw [if_neg hall, if_neg (by decide)]
      refine ⟨?_, hframe⟩
      show ({ u.eng with phase := next } : Engine) = _
      rw [heng]

/-- Settles O52: the reads and writes of the engine's grants, each with the command's end or its going on. -/
theorem copyAndFillGrants : Obligations.CopyAndFillGrants := by
  refine ⟨copyReadGrants, ?_⟩
  intro s c a k total e more fills h hwf hg hfit hc hq hcase row done word
  cases c with
  | measure i => exact hcase.elim
  | copy src dst count =>
    obtain ⟨rfl, hheld, rfl⟩ := hcase
    obtain ⟨r, hr, ha, hread, hrest⟩ := burst_goesOn (ws := s.eng.held.take k) (wroteBurst_frame s ⟨.copyWrite, a, k⟩)
      rfl rfl (List.length_take.trans (min_eq_left hheld)) hwf hc rfl hq (exec_copyWriteGrantEnd h hg hfit hc)
    refine ⟨r, hr, ha, fun j w hj hw => hread j w ?_, hrest⟩
    rw [List.getElem?_take_of_lt hj]; exact hw
  | fill dst count pattern step =>
    obtain ⟨rfl, rfl⟩ := hcase
    have hmem : (wroteBurst s ⟨.fill, a, k⟩).mem =
        s.mem.writeWords a (fillWords pattern step s.eng.wordsDone k) := by
      have hwords : (ended s ⟨.fill, a, k⟩).wordsWritten ⟨.fill, a, k⟩ k = fillWords pattern step s.eng.wordsDone k := by
        simp only [State.wordsWritten, show (ended s ⟨.fill, a, k⟩).eng = s.eng from rfl, hc]
      rw [← hwords]; rfl
    obtain ⟨r, hr, ha, hread, hrest⟩ := burst_goesOn (wroteBurst_frame s ⟨.fill, a, k⟩)
      rfl hmem (by rw [fillWords, List.length_map, List.length_range]) hwf hc rfl hq (exec_fillGrantEnd h hg hfit hc)
    refine ⟨r, hr, ha, fun j w hj hw => hread j w ?_, hrest⟩
    rw [fillWords, List.getElem?_map, List.getElem?_range hj]
    exact hw

/-! ## MEASURE grants (R146) -/

theorem exec_measureGrantEnd {s : State} {a k : Nat} (flips : List Flip) (h : calm s)
    (hg : s.arb.grant = some ⟨.measure, a, k⟩) (hfit : a + k ≤ s.memWords) :
    let m := s.mem.disturb s.memWords flips
    let rs := m.readWords a k
    let u := atMoment (afterReads s m .engine rs) (ended s ⟨.measure, a, k⟩).moment
    let v := (u.measured rs).storeStats
    exec (.measureGrantEnd flips) s = .next
      ((match firstBad rs with
        | some x => u.failMeasure x
        | none => v.afterBurst v.longTotal .readWait).closeGrant).arbitrate := by
  intro m rs u
  have hrow : exec (.measureGrantEnd flips) s =
      .next ((ended s ⟨.measure, a, k⟩).endMeasure ⟨.measure, a, k⟩ flips) :=
    grantRow_calm (mine := (· == .measure)) h hg rfl hfit fun g s => s.endMeasure g flips
  rw [hrow, State.endMeasure, ended_beforeMark h]
  exact congrArg (fun t : State => Host.Outcome.next ((match firstBad rs with
    | some x => t.failMeasure x
    | none => State.afterBurst (t.measured rs).storeStats (t.measured rs).storeStats.longTotal .readWait).closeGrant).arbitrate)
    (ended_reads s _ .engine m rs)

theorem length_readWords (m : Memory) (a k : Nat) : (m.readWords a k).length = k := by
  rw [Memory.readWords, List.length_map, List.length_range]

/-- A slot's length is not what a report touches. -/
theorem afterReads_length (s : State) (m : Memory) (reader : Reader) (rs : List WordRead) (i : SlotId) :
    ((afterReads s m reader rs).slot i).length = (s.slot i).length := by
  rw [afterReads, (eccReport_spec _ _ _).2.1, (mark_spec _ _ _).1]; rfl

theorem failMeasure_eq {u : State} {i : SlotId} (h : u.eng.cmd = some (.measure i)) (x : Nat) :
    u.failMeasure x = (u.updSlot i fun t => { t with stats := none }).endLong .eccFault x := by
  rw [State.failMeasure, h]

/-- A MEASURE burst's words are taken in: nothing but the engine changes. -/
theorem measured_eng {u : State} {x : RunningStats} (h : u.eng.stats = some x) (rs : List WordRead) :
    (u.measured rs).eng = { u.eng with
      wordsDone := u.eng.wordsDone + rs.length, held := [], stats := some (x.addAll (rs.map WordRead.data)) } := by
  rw [State.measured, h]; rfl

theorem measured_frame (u : State) (rs : List WordRead) : unchangedBut [.eng] u (u.measured rs) := by
  intro f hf; cases f <;> first | rfl | exact absurd (by decide) hf

theorem storeStats_eq {v : State} {i : SlotId} {y : RunningStats} (hc : v.eng.cmd = some (.measure i))
    (hy : v.eng.stats = some y) : v.storeStats =
      if (v.slot i).length ≤ v.eng.wordsDone then v.updSlot i fun t => { t with stats := some y.finish } else v := by
  rw [State.storeStats, hc, hy, longTotal_of hc]; rfl

/-- Settles O53: the Frame Inspector over the bits of a frame, and the four ends of a MEASURE grant. -/
theorem measureGrants : Obligations.MeasureGrants := by
  refine ⟨⟨fun reg w => ?_, fun x ws => addAll_eq ws x, statsOf_eq⟩, ?_⟩
  · have hbits : frameBits [w] = wordBits w := by rw [frameBits_cons, frameBits_nil, List.append_nil]
    exact (crcWord_eq reg w).trans (by rw [← hbits]; rfl)
  intro s i x a k flips e more h hg hfit hc hx hq m rs t bad done y idle row
  have hexec := exec_measureGrantEnd flips h hg hfit
  change exec row s = .next ((match bad.head?.map WordRead.addr with
    | some x => (atMoment t (ended s ⟨.measure, a, k⟩).moment).failMeasure x
    | none => State.afterBurst ((atMoment t (ended s ⟨.measure, a, k⟩).moment).measured rs).storeStats
      ((atMoment t (ended s ⟨.measure, a, k⟩).moment).measured rs).storeStats.longTotal .readWait).closeGrant).arbitrate
    at hexec
  have hreads : unchangedBut [.mem, .ecc, .slots, .lanes, .hostFree, .log, .irq] s t := afterReads_frame s m .engine rs
  have hlength : (t.slot i).length = (s.slot i).length := afterReads_length s m .engine rs i
  have hmoment := atMoment_frame t (ended s ⟨.measure, a, k⟩).moment
  generalize atMoment t (ended s ⟨.measure, a, k⟩).moment = u at *
  have hsu := frame_comp (hs := [.mem, .ecc, .slots, .lanes, .hostFree, .log, .irq, .moment]) hreads hmoment
  have heng : u.eng = s.eng := hsu .eng (by decide)
  have harb : u.arb = s.arb := hsu .arb (by decide)
  have hcmd : u.cmd = s.cmd := hsu .cmd (by decide)
  have hcu : u.eng.cmd = some (.measure i) := heng ▸ hc
  have hqu : u.cmd.queue = e :: more := hcmd ▸ hq
  refine ⟨fun w ws hbad => ?_, fun hbad hle => ?_, fun hbad hlt hab => ?_, fun hbad hlt hab => ?_⟩
  · rw [hbad] at hexec
    simp only [List.head?_cons, Option.map_some, failMeasure_eq hcu] at hexec
    have hupd := updSlot_frame u i fun r => { r with stats := none }
    have hu := frame_comp (hs := [.moment, .slots]) hmoment hupd
    obtain ⟨r, hr, hidle, hdone, ha, hframe⟩ := endLong_closed hu hcu hqu harb .eccFault w.addr
    rw [hr] at hexec
    refine ⟨r, hexec, hidle, ?_, fun j hj => ?_, hdone, ha, frame_comp hu hframe⟩
    · rw [frame_slot hframe, slot_updSlot, if_pos rfl, frame_slot hmoment]
    · rw [frame_slot hframe, slot_updSlot, if_neg hj, frame_slot hmoment]
  all_goals
    rw [hbad] at hexec
    simp only [List.head?_nil, Option.map_none] at hexec
    have heng' := measured_eng (heng ▸ hx) rs
    rw [length_readWords, heng] at heng'
    have hmeasured := frame_comp (hs := [.moment, .eng]) hmoment (measured_frame u rs)
    have harb' : (u.measured rs).arb = s.arb := harb
    have hqv : (u.measured rs).cmd.queue = e :: more := hqu
    generalize u.measured rs = v at *
    have hcv : v.eng.cmd = some (.measure i) := by rw [heng']; exact hc
    have hstore := storeStats_eq hcv (show v.eng.stats = some y by rw [heng'])
    have hwords : v.eng.wordsDone = done := by rw [heng']
    have hpending : v.eng.abortPending = s.eng.abortPending := by rw [heng']
    rw [frame_slot hmeasured, hlength, hwords] at hstore
  · rw [hstore, if_pos hle] at hexec
    have hupd := updSlot_frame v i fun r => { r with stats := some y.finish }
    have hu := frame_comp (hs := [.moment, .eng, .slots]) hmeasured hupd
    have hlen : State.longTotal (v.updSlot i fun r => { r with stats := some y.finish }) ≤ v.eng.wordsDone := by
      rw [longTotal_of (u := v.updSlot i fun r => { r with stats := some y.finish }) hcv, commandWords, slot_updSlot,
        if_pos rfl, frame_slot hmeasured, hwords]
      exact hlength ▸ hle
    rw [afterBurst_done (u := v.updSlot i fun r => { r with stats := some y.finish }) hlen] at hexec
    obtain ⟨r, hr, hidle, hdone, ha, hframe⟩ := endLong_closed hu hcv hqv harb' .ok v.eng.wordsDone
    rw [show (v.updSlot i fun r => { r with stats := some y.finish }).eng = v.eng from rfl, hr] at hexec
    refine ⟨r, hexec, hidle, ?_, fun j hj => ?_, hwords ▸ hdone, ha, frame_comp hu hframe⟩
    · rw [frame_slot hframe, slot_updSlot, if_pos rfl, frame_slot hmeasured]; rfl
    · rw [frame_slot hframe, slot_updSlot, if_neg hj, frame_slot hmeasured]
  all_goals
    have hless : ¬ v.longTotal ≤ v.eng.wordsDone := by
      rw [longTotal_of hcv, commandWords, frame_slot hmeasured, hlength, hwords]
      omega
    rw [hstore, if_neg (by omega)] at hexec
  · rw [afterBurst_aborted hless (hpending.trans hab)] at hexec
    obtain ⟨r, hr, hidle, hdone, ha, hframe⟩ := endLong_closed hmeasured hcv hqv harb' .aborted v.eng.wordsDone
    rw [hr] at hexec
    exact ⟨r, hexec, hidle, hwords ▸ hdone, ha, frame_comp hmeasured hframe⟩
  · rw [afterBurst_more hless (hpending.trans hab)] at hexec
    refine ⟨_, hexec, ?_, by rw [← harb']; rfl, frame_comp (gs := [.eng, .arb]) hmeasured ?_⟩
    · show ({ v.eng with phase := .readWait } : Engine) = _
      rw [heng']
    · intro f hf; cases f <;> first | rfl | exact absurd (by decide) hf

end Sys2Proof.Proofs
end

section
/-! PROOFS. The Scrubber's grant and request, and the end of the init sweep (R25, R28 to R30, R44). -/

set_option Elab.async false

namespace Sys2Proof.Proofs

open Sys2Proof.Machine Sys2Proof.Safety Sys2Proof.Laws

/-! ## Memory written back, and zeros -/

/-- Words written at distinct addresses read back sound. -/
theorem read_foldl_write (cs : List WordRead) : ∀ m : Memory, Memory.wf m = true → (cs.map WordRead.addr).Nodup →
    ∀ w ∈ cs, (cs.foldl (fun m r => m.write r.addr r.data) m).read w.addr = ⟨w.data, 0⟩ := by
  induction cs with
  | nil => intro m _ _ w hw; exact absurd hw List.not_mem_nil
  | cons c cs ih =>
    intro m hm hnd w hw
    obtain ⟨hc, hcs⟩ := List.nodup_cons.mp hnd
    rw [List.foldl_cons]
    rcases List.mem_cons.mp hw with rfl | hw
    · have hrest : ∀ ds : List WordRead, (∀ d ∈ ds, d.addr ≠ w.addr) → ∀ m' : Memory,
          (ds.foldl (fun m r => m.write r.addr r.data) m').read w.addr = m'.read w.addr := by
        intro ds
        induction ds with
        | nil => exact fun _ _ => rfl
        | cons d ds ihd =>
          intro hds m'
          rw [List.foldl_cons, ihd fun x hx => hds x (List.mem_cons_of_mem _ hx)]
          exact read_write_other m' d.addr w.addr d.data (hds d List.mem_cons_self).symm
      rw [hrest cs fun d hd heq => hc (heq ▸ List.mem_map_of_mem hd)]
      exact read_write_same m w.addr w.data hm
    · exact ih _ (write_wf m c.addr c.data hm) hcs w hw

theorem readWords_addr (m : Memory) (a k : Nat) : (m.readWords a k).map WordRead.addr = (List.range k).map (a + ·) := by
  rw [Memory.readWords, List.map_map]; rfl

theorem readWords_addr_nodup (m : Memory) (a k : Nat) : ((m.readWords a k).map WordRead.addr).Nodup := by
  rw [readWords_addr]
  exact List.nodup_range.map fun x y h => Nat.add_left_cancel h

/-- A grant's corrected words, written back, read as sound. -/
theorem read_writeBack {m : Memory} (h : Memory.wf m = true) (a k : Nat) :
    ∀ w ∈ correctedOf (m.readWords a k), (m.writeBack (m.readWords a k)).read w.addr = ⟨w.data, 0⟩ :=
  read_foldl_write _ m h ((readWords_addr_nodup m a k).sublist ((List.filter_sublist).map _))

theorem find_zeroFrom (m : Memory) (lo hi a : Nat) :
    Memory.find (m.zeroFrom lo hi) a = if lo ≤ a ∧ a < hi then none else Memory.find m a := by
  induction m with
  | nil => simp [Memory.zeroFrom, Memory.find]
  | cons hd tl ih =>
    obtain ⟨b, c⟩ := hd
    rw [Memory.zeroFrom] at ih
    rw [Memory.zeroFrom, List.filter_cons]
    by_cases hb : lo ≤ b ∧ b < hi
    · simp only [hb.1, hb.2, decide_true, Bool.and_self, Bool.not_true, Bool.false_eq_true, if_false, ih, Memory.find]
      by_cases hba : b = a
      · subst hba; simp [hb]
      · simp [hba]
    · have hkeep : (!(decide (lo ≤ b) && decide (b < hi))) = true := by
        rw [Bool.not_eq_true', Bool.and_eq_false_iff, decide_eq_false_iff_not, decide_eq_false_iff_not]
        omega
      simp only [hkeep, if_true, Memory.find, ih]
      by_cases hba : b = a
      · subst hba; simp [hb]
      · simp [hba]

theorem read_zeroFrom (m : Memory) (lo hi a : Nat) :
    (m.zeroFrom lo hi).read a = if lo ≤ a ∧ a < hi then ⟨0, 0⟩ else m.read a := by
  rw [Memory.read, find_zeroFrom]
  split <;> rfl

/-! ## The Scrubber's burst (R28 to R30) -/

/-- The events of a burst's end: SCRUB_PASS with the tallies, at a wrap, if it is enabled. -/
def passEvents (u : State) (pos : Nat) : List Event :=
  if pos = 0 ∧ u.scrub.passEvent = true then
    [⟨.scrubPass, some 5, 9, none, u.tb.count, BitVec.ofNat 32 (u.scrub.corrTally.toNat + 65536 * u.scrub.uncorrTally.toNat)⟩]
  else []

theorem scrubAdvance_spec (u : State) :
    let pos := (u.scrub.pos + 8) % u.memWords
    u.scrubAdvance.scrub = { u.scrub with
      pos := pos, interval := 0, corrTally := if pos = 0 then 0 else u.scrub.corrTally
      uncorrTally := if pos = 0 then 0 else u.scrub.uncorrTally } ∧
      raises (passEvents u pos) u u.scrubAdvance ∧ unchangedBut [.scrub, .log, .irq] u u.scrubAdvance := by
  intro pos
  have hset (c : Scrubber) : unchangedBut [.scrub] u { u with scrub := c } := by
    intro f hf; cases f <;> first | rfl | exact absurd (by decide) hf
  by_cases hwrap : pos = 0
  · have hcleared : { u.scrub with
        pos := pos, interval := 0, corrTally := if pos = 0 then 0 else u.scrub.corrTally
        uncorrTally := if pos = 0 then 0 else u.scrub.uncorrTally } =
        ({ u.scrub with pos := pos, interval := 0, corrTally := 0, uncorrTally := 0 } : Scrubber) := by
      rw [if_pos hwrap, if_pos hwrap]
    rw [hcleared]
    have hframe := hset { u.scrub with pos := pos, interval := 0, corrTally := 0, uncorrTally := 0 }
    have hadvance : u.scrubAdvance = (if u.scrub.passEvent then
        State.raise { u with scrub := { u.scrub with pos := pos, interval := 0, corrTally := 0, uncorrTally := 0 } }
          (u.event .scrubPass memoryGroup 9 none (halves u.scrub.corrTally.toNat u.scrub.uncorrTally.toNat))
      else { u with scrub := { u.scrub with pos := pos, interval := 0, corrTally := 0, uncorrTally := 0 } }) := if_pos hwrap
    rw [hadvance]
    cases hpass : u.scrub.passEvent with
    | true =>
      rw [if_pos rfl, passEvents, if_pos ⟨hwrap, hpass⟩, halves_eq u.scrub.corrTally.isLt u.scrub.uncorrTally.isLt]
      exact ⟨raise_frame _ _ .scrub (by decide), raises_first hframe _, frame_comp hframe (raise_frame _ _)⟩
    | false =>
      rw [if_neg (by decide), passEvents, if_neg (by rw [hpass]; simp)]
      exact ⟨rfl, raises_start hframe, frame_mono hframe (by decide)⟩
  · rw [show u.scrubAdvance = { u with scrub := { u.scrub with pos := pos, interval := 0 } } from if_neg hwrap, passEvents,
      if_neg (fun h : pos = 0 ∧ _ => hwrap h.1), if_neg hwrap, if_neg hwrap]
    exact ⟨rfl, raises_start (hset _), frame_mono (hset _) (by decide)⟩

/-- A raised request of a Scrubber whose interval has just restarted, with no grant in progress. -/
theorem scrubRaise_restarted {v : State} (hgrant : v.arb.grant = none) (hinterval : v.scrub.interval = 0) :
    v.scrubRaise = { v with scrub := { v.scrub with request := v.scrub.request ||
      (v.scrub.enabled && !v.sweep.running && v.power != .retain && v.scrub.n == 0) } } := by
  have hn : decide (v.scrub.n ≤ v.scrub.interval) = (v.scrub.n == 0) := by
    rw [hinterval, beq_eq_decide, decide_eq_decide]
    exact BitVec.le_zero_iff
  have hcounting : v.scrubCounting = (v.scrub.enabled && !v.scrub.request && !v.sweep.running && v.power != .retain) := by
    rw [State.scrubCounting, hgrant, Bool.and_true]
  have hrequest : (v.scrub.request || (v.scrub.enabled && !v.scrub.request && !v.sweep.running && v.power != .retain &&
      v.scrub.n == 0)) = (v.scrub.request || (v.scrub.enabled && !v.sweep.running && v.power != .retain && v.scrub.n == 0)) := by
    cases v.scrub.request <;> simp
  rw [scrubRaise_eq, hn, hcounting, hrequest]

/-! ## A RETAIN request that waited (R44, R172) -/

theorem answerRetain_none {v : State} (h : v.port.waiting ≠ some .retain) : v.answerRetain = v := by
  unfold State.answerRetain
  split
  next hw => exact absurd hw h
  all_goals rfl

theorem answerRetain_some {v : State} (h : v.port.waiting = some .retain) : v.answerRetain = { v with
    power := .retain
    port := { v.port with waiting := none, stallCount := 0, resp := .ok, rdata := none }
    sup := if v.sup.st = .armed then { v.sup with st := .running, windowCount := 0 } else v.sup } := by
  rw [State.answerRetain, h]
  simp only [State.enterRetain, respondOk_eq]
  congr 1
  by_cases harmed : v.sup.st = .armed
  · rw [if_pos harmed]; exact counted_unarmed nofun
  · rw [if_neg harmed]; exact counted_unarmed harmed

/-! ## The rows -/

/-- The state as a Scrubber grant's end leaves it, but for the RETAIN request that it may answer. -/
def scrubbedState (u : State) (rs : List WordRead) : State :=
  (State.scrubAdvance { u with scrub := u.scrub.tallied rs }).closeGrant.scrubRaise

theorem exec_scrubGrantEnd {s : State} {a k : Nat} (flips : List Flip) (h : calm s)
    (hg : s.arb.grant = some ⟨.scrub, a, k⟩) (hfit : a + k ≤ s.memWords) {m : Memory} {rs : List WordRead}
    (hm : s.mem.disturb s.memWords flips = m) (hrs : m.readWords a k = rs) :
    exec (.scrubGrantEnd flips) s = .next (State.arbitrate (State.answerRetain (scrubbedState
      (atMoment (afterReads s (m.writeBack rs) .scrubber rs) (ended s ⟨.scrub, a, k⟩).moment) rs))) := by
  have hrow : exec (.scrubGrantEnd flips) s =
      .next ((ended s ⟨.scrub, a, k⟩).endScrub ⟨.scrub, a, k⟩ flips) :=
    grantRow_calm (mine := (· == .scrub)) h hg rfl hfit fun g s => s.endScrub g flips
  rw [hrow, State.endScrub, ended_beforeMark h]
  subst hm hrs
  exact congrArg (fun t : State => Host.Outcome.next (State.arbitrate (State.answerRetain (scrubbedState t _))))
    (ended_reads s _ .scrubber _ _)

/-- What the end of a Scrubber grant leaves, from the state `u` after its reads are reported. -/
theorem scrubbedState_spec (u : State) (rs : List WordRead) :
    let r := scrubbedState u rs
    let pos := (u.scrub.pos + 8) % u.memWords
    let corr := plus u.scrub.corrTally (correctedOf rs).length
    let uncorr := plus u.scrub.uncorrTally (uncorrectableOf rs).length
    r.arb = { u.arb with grant := none } ∧
      r.scrub = { u.scrub with
        pos := pos, interval := 0, corrTally := if pos = 0 then 0 else corr
        uncorrTally := if pos = 0 then 0 else uncorr
        request := u.scrub.request || (u.scrub.enabled && !u.sweep.running && u.power != .retain && u.scrub.n == 0) } ∧
      raises (if pos = 0 ∧ u.scrub.passEvent = true then
        [⟨.scrubPass, some 5, 9, none, u.tb.count, BitVec.ofNat 32 (corr.toNat + 65536 * uncorr.toNat)⟩] else []) u r ∧
      unchangedBut [.arb, .scrub, .log, .irq] u r := by
  intro r pos corr uncorr
  have htallied : unchangedBut [.scrub] u { u with scrub := u.scrub.tallied rs } := by
    intro f hf; cases f <;> first | rfl | exact absurd (by decide) hf
  obtain ⟨hscrub, hevents, hframe⟩ := scrubAdvance_spec { u with scrub := u.scrub.tallied rs }
  have hr : r = (State.scrubAdvance { u with scrub := u.scrub.tallied rs }).closeGrant.scrubRaise := rfl
  have hraised : raises (passEvents { u with scrub := u.scrub.tallied rs } pos) u
      (State.scrubAdvance { u with scrub := u.scrub.tallied rs }) := raises_from htallied hevents
  have huv := frame_comp (hs := [.scrub, .log, .irq]) htallied hframe
  generalize State.scrubAdvance { u with scrub := u.scrub.tallied rs } = v at *
  have hclose := closeGrant_frame v
  rw [scrubRaise_restarted (v := v.closeGrant) rfl (by rw [show v.closeGrant.scrub = v.scrub from rfl, hscrub])] at hr
  have hlast : unchangedBut [.scrub] v.closeGrant r := by
    rw [hr]; intro f hf; cases f <;> first | rfl | exact absurd (by decide) hf
  have hvr := frame_comp (hs := [.arb, .scrub]) hclose hlast
  refine ⟨?_, ?_, raises_frame hraised hvr, frame_comp huv hvr⟩
  · rw [show r.arb = v.closeGrant.arb from hlast .arb (by decide), ← show v.arb = u.arb from huv .arb (by decide)]; rfl
  · rw [hr]
    simp only [show v.closeGrant.scrub = v.scrub from rfl, hscrub, show v.closeGrant.sweep = u.sweep from huv .sweep (by decide),
      show v.closeGrant.power = u.power from huv .power (by decide)]
    rfl

theorem scrubGrants (s : State) (a k : Nat) (flips : List Flip) (h : calm s) (hg : s.arb.grant = some ⟨.scrub, a, k⟩)
    (hfit : a + k ≤ s.memWords) :
    let m := s.mem.disturb s.memWords flips
    let rs := m.readWords a k
    let corrected := rs.filter fun w => w.outcome == .corrected
    let bad := rs.filter fun w => w.outcome == .uncorrectable
    let t := afterReads s (m.writeBack rs) .scrubber rs
    let pos := (s.scrub.pos + 8) % s.memWords
    let corr := plus s.scrub.corrTally corrected.length
    let uncorr := plus s.scrub.uncorrTally bad.length
    let events : List Event :=
      if pos = 0 ∧ s.scrub.passEvent = true then
        [⟨.scrubPass, some 5, 9, none, s.tb.count, BitVec.ofNat 32 (corr.toNat + 65536 * uncorr.toNat)⟩] else []
    let scrubbed (r : State) : Prop :=
      exec (.scrubGrantEnd flips) s = .next r.arbitrate ∧ r.arb = { s.arb with grant := none } ∧
        r.scrub = { s.scrub with
          pos := pos, interval := 0, corrTally := if pos = 0 then 0 else corr
          uncorrTally := if pos = 0 then 0 else uncorr
          request := s.scrub.request || (s.scrub.enabled && !s.sweep.running && s.power != .retain && s.scrub.n == 0) } ∧
        raises events t r ∧
        (Memory.wf s.mem = true →
          (∀ w ∈ corrected, r.mem.read w.addr = ⟨w.data, 0⟩) ∧
            ∀ b, (∀ w ∈ corrected, w.addr ≠ b) → r.mem.read b = m.read b)
    (s.port.waiting ≠ some .retain →
      ∃ r, scrubbed r ∧ unchangedBut [.arb, .scrub, .log, .irq, .moment] t r) ∧
      (s.port.waiting = some .retain →
        ∃ r, scrubbed r ∧ r.power = .retain ∧
          r.port = { s.port with waiting := none, stallCount := 0, resp := .ok, rdata := none } ∧
          r.sup = (if s.sup.st = .armed then { s.sup with st := .running, windowCount := 0 } else s.sup) ∧
          unchangedBut [.arb, .scrub, .log, .irq, .moment, .power, .port, .sup] t r) := by
  intro m rs corrected bad t pos corr uncorr events scrubbed
  have hexec := exec_scrubGrantEnd flips h hg hfit (m := m) (rs := rs) rfl rfl
  have hreads : unchangedBut [.mem, .ecc, .slots, .lanes, .hostFree, .log, .irq] s t := afterReads_frame s _ .scrubber rs
  have hmem : t.mem = m.writeBack rs := eccReport_frame { s with mem := m.writeBack rs } .scrubber rs .mem (by decide)
  have hmoment := atMoment_frame t (ended s ⟨.scrub, a, k⟩).moment
  change exec _ s = .next (State.arbitrate (State.answerRetain (scrubbedState
    (atMoment t (ended s ⟨.scrub, a, k⟩).moment) rs))) at hexec
  generalize atMoment t (ended s ⟨.scrub, a, k⟩).moment = u at *
  have hsu := frame_comp (hs := [.mem, .ecc, .slots, .lanes, .hostFree, .log, .irq, .moment]) hreads hmoment
  obtain ⟨harb, hscrub, hevents, hframe⟩ := scrubbedState_spec u rs
  rw [hsu .arb (by decide)] at harb
  simp only [State.memWords, show u.scrub = s.scrub from hsu .scrub (by decide), show u.sweep = s.sweep from hsu .sweep (by decide),
    show u.power = s.power from hsu .power (by decide), show u.part = s.part from hsu .part (by decide),
    show u.tb = s.tb from hsu .tb (by decide)] at hscrub hevents
  generalize scrubbedState u rs = v at *
  have htv := frame_comp (hs := [.arb, .scrub, .log, .irq, .moment]) hmoment hframe
  have hraises : raises events t v := raises_from hmoment hevents
  have hport : v.port = s.port := (htv .port (by decide)).trans (hreads .port (by decide))
  have hsup : v.sup = s.sup := (htv .sup (by decide)).trans (hreads .sup (by decide))
  have hwrote (r : State) (hr : r.mem = v.mem) (hwf : Memory.wf s.mem = true) :
      (∀ w ∈ corrected, r.mem.read w.addr = ⟨w.data, 0⟩) ∧
        ∀ b, (∀ w ∈ corrected, w.addr ≠ b) → r.mem.read b = m.read b := by
    rw [hr, show v.mem = t.mem from htv .mem (by decide), hmem]
    exact ⟨read_writeBack (disturb_wf _ _ _ hwf) a k, fun b hb => read_writeBack_other m rs b hb⟩
  refine ⟨fun hw => ?_, fun hw => ?_⟩
  · rw [answerRetain_none (by rw [hport]; exact hw)] at hexec
    exact ⟨v, ⟨hexec, harb, hscrub, hraises, hwrote v rfl⟩, htv⟩
  · rw [answerRetain_some (by rw [hport]; exact hw), hport, hsup] at hexec
    have hclosing : v.closingDue = false := by
      have hs := (calm_facts h).1
      rw [State.closingDue] at hs ⊢
      rw [hsup]; exact hs
    refine ⟨_, ⟨hexec, harb, hscrub, ?_, hwrote _ rfl⟩, rfl, rfl, rfl, ?_⟩
    · refine raises_withSup (t := { v with
        power := .retain, port := { s.port with waiting := none, stallCount := 0, resp := .ok, rdata := none } })
        (raises_frame (fs := [.power, .port]) hraises ?_) ?_
      · intro f hf; cases f <;> first | rfl | exact absurd (by decide) hf
      · have hrunning : State.closingDue { v with sup := if s.sup.st = .armed then
            { s.sup with st := .running, windowCount := 0 } else s.sup } = false := by
          by_cases harmed : s.sup.st = .armed
          · rw [if_pos harmed]; rfl
          · rw [if_neg harmed, ← hsup]; exact hclosing
        exact hrunning.trans hclosing.symm
    · refine frame_comp (gs := [.power, .port, .sup]) htv ?_
      intro f hf; cases f <;> first | rfl | exact absurd (by decide) hf

/-- The end of the init sweep. -/
theorem initDone_spec {s : State} (h : calm s) (hrun : s.sweep.running = true) :
    ∃ r, exec .initDone s = .next r.arbitrate ∧ r.sweep = ⟨false, 0, true⟩ ∧
      (∀ a, s.sweep.next ≤ a → a < s.memWords → r.mem.read a = ⟨0, 0⟩) ∧
      (∀ a, a < s.sweep.next ∨ s.memWords ≤ a → r.mem.read a = s.mem.read a) ∧
      raises [⟨.initDone, some 5, 8, none, s.tb.count, BitVec.ofNat 32 s.memWords⟩] s r ∧
      r.scrub = { s.scrub with request := r.scrub.request } ∧
      (r.scrub.request = true ↔ s.scrub.request = true ∨
        s.scrub.enabled = true ∧ s.power ≠ .retain ∧ (∀ g, s.arb.grant = some g → g.who ≠ .scrub) ∧
          s.scrub.n ≤ s.scrub.interval) ∧
      unchangedBut [.mem, .sweep, .log, .irq, .scrub, .moment] s r := by
  have hswept : unchangedBut [.moment, .mem, .sweep] s
      { s with moment := Moment.empty, mem := s.mem.zeroFrom s.sweep.next s.memWords, sweep := ⟨false, 0, true⟩ } := by
    intro f hf; cases f <;> first | rfl | exact absurd (by decide) hf
  have hexec : exec .initDone s = .next (State.arbitrate (State.scrubRaise (State.raise
      { s with moment := Moment.empty, mem := s.mem.zeroFrom s.sweep.next s.memWords, sweep := ⟨false, 0, true⟩ }
      ⟨.initDone, some 5, 8, none, s.tb.count, BitVec.ofNat 32 s.memWords⟩))) := by
    have hrow : exec .initDone s = .next (if (s.settle.openMoment []).sweeping then
      (s.settle.openMoment []).finishSweep.arbitrate else s.settle.openMoment []) := rfl
    have hsweeping : State.sweeping { s with moment := Moment.empty } = true := by
      rw [State.sweeping, show State.sweep { s with moment := Moment.empty } = s.sweep from rfl, hrun]
      exact Bool.not_eq_true' _ |>.mpr h.2
    rw [hrow, settle_none h.1, calm_openMoment h, if_pos hsweeping]
    rfl
  have hmem : ({ s with moment := Moment.empty, mem := s.mem.zeroFrom s.sweep.next s.memWords, sweep := ⟨false, 0, true⟩ } :
      State).mem = s.mem.zeroFrom s.sweep.next s.memWords := rfl
  have hsweep : ({ s with moment := Moment.empty, mem := s.mem.zeroFrom s.sweep.next s.memWords, sweep := ⟨false, 0, true⟩ } :
      State).sweep = ⟨false, 0, true⟩ := rfl
  generalize ({ s with moment := Moment.empty, mem := s.mem.zeroFrom s.sweep.next s.memWords, sweep := ⟨false, 0, true⟩ } :
      State) = u at *
  have hraise := raise_frame u ⟨.initDone, some 5, 8, none, s.tb.count, BitVec.ofNat 32 s.memWords⟩
  have hevent := raises_first hswept ⟨.initDone, some 5, 8, none, s.tb.count, BitVec.ofNat 32 s.memWords⟩
  generalize u.raise _ = v at *
  have hsv := frame_comp (hs := [.moment, .mem, .sweep, .log, .irq]) hswept hraise
  have hraised : unchangedBut [.scrub] v v.scrubRaise := by
    rw [scrubRaise_eq]; intro f hf; cases f <;> first | rfl | exact absurd (by decide) hf
  have hread (a : Nat) : v.scrubRaise.mem.read a = if s.sweep.next ≤ a ∧ a < s.memWords then ⟨0, 0⟩ else s.mem.read a := by
    rw [show v.scrubRaise.mem = u.mem from (hraised .mem (by decide)).trans (hraise .mem (by decide)), hmem, read_zeroFrom]
  have hscrub : v.scrub = s.scrub := hsv .scrub (by decide)
  have hswept' : v.sweep = ⟨false, 0, true⟩ := (hraise .sweep (by decide)).trans hsweep
  refine ⟨_, hexec, (hraised .sweep (by decide)).trans hswept', fun a hlo hhi => ?_, fun a ha => ?_,
    raises_frame hevent hraised, ?_, ?_, frame_comp hsv hraised⟩
  · rw [hread, if_pos ⟨hlo, hhi⟩]
  · rw [hread, if_neg (by omega)]
  · rw [scrubRaise_eq, hscrub]
  · rw [scrubRaise_eq]
    simp only [Bool.or_eq_true, Bool.and_eq_true, decide_eq_true_eq, scrubCounting_iff, hscrub, hswept',
      show v.arb = s.arb from hsv .arb (by decide), show v.power = s.power from hsv .power (by decide)]
    cases s.scrub.request <;> simp
    tauto

/-- Settles O54: the Scrubber's grant, its request, and the end of the sweep. -/
theorem scrubberAndSweepGoOn : Obligations.ScrubberAndSweepGoOn := by
  refine ⟨scrubGrants, fun s h => ?_, fun s h hrun => ?_⟩
  · refine ⟨(begun s).scrubRaise, congrArg Host.Outcome.next (serviceRow_req h), ?_, ?_⟩
    · rw [scrubRaise_eq]; rfl
    · rw [scrubRaise_eq]
      intro f hf; cases f <;> first | rfl | exact absurd (by decide) hf
  · obtain ⟨r, hexec, hspec⟩ := initDone_spec h hrun
    exact ⟨r, hexec, hspec⟩

end Sys2Proof.Proofs
end

section
/-! PROOFS. The write and read grants of the Host Window (R123 to R127). -/

set_option Elab.async false

namespace Sys2Proof.Proofs

open Sys2Proof.Machine Sys2Proof.Safety Sys2Proof.Laws

/-! ## Responses -/

/-- Response ERR: the port with its record, the supervisor's count, and HOST_ERROR. -/
theorem respondErr_spec (t : State) (x : Reason) (a : Access) :
    let r := t.respondErr x a
    r.port = { t.port with
      waiting := none, stallCount := 0, resp := .err, rdata := if a.write then none else some 0
      err := latched t.port.err x a } ∧
      r.sup = counted t.sup ∧ raises [hostErrorEvent t x a] t r ∧ unchangedBut [.port, .sup, .log, .irq] t r := by
  have hevent : (⟨.hostError, some 6, 4, none, t.tb.count, hostErrorDetail x a⟩ : Event) = hostErrorEvent t x a := by
    rw [hostErrorDetail_eq]; rfl
  intro r
  have hr : r = State.raise
      { t with
        port := { t.port with
          waiting := none, stallCount := 0, resp := .err, rdata := if a.write then none else some 0
          err := t.port.err.latch x a }
        sup := counted t.sup } (hostErrorEvent t x a) := by rw [← hevent]; exact respondErr_eq t x a
  refine ⟨?_, ?_, ?_, respondErr_frame t x a⟩
  · rw [hr]; exact raise_frame _ _ .port (by decide)
  · rw [hr]; exact raise_frame _ _ .sup (by decide)
  · rw [raises_one, hr, raise_frame _ (hostErrorEvent t x a) .sup (by decide),
      raise_frame _ (hostErrorEvent t x a) .cmd (by decide)]
    exact raise_congr _ rfl rfl rfl rfl

/-! ## Write grants (R124 to R126) -/

/-- The state as step 1 of a window write grant's end leaves it. -/
def wroteWindow (s : State) (a k : Nat) : State := (ended s ⟨.winWrite, a, k⟩).wroteGrant ⟨.winWrite, a, k⟩

theorem wroteWindow_frame (s : State) (a k : Nat) : unchangedBut [.mem, .moment] s (wroteWindow s a k) := by
  intro f hf; cases f <;> first | rfl | exact absurd (by decide) hf

theorem exec_windowWriteGrantEnd {s : State} {a k : Nat} (h : calm s) (hg : s.arb.grant = some ⟨.winWrite, a, k⟩)
    (hfit : a + k ≤ s.memWords) :
    exec .windowWriteGrantEnd s = .next (((wroteWindow s a k).written k).closeGrant.askDispatch).arbitrate := by
  have hrow : exec .windowWriteGrantEnd s = .next ((ended s ⟨.winWrite, a, k⟩).endWindowWrite ⟨.winWrite, a, k⟩) :=
    grantRow_calm (mine := (· == .winWrite)) h hg rfl hfit fun g s => s.endWindowWrite g
  rw [hrow, State.endWindowWrite, ended_beforeMark h]
  rfl

/-- A command that can go has been requested. -/
theorem askDispatch_asks (t : State) (h : t.askDispatch.dispatchable = true) : t.askDispatch.outstanding .command = true := by
  have hd : t.dispatchable = true := by
    have hframe := askDispatch_frame t
    rw [State.dispatchable] at h ⊢
    rw [show t.askDispatch.cmd = t.cmd from hframe .cmd (by decide), show t.askDispatch.eng = t.eng from hframe .eng (by decide),
      show t.askDispatch.win = t.win from hframe .win (by decide),
      show t.askDispatch.power = t.power from hframe .power (by decide)] at h
    exact h
  rw [State.askDispatch, if_pos hd, outstanding_ask]
  simp

/-- What every end of a window write grant leaves, by what step 3 leaves of the window, the port and the rest. -/
theorem windowWrite_wrote {s v : State} {a k : Nat} (h : calm s) (hwf : Memory.wf s.mem = true)
    (hg : s.arb.grant = some ⟨.winWrite, a, k⟩) (hfit : a + k ≤ s.memWords) (hk : k ≤ s.win.buffer.length)
    (hv : (wroteWindow s a k).written k = v) (hframe : unchangedBut [.win, .port, .sup, .log, .irq] (wroteWindow s a k) v) :
    ∃ r, (exec .windowWriteGrantEnd s = .next r.arbitrate ∧
        (∀ (j : Nat) (x : Nat × Word), j < k → s.win.buffer[j]? = some x → r.mem.read (a + j) = ⟨x.2, 0⟩) ∧
        otherWords a k s r ∧ r.arb = { s.arb with grant := none } ∧
        (r.dispatchable = true → r.outstanding .command = true)) ∧
      unchangedBut [.arb, .moment] v r := by
  have hexec := exec_windowWriteGrantEnd h hg hfit
  rw [hv] at hexec
  have hrest := frame_comp (hs := [.arb, .moment]) (closeGrant_frame v) (askDispatch_frame v.closeGrant)
  have hmem : v.closeGrant.askDispatch.mem = s.mem.writeWords a ((s.win.buffer.take k).map Prod.snd) :=
    (hrest .mem (by decide)).trans (hframe .mem (by decide))
  have hlen : ((s.win.buffer.take k).map Prod.snd).length = k := by rw [List.length_map, List.length_take, min_eq_left hk]
  obtain ⟨hread, hother⟩ := written_spec hmem hwf
  have harb : v.closeGrant.askDispatch.arb = { s.arb with grant := none } := by
    rw [askDispatch_frame v.closeGrant .arb (by decide), ← show v.arb = s.arb from hframe .arb (by decide)]; rfl
  refine ⟨_, ⟨hexec, fun j x hj hx => hread j x.2 ?_, hlen ▸ hother, harb, askDispatch_asks _⟩, hrest⟩
  rw [List.getElem?_map, List.getElem?_take_of_lt hj, hx]; rfl

/-- The window with the written entries out of the buffer. -/
theorem written_plain {u : State} {k : Nat} (hwrite : ∀ p d, u.port.waiting ≠ some (.winWrite p d))
    (hdrain : ∀ p, u.win.stage ≠ .awaitDrain p) :
    u.written k = { u with win := { u.win with buffer := u.win.buffer.drop k } } := by
  unfold State.written
  dsimp only
  split
  next p d hw => exact absurd hw (hwrite p d)
  next p hs _ => exact absurd hs (hdrain p)
  next => rfl

theorem written_posts {u : State} {k : Nat} {p : Ptr} {d : Word} (hw : u.port.waiting = some (.winWrite p d))
    (hroom : (u.win.buffer.drop k).length < 4) :
    u.written k = State.post { u with win := { u.win with buffer := u.win.buffer.drop k } } p d := by
  unfold State.written
  simp only [hw]
  exact if_pos hroom

theorem written_drains {u : State} {k : Nat} {p : Ptr} (hw : u.port.waiting = some (.winRead p))
    (hs : u.win.stage = .awaitDrain p) : u.written k =
      if (u.win.buffer.drop k).isEmpty then State.issue { u with win := { u.win with buffer := u.win.buffer.drop k } } p
      else { u with win := { u.win with buffer := u.win.buffer.drop k } } := by
  unfold State.written
  simp only [hw, hs]

theorem windowWriteGrants (s : State) (a k : Nat) (h : calm s) (hwf : Memory.wf s.mem = true)
    (hg : s.arb.grant = some ⟨.winWrite, a, k⟩) (hfit : a + k ≤ s.memWords) (hk : k ≤ s.win.buffer.length) :
    let rest := s.win.buffer.drop k
    let wrote (r : State) : Prop :=
      exec .windowWriteGrantEnd s = .next r.arbitrate ∧
        (∀ (j : Nat) (x : Nat × Word), j < k → s.win.buffer[j]? = some x → r.mem.read (a + j) = ⟨x.2, 0⟩) ∧
        otherWords a k s r ∧ r.arb = { s.arb with grant := none } ∧
        (r.dispatchable = true → r.outstanding .command = true)
    ((∀ p d, s.port.waiting ≠ some (.winWrite p d)) → (∀ p, s.win.stage ≠ .awaitDrain p) →
      ∃ r, wrote r ∧ r.win = { s.win with buffer := rest } ∧ unchangedBut [.mem, .arb, .win, .moment] s r) ∧
      (∀ p d, s.port.waiting = some (.winWrite p d) → rest.length < 4 → s.hostAccessible (s.win.ptr p) = true →
        ∃ r, wrote r ∧ r.win = (match p with
            | .a => { s.win with
                buffer := rest ++ [(s.win.ptrA, d)], ptrA := advanced s.memWords s.win.ptrA s.win.strideA }
            | .b => { s.win with
                buffer := rest ++ [(s.win.ptrB, d)], ptrB := advanced s.memWords s.win.ptrB s.win.strideB }) ∧
          r.port = { s.port with waiting := none, stallCount := 0, resp := .ok, rdata := none } ∧
          r.sup = counted s.sup ∧ unchangedBut [.mem, .arb, .win, .moment, .port, .sup] s r) ∧
      (∀ p d, s.port.waiting = some (.winWrite p d) → rest.length < 4 → s.hostAccessible (s.win.ptr p) = false →
        ∃ r, wrote r ∧ r.win = { s.win with buffer := rest } ∧
          r.port = { s.port with
            waiting := none, stallCount := 0, resp := .err, rdata := none
            err := latched s.port.err .denied ⟨winDataAddr p, true, d⟩ } ∧
          r.sup = counted s.sup ∧ raises [hostErrorEvent s .denied ⟨winDataAddr p, true, d⟩] s r ∧
          unchangedBut [.mem, .arb, .win, .moment, .port, .sup, .log, .irq] s r) ∧
      ∀ p, s.port.waiting = some (.winRead p) → s.win.stage = .awaitDrain p →
        (rest ≠ [] → ∃ r, wrote r ∧ r.win = { s.win with buffer := rest } ∧
          unchangedBut [.mem, .arb, .win, .moment] s r) ∧
        (rest = [] → s.hostAccessible (s.win.ptr p) = true →
          ∃ r, wrote r ∧ r.win = { s.win with buffer := [], stage := .issued p } ∧
            unchangedBut [.mem, .arb, .win, .moment] s r) ∧
        (rest = [] → s.hostAccessible (s.win.ptr p) = false →
          ∃ r, wrote r ∧ r.win = { s.win with buffer := [], stage := .none } ∧
            r.port = { s.port with
              waiting := none, stallCount := 0, resp := .err, rdata := some 0
              err := latched s.port.err .denied ⟨winDataAddr p, false, 0⟩ } ∧
            r.sup = counted s.sup ∧ raises [hostErrorEvent s .denied ⟨winDataAddr p, false, 0⟩] s r ∧
            unchangedBut [.mem, .arb, .win, .moment, .port, .sup, .log, .irq] s r) := by
  intro rest wrote
  have hu := wroteWindow_frame s a k
  have hset (w : Window) : unchangedBut [.win] (wroteWindow s a k) { wroteWindow s a k with win := w } := by
    intro f hf; cases f <;> first | rfl | exact absurd (by decide) hf
  have hkept {v : State} (hv : (wroteWindow s a k).written k = v) (hf : unchangedBut [.win, .port, .sup, .log, .irq] (wroteWindow s a k) v) :=
    windowWrite_wrote h hwf hg hfit hk hv hf
  have hplain {w : Window} (hv : (wroteWindow s a k).written k = { wroteWindow s a k with win := w }) :
      ∃ r, wrote r ∧ r.win = w ∧ unchangedBut [.mem, .arb, .win, .moment] s r := by
    obtain ⟨r, hw, hframe⟩ := hkept hv (frame_mono (hset _) (by decide))
    exact ⟨r, hw, hframe .win (by decide), frame_comp (frame_comp (hs := [.mem, .moment, .win]) hu (hset _)) hframe⟩
  have hdenied {w : Window} {x : Access} (hv : (wroteWindow s a k).written k =
      State.respondErr { wroteWindow s a k with win := w } .denied x) :
      ∃ r, wrote r ∧ r.win = w ∧
        r.port = { s.port with
          waiting := none, stallCount := 0, resp := .err, rdata := if x.write then none else some 0
          err := latched s.port.err .denied x } ∧
        r.sup = counted s.sup ∧ raises [hostErrorEvent s .denied x] s r ∧
        unchangedBut [.mem, .arb, .win, .moment, .port, .sup, .log, .irq] s r := by
    obtain ⟨hport, hsup, hevents, hframe⟩ := respondErr_spec { wroteWindow s a k with win := w } .denied x
    have huv := frame_comp (hs := [.win, .port, .sup, .log, .irq]) (hset w) hframe
    obtain ⟨r, hw, hrest⟩ := hkept hv huv
    have hbase := frame_comp (hs := [.mem, .moment, .win]) hu (hset w)
    exact ⟨r, hw, (hrest .win (by decide)).trans (hframe .win (by decide)), (hrest .port (by decide)).trans hport,
      (hrest .sup (by decide)).trans hsup, raises_frame (raises_from hbase hevents) hrest,
      frame_comp (frame_comp (hs := [.mem, .moment, .win, .port, .sup, .log, .irq]) hu huv) hrest⟩
  refine ⟨fun hwrite hdrain => hplain (written_plain hwrite hdrain), fun p d hw hroom hok => ?_,
    fun p d hw hroom hno => ?_, fun p hw hs => ⟨fun hne => ?_, fun he hok => ?_, fun he hno => ?_⟩⟩
  · have hv := (written_posts (u := wroteWindow s a k) hw hroom).trans (if_pos hok)
    rw [respondOk_eq] at hv
    obtain ⟨r, hwrote, hrest⟩ := hkept hv (by intro f hf; cases f <;> first | rfl | exact absurd (by decide) hf)
    refine ⟨r, hwrote, ?_, hrest .port (by decide), hrest .sup (by decide),
      frame_comp (frame_comp (gs := [.win, .port, .sup]) (hs := [.mem, .moment, .win, .port, .sup]) hu ?_) hrest⟩
    · rw [hrest .win (by decide)]
      cases p <;> rfl
    · intro f hf; cases f <;> first | rfl | exact absurd (by decide) hf
  · exact hdenied ((written_posts (u := wroteWindow s a k) hw hroom).trans
      (if_neg fun hyes => absurd (hno.symm.trans hyes) (by decide)))
  · have hv := written_drains (u := wroteWindow s a k) (k := k) hw hs
    exact hplain (hv.trans (if_neg (by rw [List.isEmpty_iff]; exact hne)))
  all_goals have hv := (written_drains (u := wroteWindow s a k) (k := k) hw hs).trans (if_pos (List.isEmpty_iff.mpr he))
  · have hissued := hplain (hv.trans (if_pos hok))
    exact he ▸ hissued
  · have hrefused := hdenied (hv.trans (if_neg fun hyes => absurd (hno.symm.trans hyes) (by decide)))
    exact he ▸ hrefused

/-! ## Read grants (R127) -/

theorem exec_windowReadGrantEnd {s : State} {a : Nat} {p : Ptr} (flips : List Flip) (h : calm s)
    (hg : s.arb.grant = some ⟨.winRead, a, 1⟩) (hfit : a + 1 ≤ s.memWords) (hs : s.win.stage = .granted p) {m : Memory}
    {w : Cell} (hm : s.mem.disturb s.memWords flips = m) (hw : m.read a = w) :
    exec (.windowReadGrantEnd flips) s = .next (State.arbitrate (State.closeGrant (State.readResult
      (atMoment (afterReads s m .window [⟨a, w.outcome, w.delivered⟩]) (ended s ⟨.winRead, a, 1⟩).moment) p
      ⟨a, w.outcome, w.delivered⟩))) := by
  have hrow : exec (.windowReadGrantEnd flips) s =
      .next ((ended s ⟨.winRead, a, 1⟩).endWindowRead ⟨.winRead, a, 1⟩ flips) :=
    grantRow_calm (mine := (· == .winRead)) h hg rfl hfit fun g s => s.endWindowRead g flips
  subst hm hw
  have hstage : (atMoment (afterReads s (s.mem.disturb s.memWords flips) .window
      ((s.mem.disturb s.memWords flips).readWords a 1)) (ended s ⟨.winRead, a, 1⟩).moment).win.stage = .granted p := by
    rw [atMoment_frame _ _ .win (by decide), afterReads_frame _ _ _ _ .win (by decide)]; exact hs
  rw [hrow, State.endWindowRead, ended_beforeMark h]
  have hreads := ended_reads s ⟨.winRead, a, 1⟩ .window (s.mem.disturb s.memWords flips)
    ((s.mem.disturb s.memWords flips).readWords a 1)
  refine (congrArg (fun t : State => Host.Outcome.next (State.arbitrate (State.closeGrant
    (match t.win.stage, (s.mem.disturb s.memWords flips).readWords a 1 with
      | .granted p, r :: _ => t.readResult p r
      | _, _ => t)))) hreads).trans ?_
  simp only [hstage]
  rfl

/-- The window with its read over and the pointer moved on. -/
def readOver (size : Nat) (w : Window) : Ptr → Window
  | .a => { w with stage := .none, ptrA := advanced size w.ptrA w.strideA }
  | .b => { w with stage := .none, ptrB := advanced size w.ptrB w.strideB }

theorem windowReadGrants (s : State) (p : Ptr) (a : Nat) (flips : List Flip) (h : calm s)
    (hg : s.arb.grant = some ⟨.winRead, a, 1⟩) (hfit : a + 1 ≤ s.memWords) (hs : s.win.stage = .granted p) :
    let m := s.mem.disturb s.memWords flips
    let w := m.read a
    let t := afterReads s m .window [⟨a, w.outcome, w.delivered⟩]
    (w.outcome ≠ .uncorrectable →
      ∃ r, exec (.windowReadGrantEnd flips) s = .next r.arbitrate ∧
        r.port = { s.port with waiting := none, stallCount := 0, resp := .ok, rdata := some w.delivered } ∧
        r.sup = counted s.sup ∧ r.arb = { s.arb with grant := none } ∧
        r.win = readOver s.memWords s.win p ∧
        unchangedBut [.port, .sup, .arb, .win, .moment] t r) ∧
      (w.outcome = .uncorrectable →
        ∃ r, exec (.windowReadGrantEnd flips) s = .next r.arbitrate ∧
          r.port = { s.port with
            waiting := none, stallCount := 0, resp := .err, rdata := some 0
            err := latched s.port.err .ecc ⟨winDataAddr p, false, 0⟩ } ∧
          r.sup = counted s.sup ∧ r.arb = { s.arb with grant := none } ∧ r.win = { s.win with stage := .none } ∧
          raises [hostErrorEvent t .ecc ⟨winDataAddr p, false, 0⟩] t r ∧
          unchangedBut [.port, .sup, .arb, .win, .moment, .log, .irq] t r) := by
  intro m w t
  have hexec := exec_windowReadGrantEnd flips h hg hfit hs (m := m) (w := w) rfl rfl
  have hreads : unchangedBut [.mem, .ecc, .slots, .lanes, .hostFree, .log, .irq] s t := afterReads_frame s m .window _
  have hmoment := atMoment_frame t (ended s ⟨.winRead, a, 1⟩).moment
  change exec _ s = .next (State.arbitrate (State.closeGrant (State.readResult
    (atMoment t (ended s ⟨.winRead, a, 1⟩).moment) p ⟨a, w.outcome, w.delivered⟩))) at hexec
  generalize atMoment t (ended s ⟨.winRead, a, 1⟩).moment = u at *
  have hsu := frame_comp (hs := [.mem, .ecc, .slots, .lanes, .hostFree, .log, .irq, .moment]) hreads hmoment
  have hport : u.port = s.port := hsu .port (by decide)
  have hsup : u.sup = s.sup := hsu .sup (by decide)
  have harb : u.arb = s.arb := hsu .arb (by decide)
  have hwin : u.win = s.win := hsu .win (by decide)
  have hsize : u.memWords = s.memWords := congrArg Part.memWords (hsu .part (by decide))
  have hstage : unchangedBut [.win] u (u.setStage .none) := by
    intro f hf; cases f <;> first | rfl | exact absurd (by decide) hf
  refine ⟨fun hok => ?_, fun hbad => ?_⟩
  · have hresult : u.readResult p ⟨a, w.outcome, w.delivered⟩ = ((u.setStage .none).advance p).respondOk (some w.delivered) := by
      unfold State.readResult
      dsimp only
      split
      next hu => exact absurd hu hok
      all_goals rfl
    rw [hresult, respondOk_eq] at hexec
    refine ⟨_, hexec, by rw [← hport]; rfl, by rw [← hsup]; rfl, by rw [← harb]; rfl, ?_, ?_⟩
    · rw [← hwin, ← hsize]
      cases p <;> rfl
    · refine frame_comp (gs := [.win, .port, .sup, .arb]) hmoment ?_
      intro f hf; cases f <;> first | rfl | exact absurd (by decide) hf
  · have hresult : u.readResult p ⟨a, w.outcome, w.delivered⟩ =
        (u.setStage .none).respondErr .ecc ⟨winDataAddr p, false, 0⟩ := by
      rw [hbad]; rfl
    rw [hresult] at hexec
    obtain ⟨hp, hsu', hevents, hframe⟩ := respondErr_spec (u.setStage .none) .ecc ⟨winDataAddr p, false, 0⟩
    have htb : hostErrorEvent (u.setStage .none) .ecc ⟨winDataAddr p, false, 0⟩ =
        hostErrorEvent t .ecc ⟨winDataAddr p, false, 0⟩ := by
      rw [hostErrorEvent, show (u.setStage .none).tb = t.tb from hmoment .tb (by decide)]; rfl
    generalize (u.setStage .none).respondErr .ecc ⟨winDataAddr p, false, 0⟩ = v at *
    have hbase := frame_comp (hs := [.moment, .win]) hmoment hstage
    refine ⟨_, hexec, hp.trans (by rw [← hport]; rfl), hsu'.trans (by rw [← hsup]; rfl), ?_,
      (hframe .win (by decide)).trans (by rw [← hwin]; rfl), htb ▸ raises_from hbase hevents,
      frame_comp (frame_comp (hs := [.moment, .win, .port, .sup, .log, .irq]) hbase hframe) (closeGrant_frame v)⟩
    rw [← harb, ← show v.arb = u.arb from hframe .arb (by decide)]; rfl

/-- Settles O51: the ends of the window's write and read grants. -/
theorem windowGrantsWriteAndRead : Obligations.WindowGrantsWriteAndRead := by
  refine ⟨windowWriteGrants, fun s p a flips h hg hfit hs => ?_⟩
  have hreads := windowReadGrants s p a flips h hg hfit hs
  cases p <;> exact hreads

end Sys2Proof.Proofs
end

section
/-! PROOFS. The frame logic of an ingress lane: what one handled entry does, what the frame logic keeps, and that it goes on until
nothing is left to handle (R83 to R92). -/

set_option Elab.async false

namespace Sys2Proof.Proofs

open Sys2Proof.Machine Sys2Proof.Safety Sys2Proof.Laws

/-! ## The operations at the FIFO head -/

theorem dropHead_lane (s : State) (n m : LaneId) :
    (s.dropHead n).lane m = if m = n then { s.lane n with fifo := (s.lane n).fifo.drop 1 } else s.lane m :=
  lane_updLane s n m _

theorem dropHead_frame (s : State) (n : LaneId) : unchangedBut [.lanes] s (s.dropHead n) := updLane_frame s n _

theorem request_outstanding (s : State) (v : Voice) (r q : Req) :
    (s.request v r).outstanding q = (q == r || s.outstanding q) := by
  cases v
  · exact outstanding_ask s r q
  · exact outstanding_cause s r q

theorem request_frame (s : State) (v : Voice) (r : Req) : unchangedBut [.moment] s (s.request v r) := by
  cases v
  · exact ask_frame s r
  · exact cause_frame s r

/-! ## The LOSS marker (R91) -/

/-- A record whose slot takes in the LOSS marker of an entry. -/
def lossTaken (loss : Bool) (r : Slot) : Slot := { r with flags := { r.flags with wordsLost := r.flags.wordsLost || loss } }

/-- The event of a LOSS marker: the first time only. -/
def lossEvents (s : State) (n : LaneId) (i : SlotId) (loss : Bool) : List Event :=
  if loss = true ∧ (s.slot i).flags.wordsLost = false then [laneEvent s n .wordsLost (some i) (s.slot i).seq.toNat] else []

theorem loseWordsOf_slot (s : State) (n : LaneId) (i j : SlotId) :
    (s.loseWordsOf n i).slot j = if j = i then lossTaken true (s.slot i) else s.slot j := by
  unfold State.loseWordsOf
  by_cases hl : (s.slot i).flags.wordsLost = true
  · have hkept : lossTaken true (s.slot i) = s.slot i := by rw [lossTaken, Bool.or_true, ← hl]
    rw [hkept]
    simp only [hl, if_true]
    split
    next h => rw [h]
    next => rfl
  · simp only [if_neg hl]
    rw [frame_slot (raiseLane_frame _ _ _ _ _)]
    by_cases hj : j = i
    · subst hj
      rw [slot_setSlot_same, if_pos rfl, lossTaken, Bool.or_true]
    · rw [slot_setSlot_other _ _ _ _ hj, if_neg hj]

theorem loseWordsOf_frame (s : State) (n : LaneId) (i : SlotId) : unchangedBut [.slots, .log, .irq] s (s.loseWordsOf n i) := by
  unfold State.loseWordsOf
  dsimp only
  split
  · exact frame_refl _ s
  · exact frame_comp (setSlot_frame s i _) (raiseLane_frame _ _ _ _ _)

theorem loseWordsOf_raises {fs : List Field} {s t : State} (h : unchangedBut fs s t) (n : LaneId) {i : SlotId}
    (hslot : (t.slot i).flags.wordsLost = (s.slot i).flags.wordsLost ∧ (t.slot i).seq = (s.slot i).seq)
    (hd : ∀ f ∈ [Field.log, .irq, .tb], f ∉ fs := by decide) :
    raises (lossEvents s n i true) s (t.loseWordsOf n i) := by
  obtain ⟨hlost, hseq⟩ := hslot
  have hstart := raises_start h (hd _ (by simp)) (hd _ (by simp))
  unfold State.loseWordsOf lossEvents
  cases hl : (s.slot i).flags.wordsLost with
  | true => simpa only [hlost, hl, if_true, Bool.true_eq_false, and_false, if_false] using hstart
  | false =>
    simp only [hlost, hl, Bool.false_eq_true, if_false, and_self, if_true]
    have hset : raises [] s (t.setSlot i { t.slot i with flags := { (t.slot i).flags with wordsLost := true } }) :=
      raises_frame hstart (setSlot_frame t i _)
    exact raises_raiseLane hset (show t.tb = s.tb from h .tb (hd _ (by simp))) (by rw [placed_zero_eq, hseq])

/-- The FIFO with the LOSS marker of its head acted on. -/
theorem updHead_lane {s : State} {n : LaneId} {h : FifoEntry} {more : List FifoEntry} (hf : (s.lane n).fifo = h :: more)
    (f : FifoEntry → FifoEntry) (m : LaneId) :
    (s.updHead n f).lane m = if m = n then { s.lane n with fifo := f h :: more } else s.lane m := by
  rw [State.updHead, lane_updLane]
  simp only [hf]

theorem updHead_frame (s : State) (n : LaneId) (f : FifoEntry → FifoEntry) : unchangedBut [.lanes] s (s.updHead n f) :=
  updLane_frame s n _

theorem actLoss_frame (s : State) (n : LaneId) : unchangedBut [.lanes, .slots, .log, .irq] s (s.actLoss n) := by
  unfold State.actLoss
  split
  · exact frame_refl _ s
  · split
    · dsimp only
      split
      · exact frame_comp (updHead_frame s n _) (loseWordsOf_frame _ n _)
      · exact frame_mono (updHead_frame s n _) (by decide)
    · exact frame_refl _ s

/-- The state with the LOSS marker of a lane's head entry acted on, by whether the lane holds a slot. -/
theorem actLoss_eq {s : State} {n : LaneId} {h : FifoEntry} {more : List FifoEntry} (hf : (s.lane n).fifo = h :: more) :
    s.actLoss n = if h.loss then
      match (s.lane n).cur with
      | some i => (s.updHead n fun e => { e with loss := false }).loseWordsOf n i
      | none => s.updHead n fun e => { e with loss := false }
    else s := by
  have hcur : ((s.updHead n fun e => { e with loss := false }).lane n).cur = (s.lane n).cur := by
    rw [updHead_lane hf, if_pos rfl]
  simp only [State.actLoss, hf, hcur] <;> rfl

theorem actLoss_lane {s : State} {n : LaneId} {h : FifoEntry} {more : List FifoEntry} (hf : (s.lane n).fifo = h :: more)
    (m : LaneId) : (s.actLoss n).lane m = if m = n then { s.lane n with fifo := { h with loss := false } :: more } else s.lane m := by
  rw [actLoss_eq hf]
  cases hl : h.loss with
  | false =>
    have hkept : ({ s.lane n with fifo := { h with loss := false } :: more } : Lane) = s.lane n := by
      rw [← hl, ← hf]
    rw [if_neg (by decide), hkept]
    split
    next hm => rw [hm]
    next => rfl
  | true =>
    rw [if_pos rfl]
    cases (s.lane n).cur with
    | none => exact updHead_lane hf _ m
    | some i => exact (frame_lane (loseWordsOf_frame _ n i) m).trans (updHead_lane hf _ m)

theorem actLoss_slot {s : State} {n : LaneId} {h : FifoEntry} {more : List FifoEntry} {i : SlotId}
    (hf : (s.lane n).fifo = h :: more) (hc : (s.lane n).cur = some i) (j : SlotId) :
    (s.actLoss n).slot j = if j = i then lossTaken h.loss (s.slot i) else s.slot j := by
  rw [actLoss_eq hf, hc]
  cases hl : h.loss with
  | false =>
    rw [if_neg (by decide), lossTaken, Bool.or_false]
    split
    next hj => rw [hj]
    next => rfl
  | true => exact (loseWordsOf_slot _ n i j).trans (by simp only [frame_slot (updHead_frame s n _)])

theorem actLoss_raises {s : State} {n : LaneId} {h : FifoEntry} {more : List FifoEntry} {i : SlotId}
    (hf : (s.lane n).fifo = h :: more) (hc : (s.lane n).cur = some i) :
    raises (lossEvents s n i h.loss) s (s.actLoss n) := by
  rw [actLoss_eq hf, hc]
  cases h.loss with
  | false => simpa only [lossEvents, Bool.false_eq_true, false_and, if_false] using raises_start (frame_refl [] s)
  | true => exact loseWordsOf_raises (updHead_frame s n _) n ⟨rfl, rfl⟩

/-- A lane that holds no slot only forgets the marker. -/
theorem actLoss_empty {s : State} {n : LaneId} {h : FifoEntry} {more : List FifoEntry} (hf : (s.lane n).fifo = h :: more)
    (hc : (s.lane n).cur = none) : unchangedBut [.lanes] s (s.actLoss n) := by
  rw [actLoss_eq hf, hc]
  split
  · exact updHead_frame s n _
  · exact frame_refl _ s

/-! ## One entry handled (R83) -/

/-- The frame logic may handle the lane's head entry: the lane is a moving ingress lane with no publish or allocate
outstanding. -/
def handles (s : State) (n : LaneId) : Prop :=
  (s.lane n).cfg.dir = .ingress ∧ (s.lane n).moving = true ∧ s.outstanding (.publish n) = false ∧
    s.outstanding (.allocate n) = false

/-- What one handled entry leads to, by the lane's substate and the slot in hand. -/
inductive HeadStep (v : Voice) (n : LaneId) (s : State) (h : FifoEntry) : State → Prop where
  | stops (hsub : (s.lane n).sub = .idle) (hst : (s.lane n).st = .stopping) : HeadStep v n s h (s.stopAtBoundary n)
  | begins (hsub : (s.lane n).sub = .idle) (hst : (s.lane n).st ≠ .stopping) (hsof : h.sof = true) :
    HeadStep v n s h ((s.actLoss n).beginFrame v n h)
  | strays (hsub : (s.lane n).sub = .idle) (hst : (s.lane n).st ≠ .stopping) (hsof : h.sof = false) :
    HeadStep v n s h ((s.actLoss n).stray n h)
  | cuts (i : SlotId) (hcur : (s.lane n).cur = some i)
    (hcut : (s.lane n).sub = .receiving ∧ h.sof = true ∧ h.acted = false ∨ (s.lane n).sub = .discarding ∧ h.sof = true) :
    HeadStep v n s h ((s.actLoss n).cutFrame v n i)
  | truncates (i : SlotId) (hcur : (s.lane n).cur = some i) (hsub : (s.lane n).sub = .receiving)
    (hacted : ¬ (h.sof = true ∧ h.acted = false)) (hfull : (s.slot i).capacity ≤ (s.slot i).length) :
    HeadStep v n s h
      (let t := ((s.actLoss n).dropHead n).updSlot i fun r => { r with flags := { r.flags with truncated := true } }
      if h.eof then t.request v (.publish n) else t.updLane n fun l => { l with sub := .discarding })
  | discards (i : SlotId) (hcur : (s.lane n).cur = some i) (hsub : (s.lane n).sub = .discarding) (hsof : h.sof = false) :
    HeadStep v n s h
      (let t := (s.actLoss n).dropHead n
      if h.eof then t.request v (.publish n) else t)
  | restarts (hcur : (s.lane n).cur = none) (hsub : (s.lane n).sub = .discarding) (hsof : h.sof = true) :
    HeadStep v n s h (s.updLane n fun l => { l with sub := .idle })
  | ends (hcur : (s.lane n).cur = none) (hsub : (s.lane n).sub = .discarding) (hsof : h.sof = false) (heof : h.eof = true) :
    HeadStep v n s h
      (let t := (s.dropHead n).updLane n fun l => { l with sub := .idle }
      if (s.lane n).st = .stopping then t.stopAtBoundary n else t)
  | skips (hcur : (s.lane n).cur = none) (hsub : (s.lane n).sub = .discarding) (hsof : h.sof = false) (heof : h.eof = false) :
    HeadStep v n s h (s.dropHead n)

theorem handleHead_none {s : State} {n : LaneId} (v : Voice) (h : ¬ handles s n ∨ (s.lane n).fifo = []) :
    s.handleHead v n = none := by
  unfold State.handleHead
  dsimp only
  split
  next => rfl
  next hno =>
    have hh : handles s n := by
      simp only [not_or, ne_eq, not_not, Bool.not_eq_true, Bool.not_eq_false] at hno
      exact hno
    rw [h.resolve_left (not_not_intro hh)]

/-- An entry that may be handled leads where its step leads. -/
theorem handleHead_of_step {s t : State} {v : Voice} {n : LaneId} {h : FifoEntry} {more : List FifoEntry} (hh : handles s n)
    (hf : (s.lane n).fifo = h :: more) (hstep : HeadStep v n s h t) : s.handleHead v n = some t := by
  obtain ⟨hdir, hmoving, hpublish, hallocate⟩ := hh
  unfold State.handleHead
  simp only [hdir, hmoving, hpublish, hallocate, ne_eq, not_true_eq_false, Bool.true_eq_false, Bool.false_eq_true, or_self,
    if_false, hf]
  cases hstep with
  | stops hsub hst => simp only [hsub, hst, if_true]
  | begins hsub hst hsof => simp only [hsub, if_neg hst, hsof, if_true]
  | strays hsub hst hsof => simp only [hsub, if_neg hst, hsof, Bool.false_eq_true, if_false]
  | cuts i hcur hcut =>
    rcases hcut with ⟨hsub, hsof, hacted⟩ | ⟨hsub, hsof⟩
    · simp only [hsub, hcur, hsof, hacted, Bool.not_false, Bool.and_self, if_true]
    · simp only [hsub, hcur, hsof, if_true]
  | truncates i hcur hsub hacted hfull =>
    have hno : (h.sof && !h.acted) = false := by
      rw [Bool.eq_false_iff]
      intro hc
      rw [Bool.and_eq_true, Bool.not_eq_true'] at hc
      exact hacted hc
    simp only [hsub, hcur, hno, Bool.false_eq_true, if_false, if_neg (Nat.not_lt.mpr hfull)]
    cases h.eof <;> rfl
  | discards i hcur hsub hsof =>
    simp only [hsub, hcur, hsof, Bool.false_eq_true, if_false]
    cases h.eof <;> rfl
  | restarts hcur hsub hsof => simp only [hsub, hcur, hsof, if_true]
  | ends hcur hsub hsof heof =>
    simp only [hsub, hcur, hsof, heof, Bool.false_eq_true, if_false, if_true]
    split <;> rfl
  | skips hcur hsub hsof heof => simp only [hsub, hcur, hsof, heof, Bool.false_eq_true, if_false]

/-- A word that a grant will write waits at the head. -/
theorem handleHead_waits {s : State} {n : LaneId} {e : FifoEntry} {more : List FifoEntry} {i : SlotId} (v : Voice)
    (hf : (s.lane n).fifo = e :: more) (hsub : (s.lane n).sub = .receiving) (hcur : (s.lane n).cur = some i)
    (hacted : ¬ (e.sof = true ∧ e.acted = false)) (hroom : (s.slot i).length < (s.slot i).capacity) :
    s.handleHead v n = none := by
  have hno : (e.sof && !e.acted) = false := by
    rw [Bool.eq_false_iff]
    intro hc
    rw [Bool.and_eq_true, Bool.not_eq_true'] at hc
    exact hacted hc
  unfold State.handleHead
  simp only [hf, hsub, hcur, hno, Bool.false_eq_true, if_false, if_pos hroom]
  split <;> rfl

/-- A lane that stalls, or that is in no state to handle entries, waits. -/
theorem handleHead_idle {s : State} {n : LaneId} (v : Voice)
    (h : (s.lane n).sub ∉ [Substate.idle, .receiving, .discarding] ∨ (s.lane n).sub = .receiving ∧ (s.lane n).cur = none) :
    s.handleHead v n = none := by
  unfold State.handleHead
  dsimp only
  split
  · rfl
  · cases (s.lane n).fifo with
    | nil => rfl
    | cons e more =>
      rcases h with h | ⟨hsub, hcur⟩
      · cases hsub : (s.lane n).sub <;> rw [hsub] at h <;> first | rfl | exact absurd (by decide) h
      · rw [hsub, hcur]

/-- Whatever the frame logic does with a head entry is one of the steps. -/
theorem step_of_handleHead {s t : State} {v : Voice} {n : LaneId} (h : s.handleHead v n = some t) :
    handles s n ∧ ∃ e more, (s.lane n).fifo = e :: more ∧ HeadStep v n s e t := by
  have hh : handles s n := by
    by_contra hno
    rw [handleHead_none v (.inl hno)] at h
    cases h
  refine ⟨hh, ?_⟩
  cases hf : (s.lane n).fifo with
  | nil => rw [handleHead_none v (.inr hf)] at h; cases h
  | cons e more =>
    refine ⟨e, more, rfl, ?_⟩
    have hstep {u : State} (hu : HeadStep v n s e u) : HeadStep v n s e t := by
      have := handleHead_of_step hh hf hu
      rw [h] at this
      cases this
      exact hu
    obtain ⟨hdir, hmoving, hpublish, hallocate⟩ := hh
    cases hsub : (s.lane n).sub with
    | idle =>
      by_cases hst : (s.lane n).st = .stopping
      · exact hstep (.stops hsub hst)
      · cases hsof : e.sof
        · exact hstep (.strays hsub hst hsof)
        · exact hstep (.begins hsub hst hsof)
    | receiving =>
      cases hcur : (s.lane n).cur with
      | none => rw [handleHead_idle v (.inr ⟨hsub, hcur⟩)] at h; cases h
      | some i =>
        by_cases hun : e.sof = true ∧ e.acted = false
        · exact hstep (.cuts i hcur (.inl ⟨hsub, hun⟩))
        · by_cases hfull : (s.slot i).capacity ≤ (s.slot i).length
          · exact hstep (.truncates i hcur hsub hun hfull)
          · rw [handleHead_waits v hf hsub hcur hun (Nat.lt_of_not_le hfull)] at h; cases h
    | discarding =>
      cases hcur : (s.lane n).cur with
      | none =>
        cases hsof : e.sof
        · cases heof : e.eof
          · exact hstep (.skips hcur hsub hsof heof)
          · exact hstep (.ends hcur hsub hsof heof)
        · exact hstep (.restarts hcur hsub hsof)
      | some i =>
        cases hsof : e.sof
        · exact hstep (.discards i hcur hsub hsof)
        · exact hstep (.cuts i hcur (.inr ⟨hsub, hsof⟩))
    | _ => rw [handleHead_idle v (.inl (by rw [hsub]; decide))] at h; cases h

/-! ## What each operation of a step does to its lane -/

theorem beginFrame_lane (s : State) (v : Voice) (n : LaneId) (e : FifoEntry) (m : LaneId) :
    (s.beginFrame v n e).lane m = if m = n then { s.lane n with
      frameSeq := (s.lane n).nextSeq, frameStamp := e.stamp, nextSeq := (s.lane n).nextSeq + 1, strayArmed := true }
    else s.lane m := by
  rw [State.beginFrame, frame_lane (request_frame _ v _), lane_updLane]

theorem beginFrame_frame (s : State) (v : Voice) (n : LaneId) (e : FifoEntry) :
    unchangedBut [.lanes, .moment] s (s.beginFrame v n e) :=
  frame_comp (updLane_frame s n _) (request_frame _ v _)

theorem beginFrame_outstanding (s : State) (v : Voice) (n : LaneId) (e : FifoEntry) (q : Req) :
    (s.beginFrame v n e).outstanding q = (q == .allocate n || s.outstanding q) := by
  rw [State.beginFrame, request_outstanding, frame_outstanding (updLane_frame s n _)]

/-- A lane with a stray word gone. -/
def withoutStray (l : Lane) : Lane :=
  { l with
    fifo := l.fifo.drop 1, strayArmed := false
    counters := { l.counters with strayWords := plus l.counters.strayWords 1 } }

theorem stray_lane (s : State) (n : LaneId) (e : FifoEntry) (m : LaneId) :
    (s.stray n e).lane m = if m = n then withoutStray (s.lane n) else s.lane m := by
  have hcounted : ((s.dropHead n).count n fun c => { c with strayWords := satInc c.strayWords }).lane m =
      if m = n then { withoutStray (s.lane n) with strayArmed := (s.lane n).strayArmed } else s.lane m := by
    rw [State.count, lane_updLane, dropHead_lane, dropHead_lane, if_pos rfl]
    by_cases hm : m = n
    · rw [if_pos hm, if_pos hm]; rfl
    · rw [if_neg hm, if_neg hm, if_neg hm]
  unfold State.stray
  cases harmed : (s.lane n).strayArmed with
  | false =>
    simp only [Bool.false_eq_true, if_false]
    rw [hcounted, harmed]; rfl
  | true =>
    simp only [if_true]
    rw [raiseLane_lane, lane_updLane]
    by_cases hm : m = n
    · subst hm
      rw [if_pos rfl, hcounted, if_pos rfl, if_pos rfl]
      rfl
    · rw [if_neg hm, hcounted, if_neg hm, if_neg hm]

theorem stray_frame (s : State) (n : LaneId) (e : FifoEntry) : unchangedBut [.lanes, .log, .irq] s (s.stray n e) := by
  have hcounted := frame_comp (hs := [.lanes]) (dropHead_frame s n)
    (count_frame (s.dropHead n) n fun c => { c with strayWords := satInc c.strayWords })
  unfold State.stray
  dsimp only
  split
  · exact frame_comp (frame_comp (hs := [.lanes]) hcounted (updLane_frame _ n _)) (raiseLane_frame _ _ _ _ _)
  · exact frame_mono hcounted (by decide)

theorem stray_raises {fs : List Field} {s t : State} (h : unchangedBut fs s t) (n : LaneId) (e : FifoEntry)
    (harmed : (t.lane n).strayArmed = (s.lane n).strayArmed) (hd : ∀ f ∈ [Field.log, .irq, .tb], f ∉ fs := by decide) :
    raises (if (s.lane n).strayArmed then [laneEvent s n .strayWords none e.data.toNat] else []) s (t.stray n e) := by
  have hstart := raises_start h (hd _ (by simp)) (hd _ (by simp))
  have hcounted := frame_comp (hs := [.lanes]) (dropHead_frame t n)
    (count_frame (t.dropHead n) n fun c => { c with strayWords := satInc c.strayWords })
  unfold State.stray
  rw [harmed]
  cases (s.lane n).strayArmed with
  | false => exact raises_frame hstart hcounted
  | true =>
    have hbefore := frame_comp (hs := [.lanes]) hcounted (updLane_frame _ n fun l => { l with strayArmed := false })
    refine raises_raiseLane (raises_frame hstart hbefore) ((hbefore .tb (by decide)).trans (h .tb (hd _ (by simp)))) ?_
    rw [BitVec.ofNat_toNat, BitVec.setWidth_eq]

theorem cutFrame_frame (s : State) (v : Voice) (n : LaneId) (i : SlotId) :
    unchangedBut [.slots, .moment] s (s.cutFrame v n i) :=
  frame_comp (updSlot_frame s i _) (request_frame _ v _)

theorem cutFrame_slot (s : State) (v : Voice) (n : LaneId) (i j : SlotId) :
    (s.cutFrame v n i).slot j = if j = i then { s.slot i with flags := { (s.slot i).flags with cut := true } } else s.slot j := by
  rw [State.cutFrame, frame_slot (request_frame _ v _), slot_updSlot]

theorem cutFrame_outstanding (s : State) (v : Voice) (n : LaneId) (i : SlotId) (q : Req) :
    (s.cutFrame v n i).outstanding q = (q == .publish n || s.outstanding q) := by
  rw [State.cutFrame, request_outstanding, frame_outstanding (updSlot_frame s i _)]

/-- The lane with its head entry, already acted on, removed. -/
theorem actLoss_dropHead_lane {s : State} {n : LaneId} {h : FifoEntry} {more : List FifoEntry}
    (hf : (s.lane n).fifo = h :: more) (m : LaneId) :
    ((s.actLoss n).dropHead n).lane m = if m = n then { s.lane n with fifo := more } else s.lane m := by
  rw [dropHead_lane, actLoss_lane hf, actLoss_lane hf, if_pos rfl]
  by_cases hm : m = n
  · rw [if_pos hm, if_pos hm]; rfl
  · rw [if_neg hm, if_neg hm, if_neg hm]

/-! ## What the frame logic keeps -/

/-- What the frame logic of a lane leaves alone: the other lanes, the lane's place and lists and its counters of frames, the
slots that are not in its place, and the requests of others. -/
structure LaneKept (n : LaneId) (s t : State) : Prop where
  others : otherLanes n s t
  cur : (t.lane n).cur = (s.lane n).cur
  readyQ : (t.lane n).readyQ = (s.lane n).readyQ
  freeList : (t.lane n).freeList = (s.lane n).freeList
  published : (t.lane n).counters.published = (s.lane n).counters.published
  dropped : (t.lane n).counters.dropped = (s.lane n).counters.dropped
  slots : ∀ j, (s.lane n).cur ≠ some j → t.slot j = s.slot j
  requests : ∀ q, q ≠ .take n → q ≠ .allocate n → s.outstanding q = true → t.outstanding q = true
  frame : unchangedBut [.slots, .lanes, .log, .irq, .moment] s t

theorem LaneKept.refl (n : LaneId) (s : State) : LaneKept n s s where
  others _ _ := rfl
  cur := rfl
  readyQ := rfl
  freeList := rfl
  published := rfl
  dropped := rfl
  slots _ _ := rfl
  requests _ _ _ h := h
  frame := frame_refl _ s

theorem LaneKept.trans {n : LaneId} {s t u : State} (h : LaneKept n s t) (k : LaneKept n t u) : LaneKept n s u where
  others m hm := (k.others m hm).trans (h.others m hm)
  cur := k.cur.trans h.cur
  readyQ := k.readyQ.trans h.readyQ
  freeList := k.freeList.trans h.freeList
  published := k.published.trans h.published
  dropped := k.dropped.trans h.dropped
  slots j hj := (k.slots j (by rw [h.cur]; exact hj)).trans (h.slots j hj)
  requests q ht ha hq := k.requests q ht ha (h.requests q ht ha hq)
  frame := frame_trans h.frame k.frame

/-- What a change of a lane must keep for the frame logic to make it. -/
structure PlaceKept (l k : Lane) : Prop where
  cur : k.cur = l.cur
  readyQ : k.readyQ = l.readyQ
  freeList : k.freeList = l.freeList
  published : k.counters.published = l.counters.published
  dropped : k.counters.dropped = l.counters.dropped

/-- A change of the lane alone. -/
theorem LaneKept.ofLane {n : LaneId} {s t : State} {l : Lane} (hl : ∀ m, t.lane m = if m = n then l else s.lane m)
    (hkept : PlaceKept (s.lane n) l) (hslots : ∀ j, (s.lane n).cur ≠ some j → t.slot j = s.slot j)
    (hreq : ∀ q, q ≠ .take n → q ≠ .allocate n → s.outstanding q = true → t.outstanding q = true)
    (hframe : unchangedBut [.slots, .lanes, .log, .irq, .moment] s t) : LaneKept n s t := by
  have hn : t.lane n = l := (hl n).trans (if_pos rfl)
  exact
    { others := fun m hm => (hl m).trans (if_neg hm)
      cur := by rw [hn, hkept.cur]
      readyQ := by rw [hn, hkept.readyQ]
      freeList := by rw [hn, hkept.freeList]
      published := by rw [hn, hkept.published]
      dropped := by rw [hn, hkept.dropped]
      slots := hslots
      requests := hreq
      frame := hframe }

theorem updLane_kept (s : State) (n : LaneId) (f : Lane → Lane) (h : PlaceKept (s.lane n) (f (s.lane n))) :
    LaneKept n s (s.updLane n f) :=
  .ofLane (lane_updLane s n · f) h (fun j _ => frame_slot (updLane_frame s n f) j)
    (fun q _ _ hq => (frame_outstanding (updLane_frame s n f) q).trans hq) (frame_mono (updLane_frame s n f) (by decide))

theorem request_kept (s : State) (v : Voice) (n : LaneId) (r : Req) : LaneKept n s (s.request v r) :=
  .ofLane (l := s.lane n) (fun m => by rw [frame_lane (request_frame s v r)]; split <;> simp_all) ⟨rfl, rfl, rfl, rfl, rfl⟩
    (fun j _ => frame_slot (request_frame s v r) j) (fun q _ _ hq => by rw [request_outstanding, hq, Bool.or_true])
    (frame_mono (request_frame s v r) (by decide))

theorem updSlot_kept {s : State} {n : LaneId} {i : SlotId} (hc : (s.lane n).cur = some i) (f : Slot → Slot) :
    LaneKept n s (s.updSlot i f) :=
  .ofLane (l := s.lane n) (fun m => by rw [frame_lane (updSlot_frame s i f)]; split <;> simp_all) ⟨rfl, rfl, rfl, rfl, rfl⟩
    (fun j hj => by rw [slot_updSlot, if_neg fun e => hj (hc.trans (congrArg some e.symm))])
    (fun q _ _ hq => (frame_outstanding (updSlot_frame s i f) q).trans hq) (frame_mono (updSlot_frame s i f) (by decide))

theorem actLoss_kept {s : State} {n : LaneId} {h : FifoEntry} {more : List FifoEntry} (hf : (s.lane n).fifo = h :: more) :
    LaneKept n s (s.actLoss n) := by
  refine .ofLane (actLoss_lane hf) ⟨rfl, rfl, rfl, rfl, rfl⟩ (fun j hj => ?_)
    (fun q _ _ hq => (frame_outstanding (actLoss_frame s n) q).trans hq) (frame_mono (actLoss_frame s n) (by decide))
  cases hc : (s.lane n).cur with
  | none => exact frame_slot (actLoss_empty hf hc) j
  | some i => rw [actLoss_slot hf hc, if_neg fun e => hj (hc.trans (congrArg some e.symm))]

theorem dropHead_kept (s : State) (n : LaneId) : LaneKept n s (s.dropHead n) := updLane_kept s n _ ⟨rfl, rfl, rfl, rfl, rfl⟩

theorem stray_kept (s : State) (n : LaneId) (e : FifoEntry) : LaneKept n s (s.stray n e) :=
  .ofLane (stray_lane s n e) ⟨rfl, rfl, rfl, rfl, rfl⟩ (fun j _ => frame_slot (stray_frame s n e) j)
    (fun q _ _ hq => (frame_outstanding (stray_frame s n e) q).trans hq) (frame_mono (stray_frame s n e) (by decide))

theorem stopAtBoundary_kept (s : State) (n : LaneId) : LaneKept n s (s.stopAtBoundary n) :=
  .ofLane (stopAtBoundary_lane s n) ⟨rfl, rfl, rfl, rfl, rfl⟩ (fun j _ => frame_slot (stopAtBoundary_frame s n) j)
    (fun q ht ha hq => by rw [stopAtBoundary_outstanding, hq, bne_iff_ne.mpr ht, bne_iff_ne.mpr ha]; rfl)
    (frame_mono (stopAtBoundary_frame s n) (by decide))

theorem beginFrame_kept (s : State) (v : Voice) (n : LaneId) (e : FifoEntry) : LaneKept n s (s.beginFrame v n e) :=
  (updLane_kept s n (fun l => { l with
    frameSeq := l.nextSeq, frameStamp := e.stamp, nextSeq := l.nextSeq + 1, strayArmed := true })
    ⟨rfl, rfl, rfl, rfl, rfl⟩).trans (request_kept _ v n _)

theorem cutFrame_kept {s : State} {n : LaneId} {i : SlotId} (hc : (s.lane n).cur = some i) (v : Voice) :
    LaneKept n s (s.cutFrame v n i) :=
  (updSlot_kept hc _).trans (request_kept _ v n _)

/-- One handled entry keeps what the frame logic keeps. -/
theorem HeadStep.kept {v : Voice} {n : LaneId} {s t : State} {h : FifoEntry} {more : List FifoEntry}
    (hf : (s.lane n).fifo = h :: more) (hstep : HeadStep v n s h t) : LaneKept n s t := by
  have hact := actLoss_kept hf
  have hdrop := hact.trans (dropHead_kept (s.actLoss n) n)
  cases hstep with
  | stops => exact stopAtBoundary_kept s n
  | begins => exact hact.trans (beginFrame_kept _ v n h)
  | strays => exact hact.trans (stray_kept _ n h)
  | cuts i hcur => exact hact.trans (cutFrame_kept (hact.cur.trans hcur) v)
  | truncates i hcur =>
    have htruncated := hdrop.trans (updSlot_kept (hdrop.cur.trans hcur) fun r => { r with flags := { r.flags with truncated := true } })
    dsimp only
    split
    · exact htruncated.trans (request_kept _ v n _)
    · exact htruncated.trans (updLane_kept _ n _ ⟨rfl, rfl, rfl, rfl, rfl⟩)
  | discards i hcur =>
    dsimp only
    split
    · exact hdrop.trans (request_kept _ v n _)
    · exact hdrop
  | restarts => exact updLane_kept s n _ ⟨rfl, rfl, rfl, rfl, rfl⟩
  | ends =>
    have hidle := (dropHead_kept s n).trans (updLane_kept (s.dropHead n) n (fun l => { l with sub := .idle }) ⟨rfl, rfl, rfl, rfl, rfl⟩)
    dsimp only
    split
    · exact hidle.trans (stopAtBoundary_kept _ n)
    · exact hidle
  | skips => exact dropHead_kept s n

theorem frameLogicFor_kept (v : Voice) (n : LaneId) : ∀ (k : Nat) (s : State), LaneKept n s (State.frameLogicFor k v n s)
  | 0, s => .refl n s
  | k + 1, s => by
    rw [State.frameLogicFor]
    cases hs : s.handleHead v n with
    | none => exact .refl n s
    | some t =>
      obtain ⟨_, e, more, hf, hstep⟩ := step_of_handleHead hs
      exact (hstep.kept hf).trans (frameLogicFor_kept v n k t)

theorem frameLogic_kept (s : State) (v : Voice) (n : LaneId) : LaneKept n s (s.frameLogic v n) :=
  frameLogicFor_kept v n _ s

/-- With nothing to handle, the frame logic changes nothing. -/
theorem frameLogic_none {s : State} {v : Voice} {n : LaneId} (h : s.handleHead v n = none) : s.frameLogic v n = s :=
  frameLogicFor_none h _

/-! ## The frame logic goes on until nothing is left -/

/-- A bound on the entries that are left to handle: each is handled at most twice. -/
def headRounds (s : State) (n : LaneId) : Nat :=
  2 * (s.lane n).fifo.length + if (s.lane n).sub = .discarding then 1 else 0

theorem not_handles_publish {s : State} {n : LaneId} (h : s.outstanding (.publish n) = true) : ¬ handles s n :=
  fun ⟨_, _, hp, _⟩ => Bool.false_ne_true (hp.symm.trans h)

theorem not_handles_allocate {s : State} {n : LaneId} (h : s.outstanding (.allocate n) = true) : ¬ handles s n :=
  fun ⟨_, _, _, ha⟩ => Bool.false_ne_true (ha.symm.trans h)

/-- A handled entry leaves fewer rounds, or nothing to handle. -/
theorem HeadStep.rounds {v : Voice} {n : LaneId} {s t : State} {h : FifoEntry} {more : List FifoEntry}
    (hf : (s.lane n).fifo = h :: more) (hstep : HeadStep v n s h t) :
    t.handleHead v n = none ∨ headRounds t n < headRounds s n := by
  have hlength : 2 * more.length + 2 ≤ headRounds s n := by
    rw [headRounds, hf, List.length_cons]; omega
  have hfewer {t : State} (hl : (t.lane n).fifo = more) : headRounds t n < headRounds s n := by
    rw [headRounds, hl]
    split <;> omega
  have hstopped (t : State) : (t.stopAtBoundary n).handleHead v n = none :=
    handleHead_none v (.inr (by rw [stopAtBoundary_lane, if_pos rfl]; rfl))
  have hdropped : (((s.actLoss n).dropHead n).lane n).fifo = more := by rw [actLoss_dropHead_lane hf, if_pos rfl]
  have hdropped' : ((s.dropHead n).lane n).fifo = more := by rw [dropHead_lane, if_pos rfl, hf]; rfl
  have hpublish (u : State) : (u.request v (.publish n)).handleHead v n = none :=
    handleHead_none v (.inl (not_handles_publish (by rw [request_outstanding]; simp)))
  cases hstep with
  | stops => exact .inl (hstopped s)
  | begins =>
    exact .inl (handleHead_none v (.inl (not_handles_allocate (by rw [beginFrame_outstanding]; simp))))
  | strays =>
    refine .inr (hfewer ?_)
    rw [stray_lane, if_pos rfl, actLoss_lane hf, if_pos rfl]; rfl
  | cuts i => exact .inl (handleHead_none v (.inl (not_handles_publish (by rw [cutFrame_outstanding]; simp))))
  | truncates i hcur =>
    dsimp only
    split
    · exact .inl (hpublish _)
    · refine .inr (hfewer ?_)
      rw [lane_updLane, if_pos rfl, frame_lane (updSlot_frame _ i _)]
      exact hdropped
  | discards i hcur =>
    dsimp only
    split
    · exact .inl (hpublish _)
    · exact .inr (hfewer hdropped)
  | restarts hcur hsub =>
    refine .inr ?_
    rw [headRounds, headRounds, lane_updLane, if_pos rfl, if_pos hsub]
    simp
  | ends =>
    dsimp only
    split
    · exact .inl (hstopped _)
    · refine .inr (hfewer ?_)
      rw [lane_updLane, if_pos rfl]
      exact hdropped'
  | skips => exact .inr (hfewer hdropped')

/-- Enough rounds leave nothing to handle. -/
theorem frameLogicFor_settles (v : Voice) (n : LaneId) : ∀ (k : Nat) (s : State), headRounds s n < k →
    (State.frameLogicFor k v n s).handleHead v n = none
  | 0, s, h => absurd h (Nat.not_lt_zero _)
  | k + 1, s, h => by
    rw [State.frameLogicFor]
    cases hs : s.handleHead v n with
    | none => exact hs
    | some t =>
      obtain ⟨_, e, more, hf, hstep⟩ := step_of_handleHead hs
      rcases hstep.rounds hf with hnone | hless
      · exact (congrArg (State.handleHead · v n) (frameLogicFor_none hnone k)).trans hnone
      · exact frameLogicFor_settles v n k t (by omega)

/-- Any two bounds that are large enough give the same. -/
theorem frameLogicFor_enough (v : Voice) (n : LaneId) {s : State} {j k : Nat} (hj : headRounds s n < j)
    (hk : headRounds s n < k) : State.frameLogicFor j v n s = State.frameLogicFor k v n s := by
  rcases Nat.le_total j k with h | h
  · obtain ⟨d, rfl⟩ := Nat.exists_eq_add_of_le h
    exact (frameLogicFor_more j s (frameLogicFor_settles v n j s hj) d).symm
  · obtain ⟨d, rfl⟩ := Nat.exists_eq_add_of_le h
    exact frameLogicFor_more k s (frameLogicFor_settles v n k s hk) d

/-- The frame logic handles the head entry, and goes on from there. -/
theorem frameLogic_some {s t : State} {v : Voice} {n : LaneId} (h : s.handleHead v n = some t) :
    s.frameLogic v n = t.frameLogic v n := by
  have hrounds (u : State) : headRounds u n < 2 * (u.lane n).fifo.length + 2 := by
    rw [headRounds]; split <;> omega
  obtain ⟨_, e, more, hf, hstep⟩ := step_of_handleHead h
  rw [State.frameLogic, State.frameLogicFor, h]
  rcases hstep.rounds hf with hnone | hless
  · rw [frameLogic_none hnone]; exact frameLogicFor_none hnone _
  · have hs := hrounds s
    exact frameLogicFor_enough v n (by omega) (hrounds t)

end Sys2Proof.Proofs
end

section
/-! PROOFS. Words that arrive at a lane, and the frame logic entry by entry (R75, R81 to R92). -/

set_option Elab.async false

namespace Sys2Proof.Proofs

open Sys2Proof.Machine Sys2Proof.Safety Sys2Proof.Laws

/-! ## An occurrence at a lane's pins -/

/-- The state in the moment that an occurrence from a source opens. -/
def openedBy (s : State) (src : Source) : State := atMoment s ⟨[], [], s.opening src, false⟩

theorem openedBy_frame (s : State) (src : Source) : unchangedBut [.moment] s (openedBy s src) := atMoment_frame s _

theorem laneRow_calm {s : State} (h : calm s) (src : Source) (act : State → State) :
    s.laneRow src act = (openedBy s src).heard (act (openedBy s src)) := by
  rw [State.laneRow, joinMoment_calm h]; rfl

theorem heard_outstanding (s t : State) (q : Req) : (s.heard t).outstanding q = t.outstanding q := by
  rw [heard_eq]; rfl

theorem heard_asked (s t : State) : (s.heard t).moment.asked = t.moment.asked := by rw [heard_eq]

/-! ## The frame logic by the entry at the head -/

/-- The lane's frame logic stops the lane. -/
theorem stopAtBoundary_spec (s : State) (n : LaneId) :
    (s.stopAtBoundary n).lane n = stoppedForm (s.lane n) ∧ otherLanes n s (s.stopAtBoundary n) ∧
      (s.stopAtBoundary n).outstanding (.take n) = false ∧ (s.stopAtBoundary n).outstanding (.allocate n) = false ∧
      raises [laneEvent s n .laneStopped none 0] s (s.stopAtBoundary n) ∧
      unchangedBut [.lanes, .log, .irq, .moment] s (s.stopAtBoundary n) := by
  refine ⟨?_, fun m hm => ?_, ?_, ?_, ?_, frame_mono (stopAtBoundary_frame s n) (by decide)⟩
  · rw [stopAtBoundary_lane, if_pos rfl]
  · rw [stopAtBoundary_lane, if_neg hm]
  · rw [stopAtBoundary_outstanding]; simp
  · rw [stopAtBoundary_outstanding]; simp
  · exact raises_raiseLane (raises_start (enterStopped_frame s n)) (enterStopped_frame s n .tb (by decide)) rfl

/-- A lane event does not depend on what the lane holds. -/
theorem laneEvent_congr {s t : State} (h : t.tb = s.tb) (n : LaneId) (k : Kind) (i : Option SlotId) (d : Nat) :
    laneEvent t n k i d = laneEvent s n k i d := by rw [laneEvent, laneEvent, h]

/-- The frame logic with a slot in hand. -/
theorem handleHead_holding {s : State} {n : LaneId} {h : FifoEntry} {more : List FifoEntry} {i : SlotId} (v : Voice)
    (hh : handles s n) (hf : (s.lane n).fifo = h :: more) (hc : (s.lane n).cur = some i) :
    let l := s.lane n
    let head : Lane := { l with fifo := { h with loss := false } :: more }
    let tail : Lane := { l with fifo := more }
    let unacted := h.sof = true ∧ h.acted = false
    let flags : SlotFlags := { (s.slot i).flags with wordsLost := (s.slot i).flags.wordsLost || h.loss }
    let marked (t : State) : Prop :=
      s.handleHead v n = some t ∧ otherLanes n s t ∧ otherSlots i s t ∧
        raises (if h.loss = true ∧ (s.slot i).flags.wordsLost = false then
          [laneEvent s n .wordsLost (some i) (s.slot i).seq.toNat] else []) s t ∧
        unchangedBut [.slots, .lanes, .log, .irq, .moment] s t
    (l.sub = .receiving ∧ unacted ∨ l.sub = .discarding ∧ h.sof = true →
      ∃ t, marked t ∧ t.lane n = head ∧ t.slot i = { s.slot i with flags := { flags with cut := true } } ∧
        t.outstanding (.publish n) = true) ∧
    (l.sub = .receiving → ¬ unacted → (s.slot i).length < (s.slot i).capacity → s.handleHead v n = none) ∧
    (l.sub = .receiving → ¬ unacted → (s.slot i).capacity ≤ (s.slot i).length →
      ∃ t, marked t ∧ t.lane n = { tail with sub := if h.eof then .receiving else .discarding } ∧
        t.slot i = { s.slot i with flags := { flags with truncated := true } } ∧
        t.outstanding (.publish n) = h.eof) ∧
    (l.sub = .discarding → h.sof = false →
      ∃ t, marked t ∧ t.lane n = tail ∧ t.slot i = { s.slot i with flags := flags } ∧
        t.outstanding (.publish n) = h.eof) := by
  intro l head tail unacted flags marked
  have hpublish : s.outstanding (.publish n) = false := hh.2.2.1
  have hact := actLoss_frame s n
  have hslot (j : SlotId) : (s.actLoss n).slot j = if j = i then lossTaken h.loss (s.slot i) else s.slot j :=
    actLoss_slot hf hc j
  have hraises := actLoss_raises hf hc
  have hdrop := dropHead_frame (s.actLoss n) n
  have hdropRaises := raises_frame hraises hdrop
  have hboth := frame_comp (hs := [.lanes, .slots, .log, .irq]) hact hdrop
  have hmarked {t : State} (hstep : HeadStep v n s h t) (hslots : otherSlots i s t)
      (hevents : raises (lossEvents s n i h.loss) s t) : marked t :=
    ⟨handleHead_of_step hh hf hstep, (hstep.kept hf).others, hslots, hevents, (hstep.kept hf).frame⟩
  have hdropSlot (j : SlotId) : ((s.actLoss n).dropHead n).slot j = if j = i then lossTaken h.loss (s.slot i) else s.slot j :=
    (frame_slot hdrop j).trans (hslot j)
  have hdropLane := actLoss_dropHead_lane hf
  have hdropOut : ((s.actLoss n).dropHead n).outstanding (.publish n) = false :=
    (frame_outstanding hboth _).trans hpublish
  refine ⟨fun hcut => ?_, fun hsub hacted hroom => handleHead_waits v hf hsub hc hacted hroom, fun hsub hacted hfull => ?_,
    fun hsub hsof => ?_⟩
  · have hcframe := cutFrame_frame (s.actLoss n) v n i
    refine ⟨_, hmarked (.cuts i hc hcut) (fun j hj => ?_) (raises_frame hraises hcframe), ?_, ?_, ?_⟩
    · rw [cutFrame_slot, if_neg hj, hslot, if_neg hj]
    · rw [frame_lane hcframe, actLoss_lane hf, if_pos rfl]
    · rw [cutFrame_slot, if_pos rfl, hslot, if_pos rfl]; rfl
    · rw [cutFrame_outstanding]; simp
  · have hupd := updSlot_frame ((s.actLoss n).dropHead n) i fun r => { r with flags := { r.flags with truncated := true } }
    have hstep : HeadStep v n s h _ := .truncates i hc hsub hacted hfull
    have htruncated (j : SlotId) : (((s.actLoss n).dropHead n).updSlot i fun r =>
        { r with flags := { r.flags with truncated := true } }).slot j =
        if j = i then { s.slot i with flags := { flags with truncated := true } } else s.slot j := by
      rw [slot_updSlot, hdropSlot, hdropSlot, if_pos rfl]
      by_cases hj : j = i
      · rw [if_pos hj, if_pos hj]; rfl
      · rw [if_neg hj, if_neg hj, if_neg hj]
    have hlane := frame_lane hupd n
    rw [hdropLane, if_pos rfl] at hlane
    have hout := frame_outstanding hupd (.publish n)
    rw [hdropOut] at hout
    have hevents := raises_frame hdropRaises hupd
    generalize ((s.actLoss n).dropHead n).updSlot i (fun r => { r with flags := { r.flags with truncated := true } }) = u at *
    cases heof : h.eof with
    | true =>
      rw [heof] at hstep
      have hreq := request_frame u v (.publish n)
      refine ⟨u.request v (.publish n), hmarked hstep (fun j hj => ?_) (raises_frame hevents hreq), ?_, ?_, ?_⟩
      · rw [frame_slot hreq, htruncated, if_neg hj]
      · rw [frame_lane hreq, hlane, if_pos rfl, ← hsub]
      · rw [frame_slot hreq, htruncated, if_pos rfl]
      · rw [request_outstanding]; simp
    | false =>
      rw [heof] at hstep
      have hlast := updLane_frame u n fun l => { l with sub := .discarding }
      refine ⟨u.updLane n fun l => { l with sub := .discarding }, hmarked hstep (fun j hj => ?_) (raises_frame hevents hlast),
        ?_, ?_, (frame_outstanding hlast _).trans hout⟩
      · rw [frame_slot hlast, htruncated, if_neg hj]
      · rw [lane_updLane, if_pos rfl, hlane]; rfl
      · rw [frame_slot hlast, htruncated, if_pos rfl]
  · have hstep : HeadStep v n s h _ := .discards i hc hsub hsof
    have hlane : ((s.actLoss n).dropHead n).lane n = tail := (hdropLane n).trans (if_pos rfl)
    generalize (s.actLoss n).dropHead n = u at *
    cases heof : h.eof with
    | true =>
      rw [heof] at hstep
      have hreq := request_frame u v (.publish n)
      refine ⟨u.request v (.publish n), hmarked hstep (fun j hj => ?_) (raises_frame hdropRaises hreq),
        (frame_lane hreq n).trans hlane, ?_, ?_⟩
      · rw [frame_slot hreq, hdropSlot, if_neg hj]
      · rw [frame_slot hreq, hdropSlot, if_pos rfl]; rfl
      · rw [request_outstanding]; simp
    | false =>
      rw [heof] at hstep
      refine ⟨u, hmarked hstep (fun j hj => ?_) hdropRaises, hlane, ?_, hdropOut⟩
      · rw [hdropSlot, if_neg hj]
      · rw [hdropSlot, if_pos rfl]; rfl

/-- The frame logic in IDLE with no slot in hand. -/
theorem handleHead_begins {s : State} {n : LaneId} {h : FifoEntry} {more : List FifoEntry} (v : Voice) (hh : handles s n)
    (hf : (s.lane n).fifo = h :: more) (hsub : (s.lane n).sub = .idle) (hst : (s.lane n).st = .running)
    (hc : (s.lane n).cur = none) (hsof : h.sof = true) :
    ∃ t, s.handleHead v n = some t ∧
      t.lane n = { s.lane n with
        fifo := { h with loss := false } :: more
        frameSeq := (s.lane n).nextSeq, frameStamp := h.stamp, nextSeq := (s.lane n).nextSeq + 1, strayArmed := true } ∧
      otherLanes n s t ∧ t.outstanding (.allocate n) = true ∧ unchangedBut [.lanes, .moment] s t := by
  have hstep : HeadStep v n s h _ := .begins hsub (by rw [hst]; decide) hsof
  refine ⟨_, handleHead_of_step hh hf hstep, ?_, (hstep.kept hf).others, ?_,
    frame_comp (actLoss_empty hf hc) (beginFrame_frame _ v n h)⟩
  · rw [beginFrame_lane, if_pos rfl, actLoss_lane hf, if_pos rfl]
  · rw [beginFrame_outstanding]; simp

theorem handleHead_strays {s : State} {n : LaneId} {h : FifoEntry} {more : List FifoEntry} (v : Voice) (hh : handles s n)
    (hf : (s.lane n).fifo = h :: more) (hsub : (s.lane n).sub = .idle) (hst : (s.lane n).st = .running)
    (hc : (s.lane n).cur = none) (hsof : h.sof = false) :
    ∃ t, s.handleHead v n = some t ∧
      t.lane n = { s.lane n with
        fifo := more, strayArmed := false
        counters := { (s.lane n).counters with strayWords := plus (s.lane n).counters.strayWords 1 } } ∧
      otherLanes n s t ∧
      raises (if (s.lane n).strayArmed then [laneEvent s n .strayWords none h.data.toNat] else []) s t ∧
      unchangedBut [.lanes, .log, .irq] s t := by
  have hstep : HeadStep v n s h _ := .strays hsub (by rw [hst]; decide) hsof
  have hact := actLoss_lane hf n
  rw [if_pos rfl] at hact
  refine ⟨_, handleHead_of_step hh hf hstep, ?_, (hstep.kept hf).others, stray_raises (actLoss_empty hf hc) n h (by rw [hact]),
    frame_comp (actLoss_empty hf hc) (stray_frame _ n h)⟩
  rw [stray_lane, if_pos rfl, hact]; rfl

/-- The frame logic in DISCARDING with no slot in hand. -/
theorem handleHead_orphan {s : State} {n : LaneId} {h : FifoEntry} {more : List FifoEntry} (v : Voice) (hh : handles s n)
    (hf : (s.lane n).fifo = h :: more) (hsub : (s.lane n).sub = .discarding) (hc : (s.lane n).cur = none) :
    let l := s.lane n
    (h.sof = true → ∃ t, s.handleHead v n = some t ∧ t.lane n = { l with sub := .idle } ∧ otherLanes n s t ∧
      unchangedBut [.lanes] s t) ∧
    (h.sof = false → (h.eof = false ∨ l.st ≠ .stopping) →
      ∃ t, s.handleHead v n = some t ∧ t.lane n = { l with fifo := more, sub := if h.eof then .idle else .discarding } ∧
        otherLanes n s t ∧ unchangedBut [.lanes] s t) ∧
    (h.sof = false → h.eof = true → l.st = .stopping →
      ∃ t, s.handleHead v n = some t ∧ t.lane n = stoppedForm l ∧ otherLanes n s t ∧
        t.outstanding (.take n) = false ∧ t.outstanding (.allocate n) = false ∧
        raises [laneEvent s n .laneStopped none 0] s t ∧ unchangedBut [.lanes, .log, .irq, .moment] s t) := by
  intro l
  have hdrop := dropHead_frame s n
  have hidle := frame_comp (hs := [.lanes]) hdrop (updLane_frame (s.dropHead n) n fun l => { l with sub := .idle })
  have hdropped : (s.dropHead n).lane n = { l with fifo := more } := by
    rw [dropHead_lane, if_pos rfl, hf]; rfl
  have hidleLane : ((s.dropHead n).updLane n fun l => { l with sub := .idle }).lane n = { l with fifo := more, sub := .idle } := by
    rw [lane_updLane, if_pos rfl, hdropped]
  refine ⟨fun hsof => ?_, fun hsof hor => ?_, fun hsof heof hst => ?_⟩
  · have hstep : HeadStep v n s h _ := .restarts hc hsub hsof
    refine ⟨_, handleHead_of_step hh hf hstep, ?_, (hstep.kept hf).others, updLane_frame s n _⟩
    rw [lane_updLane, if_pos rfl]
  · cases heof : h.eof with
    | false =>
      have hstep : HeadStep v n s h _ := .skips hc hsub hsof heof
      refine ⟨_, handleHead_of_step hh hf hstep, ?_, (hstep.kept hf).others, hdrop⟩
      rw [hdropped, if_neg (by decide), ← hsub]
    | true =>
      have hstep : HeadStep v n s h _ := .ends hc hsub hsof heof
      have hst : (s.lane n).st ≠ .stopping := hor.resolve_left (by rw [heof]; decide)
      simp only [if_neg hst] at hstep
      exact ⟨_, handleHead_of_step hh hf hstep, hidleLane.trans (by rw [if_pos rfl]), (hstep.kept hf).others, hidle⟩
  · have hstep : HeadStep v n s h _ := .ends hc hsub hsof heof
    simp only [if_pos (show (s.lane n).st = .stopping from hst)] at hstep
    obtain ⟨hlane, _, htake, hallocate, hevents, hframe⟩ :=
      stopAtBoundary_spec ((s.dropHead n).updLane n fun l => { l with sub := .idle }) n
    rw [hidleLane] at hlane
    rw [laneEvent_congr (hidle .tb (by decide))] at hevents
    exact ⟨_, handleHead_of_step hh hf hstep, hlane, (hstep.kept hf).others, htake, hallocate, raises_from hidle hevents,
      frame_comp hidle hframe⟩

/-! ## A word at an ingress lane (R81, R82) -/

/-- The lane is ready for a word, as its port drives Ln_READY. -/
def readyFor (l : Lane) : Prop :=
  l.cfg.dir = .ingress ∧ l.st ≠ .off ∧ (l.cfg.backpressure = true → l.moving = true ∧ l.fifo.length < 32)

theorem readyOut_iff {s : State} (h : s.rst.pinHeld = false) (n : LaneId) : s.readyOut n = true ↔ readyFor (s.lane n) := by
  rw [State.readyOut, readyFor, h]
  have hroom : decide ((s.lane n).fifo.length < Config.fifoDepth) = true ↔ (s.lane n).fifo.length < 32 := decide_eq_true_iff
  cases (s.lane n).cfg.backpressure <;> simp [-decide_eq_true_eq, hroom, and_assoc]

/-- The lane with a word at the tail of its FIFO. -/
def wordTaken (s : State) (n : LaneId) (data : Word) (sof eof : Bool) : State :=
  s.updLane n fun l => l.accept data sof eof s.tb.count

theorem arrive_ignored {s : State} {n : LaneId} (data : Word) (sof eof : Bool)
    (h : s.readyOut n = false ∨ (s.lane n).moving = false) : s.arrive n data sof eof = s := if_pos h

theorem arrive_taken {s : State} {n : LaneId} (data : Word) (sof eof : Bool) (hr : s.readyOut n = true)
    (hm : (s.lane n).moving = true) (hroom : (s.lane n).fifo.length < 32) :
    s.arrive n data sof eof = (wordTaken s n data sof eof).frameLogic .asking n := by
  have hno : ¬ (s.readyOut n = false ∨ (s.lane n).moving = false) := by rw [hr, hm]; decide
  exact (if_neg hno).trans (if_pos hroom)

theorem arrive_lost {s : State} {n : LaneId} (data : Word) (sof eof : Bool) (hr : s.readyOut n = true)
    (hm : (s.lane n).moving = true) (hfull : 32 ≤ (s.lane n).fifo.length) :
    s.arrive n data sof eof = (s.count n fun c => { c with wordsLost := satInc c.wordsLost }).updLane n
      fun l => { l with lossPending := true } := by
  have hno : ¬ (s.readyOut n = false ∨ (s.lane n).moving = false) := by rw [hr, hm]; decide
  exact (if_neg hno).trans (if_neg (Nat.not_lt.mpr hfull))

theorem wordArrivals (s : State) (n : LaneId) (data : Word) (sof eof : Bool) (h : calm s) :
    let l := s.lane n
    let row := exec (.wordArrival n data sof eof) s
    let ready := l.cfg.dir = .ingress ∧ l.st ≠ .off ∧
      (l.cfg.backpressure = true → l.moving = true ∧ l.fifo.length < 32)
    let entry : FifoEntry := ⟨data, sof, eof, l.lossPending, false, false, if sof then s.tb.count else 0⟩
    (¬ ready ∨ l.moving = false → ∃ r, row = .next r.arbitrate ∧ unchangedBut [.moment] s r ∧ r.moment.asked = []) ∧
      (ready → l.moving = true → 32 ≤ l.fifo.length →
        ∃ r, row = .next r.arbitrate ∧
          r.lane n = { l with
            lossPending := true, counters := { l.counters with wordsLost := plus l.counters.wordsLost 1 } } ∧
          otherLanes n s r ∧ unchangedBut [.moment, .lanes] s r) ∧
      (∀ i h more, ready → l.moving = true → l.fifo.length < 32 → l.sub = .receiving → l.cur = some i →
        (s.slot i).length < (s.slot i).capacity → l.fifo = h :: more → (h.sof = false ∨ h.acted = true) →
        ∃ r, row = .next r.arbitrate ∧ r.lane n = { l with fifo := l.fifo ++ [entry], lossPending := false } ∧
          otherLanes n s r ∧ unchangedBut [.moment, .lanes] s r) ∧
      (ready → l.st = .running → l.sub = .idle → l.cur = none → l.fifo = [] → sof = true →
        ∃ r, row = .next r.arbitrate ∧
          r.lane n = { l with
            fifo := [{ entry with loss := false }], lossPending := false, frameSeq := l.nextSeq
            frameStamp := s.tb.count, nextSeq := l.nextSeq + 1, strayArmed := true } ∧
          otherLanes n s r ∧ r.outstanding (.allocate n) = true ∧ unchangedBut [.moment, .lanes] s r) ∧
      (ready → l.st = .running → l.sub = .idle → l.cur = none → l.fifo = [] → sof = false →
        ∃ r, row = .next r.arbitrate ∧
          r.lane n = { l with
            lossPending := false, strayArmed := false
            counters := { l.counters with strayWords := plus l.counters.strayWords 1 } } ∧
          otherLanes n s r ∧
          raises (if l.strayArmed then [laneEvent s n .strayWords none data.toNat] else []) s r ∧
          unchangedBut [.moment, .lanes, .log, .irq] s r) ∧
      (ready → l.moving = true → l.fifo.length < 32 →
        ∃ t r, row = .next r.arbitrate ∧
          (t.lane n = { l with fifo := l.fifo ++ [entry], lossPending := false } ∧ otherLanes n s t ∧
            t.moment.asked = [] ∧ t.moment.caused = [] ∧ unchangedBut [.moment, .lanes] s t) ∧
          goesOn .asking n t r) ∧
      (l.cfg.dir = .ingress → s.streamOut n = ⟨some (decide ready), none, none, none, none, none⟩) := by
  intro l row ready entry
  have hready : s.readyOut n = true ↔ ready := readyOut_iff h.2 n
  have hrow : row = .next ((openedBy s (.stream n)).heard ((openedBy s (.stream n)).arrive n data sof eof)).arbitrate :=
    congrArg (fun t : State => Host.Outcome.next t.arbitrate) (laneRow_calm h (.stream n) fun s => s.arrive n data sof eof)
  have hopened := openedBy_frame s (.stream n)
  have hasked : (openedBy s (.stream n)).moment.asked = [] ∧ (openedBy s (.stream n)).moment.caused = [] := ⟨rfl, rfl⟩
  have hpin : (openedBy s (.stream n)).readyOut n = s.readyOut n := rfl
  have hlane (m : LaneId) : (openedBy s (.stream n)).lane m = s.lane m := rfl
  have hstamp : (openedBy s (.stream n)).tb = s.tb := rfl
  have hout (q : Req) : (openedBy s (.stream n)).outstanding q = false := rfl
  generalize openedBy s (.stream n) = u at *
  have hutaken := frame_comp (hs := [.moment, .lanes]) hopened (updLane_frame u n fun l => l.accept data sof eof u.tb.count)
  have htaken (m : LaneId) : (wordTaken u n data sof eof).lane m =
      if m = n then { l with fifo := l.fifo ++ [entry], lossPending := false } else s.lane m := by
    rw [wordTaken, lane_updLane, hlane, hlane, Lane.accept, hstamp]
  have htakenOut (q : Req) : (wordTaken u n data sof eof).outstanding q = false :=
    (frame_outstanding (updLane_frame u n _) q).trans (hout q)
  have htakenMoment : (wordTaken u n data sof eof).moment = u.moment := updLane_frame u n _ .moment (by decide)
  have htn : (wordTaken u n data sof eof).lane n = { l with fifo := l.fifo ++ [entry], lossPending := false } := by
    rw [htaken, if_pos rfl]
  have htother : otherLanes n s (wordTaken u n data sof eof) := fun m hm => by rw [htaken, if_neg hm]
  have haccepts (hr : ready) (hm : l.moving = true) (hroom : l.fifo.length < 32) :
      row = .next (u.heard ((wordTaken u n data sof eof).frameLogic .asking n)).arbitrate := by
    rw [hrow, arrive_taken data sof eof (hpin.trans (hready.mpr hr)) (by rw [hlane]; exact hm) (by rw [hlane]; exact hroom)]
  change unchangedBut [.moment, .lanes] s (wordTaken u n data sof eof) at hutaken
  generalize wordTaken u n data sof eof = t at *
  have hhandles (hr : ready) (hm : l.moving = true) : handles t n := by
    refine ⟨?_, ?_, htakenOut _, htakenOut _⟩
    · rw [htn]; exact hr.1
    · rw [htn]; exact hm
  refine ⟨fun hno => ?_, fun hr hm hfull => ?_, fun i h' more hr hm hroom hsub hcur hlen hf hacted => ?_,
    fun hr hst hsub hcur hf hsof => ?_, fun hr hst hsub hcur hf hsof => ?_, fun hr hm hroom => ?_, fun hdir => ?_⟩
  · have hignored : u.readyOut n = false ∨ (u.lane n).moving = false := by
      rw [hpin, hlane]
      exact hno.imp (fun hn => Bool.not_eq_true _ ▸ fun hr => hn (hready.mp hr)) id
    rw [arrive_ignored data sof eof hignored] at hrow
    exact ⟨_, hrow, frame_comp hopened (heard_frame u u), (heard_asked u u).trans hasked.1⟩
  · rw [arrive_lost data sof eof (hpin.trans (hready.mpr hr)) (by rw [hlane]; exact hm) (by rw [hlane]; exact hfull)] at hrow
    refine ⟨_, hrow, ?_, fun m hne => ?_, frame_comp (frame_comp (hs := [.moment, .lanes])
      (frame_comp (hs := [.moment, .lanes]) hopened (count_frame u n _)) (updLane_frame _ n _)) (heard_frame _ _)⟩
    · rw [frame_lane (heard_frame _ _), lane_updLane, if_pos rfl, State.count, lane_updLane, if_pos rfl, hlane]; rfl
    · rw [frame_lane (heard_frame _ _), lane_updLane, if_neg hne, State.count, lane_updLane, if_neg hne, hlane]
  · have hwaits : t.handleHead .asking n = none := by
      refine handleHead_waits (e := h') (more := more ++ [entry]) (i := i) .asking ?_ ?_ ?_ ?_ ?_
      · rw [htn, hf]; rfl
      · rw [htn]; exact hsub
      · rw [htn]; exact hcur
      · rintro ⟨hsof, hac⟩
        rcases hacted with hs | ha
        · rw [hs] at hsof; exact absurd hsof (by decide)
        · rw [ha] at hac; exact absurd hac (by decide)
      · rw [frame_slot hutaken]; exact hlen
    have hrow' := haccepts hr hm hroom
    rw [frameLogic_none hwaits] at hrow'
    refine ⟨_, hrow', ?_, fun m hne => ?_, frame_comp hutaken (heard_frame u t)⟩
    · rw [frame_lane (heard_frame u t), htn]
    · rw [frame_lane (heard_frame u t)]; exact htother m hne
  · have hmoving : l.moving = true := by rw [Lane.moving, hst]; rfl
    have hfifo : (t.lane n).fifo = entry :: [] := by rw [htn, hf]; rfl
    obtain ⟨w, hw, hwl, hwo, hwout, hwf⟩ := handleHead_begins .asking (hhandles hr hmoving) hfifo
      (by rw [htn]; exact hsub) (by rw [htn]; exact hst) (by rw [htn]; exact hcur) hsof
    have hrow' := haccepts hr hmoving (by rw [hf]; decide)
    rw [frameLogic_some hw, frameLogic_none (handleHead_none _ (.inl (not_handles_allocate hwout)))] at hrow'
    refine ⟨_, hrow', ?_, fun m hne => ?_, ?_, frame_comp (frame_comp (hs := [.moment, .lanes]) hutaken hwf) (heard_frame u w)⟩
    · rw [frame_lane (heard_frame u w), hwl, htn, show entry.stamp = s.tb.count from if_pos hsof]
    · rw [frame_lane (heard_frame u w), hwo m hne]; exact htother m hne
    · rw [heard_outstanding]; exact hwout
  · have hmoving : l.moving = true := by rw [Lane.moving, hst]; rfl
    have hfifo : (t.lane n).fifo = entry :: [] := by rw [htn, hf]; rfl
    obtain ⟨w, hw, hwl, hwo, hwraises, hwf⟩ := handleHead_strays .asking (hhandles hr hmoving) hfifo
      (by rw [htn]; exact hsub) (by rw [htn]; exact hst) (by rw [htn]; exact hcur) hsof
    have hrow' := haccepts hr hmoving (by rw [hf]; decide)
    have hempty : (w.lane n).fifo = [] := by rw [hwl]
    rw [frameLogic_some hw, frameLogic_none (handleHead_none _ (.inr hempty))] at hrow'
    rw [htn, laneEvent_congr (hutaken .tb (by decide))] at hwraises
    refine ⟨_, hrow', ?_, fun m hne => ?_, raises_frame (raises_from hutaken hwraises) (heard_frame u w),
      frame_comp (frame_comp (hs := [.moment, .lanes, .log, .irq]) hutaken hwf) (heard_frame u w)⟩
    · rw [frame_lane (heard_frame u w), hwl, htn, ← hf]
    · rw [frame_lane (heard_frame u w), hwo m hne]; exact htother m hne
  · refine ⟨t, _, haccepts hr hm hroom, ⟨htn, htother, ?_, ?_, hutaken⟩, goesOn_heard .asking n u t⟩
    · rw [htakenMoment]; exact hasked.1
    · rw [htakenMoment]; exact hasked.2
  · have hout : s.readyOut n = decide ready := by rw [Bool.eq_iff_iff, hready, decide_eq_true_iff]
    rw [State.streamOut, if_neg (by rw [h.2]; decide), ← hout]
    simp only [show (s.lane n).cfg.dir = .ingress from hdir]

/-- Settles O55: a word's arrival, the lane's READY, and the frame logic entry by entry. -/
theorem arrivingWords : Obligations.ArrivingWords := by
  refine ⟨wordArrivals, fun s n h => ?_, fun v n s => ?_, fun s v n => ?_⟩
  · have hinactive : s.streamOut n = StreamOut.inactive := by
      unfold State.streamOut
      rcases h with hdir | hheld
      · simp only [hdir]; split <;> rfl
      · simp only [hheld, if_true]
    rw [hinactive]; exact ⟨rfl, rfl⟩
  · cases hs : s.handleHead v n with
    | none => exact frameLogic_none hs
    | some t => exact frameLogic_some hs
  · refine ⟨fun h => handleHead_none v h, fun h more hh hf => ?_⟩
    have hstep {t : State} (hs : HeadStep v n s h t) : s.handleHead v n = some t := handleHead_of_step hh hf hs
    refine ⟨fun hsub hst => ?_, fun hsub hst hc hsof => handleHead_begins v hh hf hsub hst hc hsof,
      fun hsub hst hc hsof => handleHead_strays v hh hf hsub hst hc hsof, fun i hc => handleHead_holding v hh hf hc,
      fun hsub hc hsof => (handleHead_orphan v hh hf hsub hc).1 hsof,
      fun hsub hc hsof hor => (handleHead_orphan v hh hf hsub hc).2.1 hsof hor,
      fun hsub hc hsof heof hst => (handleHead_orphan v hh hf hsub hc).2.2 hsof heof hst, fun hidle => handleHead_idle v hidle⟩
    obtain ⟨hlane, hothers, htake, hallocate, hevents, hframe⟩ := stopAtBoundary_spec s n
    exact ⟨_, hstep (.stops hsub hst), hlane, hothers, htake, hallocate, hevents, hframe⟩

end Sys2Proof.Proofs
end

section
/-! PROOFS. The publish and the allocate of an ingress lane (R58, R61, R85, R86, R93). -/

set_option Elab.async false

namespace Sys2Proof.Proofs

open Sys2Proof.Machine Sys2Proof.Safety Sys2Proof.Laws

/-! ## The moment of a service -/

/-- What is left of the moment once its first request is taken out of it. -/
theorem begun_moment {s : State} {q : Req} (h : s.nextDue = some (.req q)) :
    (begun s).moment = ⟨(requestsLeft s).1, (requestsLeft s).2, [], false⟩ := by
  obtain ⟨_, _, _, ⟨rest, hasked⟩ | ⟨hasked, rest, hcaused⟩⟩ := nextDue_req h
  · simp only [begun, Moment.popped, requestsLeft, hasked]
  · simp only [begun, Moment.popped, requestsLeft, hasked, hcaused, List.tail_cons]

theorem halves_mod {lo : Nat} (hi : Nat) (hlo : lo < 65536) :
    halves lo hi = BitVec.ofNat 32 (lo + 65536 * (hi % 65536)) := by
  rw [← halves_eq hlo (Nat.mod_lt hi (by decide)), halves, halves, show 65536 = 2 ^ 16 from rfl, Nat.mod_mod]

/-! ## Publish (R58, R93) -/

/-- The slot as a publish leaves it. -/
theorem published_eq (l : Lane) (r : Slot) : r.published (if l.cfg.inspect then l.inspecting else none) =
    { r with
      st := .ready, stats := match l.cfg.inspect, l.inspecting with
        | true, some x => some ⟨~~~x.crcReg, x.ones, x.leadZeros, !x.sawOne⟩
        | _, _ => r.stats } := by
  cases hi : l.cfg.inspect <;> cases hx : l.inspecting <;> rfl

/-- The lane as a publish leaves it, before it stops or goes on. -/
def publishedLane (l : Lane) (i : SlotId) (flags : SlotFlags) : Lane :=
  { l with
    cur := none, sub := .idle, inspecting := none, readyQ := l.readyQ ++ [i]
    counters := { l.counters with
      published := plus l.counters.published 1
      truncated := if flags.truncated then plus l.counters.truncated 1 else l.counters.truncated
      cut := if flags.cut then plus l.counters.cut 1 else l.counters.cut } }

/-- The events of a published frame. -/
def publishEvents (s : State) (n : LaneId) (i : SlotId) : List Event :=
  (if (s.slot i).flags.truncated then [laneEvent s n .frameTruncated (some i) (s.slot i).seq.toNat] else []) ++
  (if (s.slot i).flags.cut then [laneEvent s n .frameCut (some i) (s.slot i).seq.toNat] else []) ++
  (if (s.lane n).cfg.frameEvents then
    [laneEvent s n .framePublished (some i) ((s.slot i).seq.toNat + 65536 * (((s.slot i).length - 1) % 65536))] else [])

/-- A lane event under a condition, behind those raised so far. -/
theorem raises_if {es : List Event} {s t : State} (h : raises es s t) (c : Bool) {n : LaneId} {kind : Kind}
    {slot : Option SlotId} {detail : Word} {k : Nat} (htb : t.tb = s.tb) (hd : detail = BitVec.ofNat 32 k) :
    raises (es ++ if c then [laneEvent s n kind slot k] else []) s (if c then t.raiseLane n kind slot detail else t) := by
  cases c with
  | false => simpa only [Bool.false_eq_true, if_false, List.append_nil] using h
  | true => exact raises_raiseLane h htb hd

theorem raiseIf_frame (t : State) (c : Bool) (n : LaneId) (kind : Kind) (slot : Option SlotId) (detail : Word) :
    unchangedBut [.log, .irq] t (if c then t.raiseLane n kind slot detail else t) := by
  split
  · exact raiseLane_frame t n kind slot detail
  · exact frame_refl _ t

theorem raisePublished_frame (t : State) (n : LaneId) (i : SlotId) :
    unchangedBut [.log, .irq] t (t.raisePublished n i) :=
  frame_trans (frame_trans (raiseIf_frame t _ n _ _ _) (raiseIf_frame _ _ n _ _ _)) (raiseIf_frame _ _ n _ _ _)

theorem raisePublished_raises {es : List Event} {s t : State} {n : LaneId} {i : SlotId} (h : raises es s t)
    (htb : t.tb = s.tb) (hflags : (t.slot i).flags = (s.slot i).flags) (hseq : (t.slot i).seq = (s.slot i).seq)
    (hlen : (t.slot i).length = (s.slot i).length) (hcfg : (t.lane n).cfg = (s.lane n).cfg) :
    raises (es ++ publishEvents s n i) s (t.raisePublished n i) := by
  have hfirst := raises_if (n := n) (kind := .frameTruncated) (slot := some i) (detail := placed (t.slot i).seq.toNat 0)
    (k := (s.slot i).seq.toNat) h (t.slot i).flags.truncated htb (by rw [placed_zero_eq, hseq])
  have hframe1 := raiseIf_frame t (t.slot i).flags.truncated n .frameTruncated (some i) (placed (t.slot i).seq.toNat 0)
  have hraise : t.raisePublished n i = (
      let u := if (t.slot i).flags.truncated then t.raiseLane n .frameTruncated (some i) (placed (t.slot i).seq.toNat 0) else t
      let v := if (t.slot i).flags.cut then u.raiseLane n .frameCut (some i) (placed (t.slot i).seq.toNat 0) else u
      if (v.lane n).cfg.frameEvents then
        v.raiseLane n .framePublished (some i) (halves (t.slot i).seq.toNat ((t.slot i).length - 1)) else v) := rfl
  rw [hraise]
  dsimp only
  generalize (if (t.slot i).flags.truncated then
    t.raiseLane n .frameTruncated (some i) (placed (t.slot i).seq.toNat 0) else t) = u at *
  have htb1 : u.tb = s.tb := (hframe1 .tb (by decide)).trans htb
  have hsecond := raises_if (n := n) (kind := .frameCut) (slot := some i) (detail := placed (t.slot i).seq.toNat 0)
    (k := (s.slot i).seq.toNat) hfirst (t.slot i).flags.cut htb1 (by rw [placed_zero_eq, hseq])
  have hframe2 := raiseIf_frame u (t.slot i).flags.cut n .frameCut (some i) (placed (t.slot i).seq.toNat 0)
  generalize (if (t.slot i).flags.cut then
    u.raiseLane n .frameCut (some i) (placed (t.slot i).seq.toNat 0) else u) = v at *
  have hcfg' : (v.lane n).cfg = (s.lane n).cfg := by rw [frame_lane hframe2, frame_lane hframe1, hcfg]
  have hthird := raises_if (n := n) (kind := .framePublished) (slot := some i)
    (detail := halves (t.slot i).seq.toNat ((t.slot i).length - 1))
    (k := (s.slot i).seq.toNat + 65536 * (((s.slot i).length - 1) % 65536)) hsecond (v.lane n).cfg.frameEvents
    ((hframe2 .tb (by decide)).trans htb1) (by rw [hseq, hlen]; exact halves_mod _ (s.slot i).seq.isLt)
  rw [hcfg', hflags] at hthird
  rw [hcfg', publishEvents, ← List.append_assoc, ← List.append_assoc]
  exact hthird

theorem updLane_updLane (s : State) (n : LaneId) (f g : Lane → Lane) :
    (s.updLane n f).updLane n g = s.updLane n fun l => g (f l) := by
  change (s.updLane n f).setLane n (g ((s.updLane n f).lane n)) = s.setLane n (g (f (s.lane n)))
  rw [lane_updLane_same]
  simp only [State.updLane, State.setLane, Vector.set_set]

/-- The bound lane is offered what is ready (R104). -/
def offerReady (v : State) (n : LaneId) : State :=
  match v.boundTo n with
  | some m => v.nudge m
  | none => v

/-- The take that an offer causes, behind the requests that stand. -/
def takeOffered (s : State) (n : LaneId) (asked caused : List Req) : List Req :=
  match s.boundTo n with
  | none => []
  | some m => if idleFreeRunner (s.lane m) ∧ .take m ∉ asked ∧ .take m ∉ caused then [.take m] else []

theorem servePublish_eq {t : State} {n : LaneId} {i : SlotId} (hc : (t.lane n).cur = some i) :
    t.servePublish n = (
      let u := ((t.updSlot i fun r => r.published (if (t.lane n).cfg.inspect then (t.lane n).inspecting else none)).updLane n
        fun l => publishedLane l i (t.slot i).flags).raisePublished n i
      if (t.lane n).st = .stopping then offerReady (u.stopAtBoundary n) n else (offerReady u n).frameLogic .causing n) := by
  simp only [State.servePublish, hc, State.count, updLane_updLane, offerReady, beq_iff_eq]
  rw [slot_updSlot_same]
  by_cases hst : (t.lane n).st = .stopping
  · simp only [hst, if_true] <;> rfl
  · simp only [if_neg hst] <;> rfl

theorem boundTo_congr {s t : State} (h : ∀ m, (t.lane m).cfg = (s.lane m).cfg ∧ (t.lane m).binding = (s.lane m).binding)
    (n : LaneId) : t.boundTo n = s.boundTo n := by
  simp only [State.boundTo, fun m => (h m).1, fun m => (h m).2]

theorem boundTo_egress {s : State} {n m : LaneId} (h : s.boundTo n = some m) : (s.lane m).cfg.dir = .egress := by
  have := List.find?_some h
  simp only [Bool.and_eq_true, beq_iff_eq] at this
  exact this.1

/-- What the offer of a ready slot leaves. -/
theorem offerReady_spec {s v : State} {n : LaneId} (hb : v.boundTo n = s.boundTo n) (hdir : (s.lane n).cfg.dir = .ingress)
    (hv : otherLanes n s v) :
    (offerReady v n).lane n = v.lane n ∧
      (∀ m, m ≠ n → (offerReady v n).lane m = if s.boundTo n = some m then takesAgain (s.lane m) else s.lane m) ∧
      (∀ m, s.boundTo n = some m → idleFreeRunner (s.lane m) = true → (offerReady v n).outstanding (.take m) = true) ∧
      (offerReady v n).moment = { v.moment with
        caused := v.moment.caused ++ takeOffered s n v.moment.asked v.moment.caused } ∧
      unchangedBut [.lanes, .moment] v (offerReady v n) := by
  unfold offerReady takeOffered
  rw [hb]
  cases hm : s.boundTo n with
  | none =>
    refine ⟨rfl, fun m hne => ?_, nofun, by simp, frame_refl _ v⟩
    rw [if_neg nofun]; exact hv m hne
  | some m =>
    have hne : m ≠ n := by
      rintro rfl
      exact absurd ((boundTo_egress hm).symm.trans hdir) (by decide)
    have hlane := hv m hne
    refine ⟨?_, fun k hk => ?_, fun k hk hidle => ?_, ?_, nudge_frame v m⟩
    · rw [nudge_lane, if_neg hne.symm]
    · rw [nudge_lane]
      by_cases hkm : k = m
      · subst hkm; rw [if_pos rfl, if_pos rfl, hlane]
      · rw [if_neg hkm, if_neg fun e => hkm (Option.some.inj e).symm, hv k hk]
    · cases hk
      rw [nudge_outstanding, hlane, hidle]; simp
    · show (v.nudge m).moment = _
      rw [nudge_eq, hlane]
      dsimp only
      by_cases hidle : idleFreeRunner (s.lane m) = true
      · have hout : (v.updLane m fun l => { l with sub := .taking }).outstanding (.take m) = v.outstanding (.take m) :=
          frame_outstanding (updLane_frame v m _) _
        rw [if_pos hidle, State.causeTake]
        by_cases hold : v.outstanding (.take m) = true
        · have hstands := (outstanding_iff v (.take m)).mp hold
          rw [cause_old (hout.trans hold), if_neg]
          · simp only [List.append_nil]; rfl
          · rintro ⟨_, ha, hc⟩; exact hstands.elim ha hc
        · rw [Bool.not_eq_true] at hold
          have hnew : Req.take m ∉ v.moment.asked ∧ Req.take m ∉ v.moment.caused := by
            rw [← not_or, ← outstanding_iff, hold]; decide
          rw [cause_new (hout.trans hold), if_pos ⟨hidle, hnew⟩]; rfl
      · rw [if_neg hidle, if_neg fun h => hidle h.1, List.append_nil]

/-- The state of a publish before its lane stops or goes on: the slot READY, the frame counted and its events raised. -/
theorem publishStarted_spec {s t : State} {n : LaneId} {i : SlotId} (ht : unchangedBut [.moment] s t) :
    let l := s.lane n
    let u := ((t.updSlot i fun r => r.published (if (t.lane n).cfg.inspect then (t.lane n).inspecting else none)).updLane n
      fun l => publishedLane l i (t.slot i).flags).raisePublished n i
    u.slot i = (s.slot i).published (if l.cfg.inspect then l.inspecting else none) ∧ otherSlots i s u ∧
      u.lane n = publishedLane l i (s.slot i).flags ∧ otherLanes n s u ∧ raises (publishEvents s n i) s u ∧
      u.moment = t.moment ∧ unchangedBut [.slots, .lanes, .log, .irq] t u := by
  intro l u
  have hu : u = ((t.updSlot i fun r => r.published
    (if (t.lane n).cfg.inspect then (t.lane n).inspecting else none)).updLane n
      fun l => publishedLane l i (t.slot i).flags).raisePublished n i := rfl
  clear_value u
  have hslot := updSlot_frame t i fun r => r.published (if (t.lane n).cfg.inspect then (t.lane n).inspecting else none)
  have hslots (j : SlotId) : (t.updSlot i fun r => r.published
      (if (t.lane n).cfg.inspect then (t.lane n).inspecting else none)).slot j =
      if j = i then (s.slot i).published (if l.cfg.inspect then l.inspecting else none) else s.slot j := by
    rw [slot_updSlot, frame_slot ht, frame_slot ht, frame_lane ht]
  generalize t.updSlot i (fun r => r.published (if (t.lane n).cfg.inspect then (t.lane n).inspecting else none)) = v at *
  have hlane := updLane_frame v n fun l => publishedLane l i (t.slot i).flags
  have hlanes (m : LaneId) : (v.updLane n fun l => publishedLane l i (t.slot i).flags).lane m =
      if m = n then publishedLane l i (s.slot i).flags else s.lane m := by
    rw [lane_updLane, frame_lane hslot, frame_lane hslot, frame_lane ht, frame_lane ht, frame_slot ht]
  have hvslots (j : SlotId) : (v.updLane n fun l => publishedLane l i (t.slot i).flags).slot j = v.slot j := frame_slot hlane j
  have hbase := frame_comp (hs := [.moment, .slots, .lanes]) (frame_comp (hs := [.moment, .slots]) ht hslot) hlane
  have hboth := frame_comp (hs := [.slots, .lanes]) hslot hlane
  generalize v.updLane n (fun l => publishedLane l i (t.slot i).flags) = w at *
  have hraise := raisePublished_frame w n i
  have hwi : w.slot i = (s.slot i).published (if l.cfg.inspect then l.inspecting else none) := by
    rw [hvslots, hslots, if_pos rfl]
  have hevents := raisePublished_raises (i := i) (n := n) (raises_start hbase) (hbase .tb (by decide)) (by rw [hwi]; rfl)
    (by rw [hwi]; rfl) (by rw [hwi]; rfl) (by rw [hlanes, if_pos rfl]; rfl)
  rw [List.nil_append] at hevents
  refine ⟨?_, fun j hj => ?_, ?_, fun m hm => ?_, hu ▸ hevents, ?_, hu ▸ frame_comp hboth hraise⟩
  · rw [hu, frame_slot hraise, hwi]
  · rw [hu, frame_slot hraise, hvslots, hslots, if_neg hj]
  · rw [hu, frame_lane hraise, hlanes, if_pos rfl]
  · rw [hu, frame_lane hraise, hlanes, if_neg hm]
  · rw [hu]; exact (hraise .moment (by decide)).trans (hboth .moment (by decide))

/-- What a publish leaves. -/
theorem publish_spec {s : State} {n : LaneId} {i : SlotId} (h : s.nextDue = some (.req (.publish n)))
    (hc : (s.lane n).cur = some i) (hdir : (s.lane n).cfg.dir = .ingress) {ready : Slot}
    (hready : (s.slot i).published (if (s.lane n).cfg.inspect then (s.lane n).inspecting else none) = ready) :
    let l := s.lane n
    let after := publishedLane l i (s.slot i).flags
    ∃ r, exec (.publish n) s = .next r.arbitrate ∧ r.slot i = ready ∧ otherSlots i s r ∧ (r.lane n).cur = none ∧
      (r.lane n).readyQ = l.readyQ ++ [i] ∧ (r.lane n).counters.published = after.counters.published ∧
      (∀ m, m ≠ n → r.lane m = if s.boundTo n = some m then takesAgain (s.lane m) else s.lane m) ∧
      (∀ m, s.boundTo n = some m → idleFreeRunner (s.lane m) = true → r.outstanding (.take m) = true) ∧
      (l.fifo = [] → l.st ≠ .stopping → r.lane n = after ∧ raises (publishEvents s n i) s r) ∧
      (l.st = .stopping →
        r.lane n = stoppedForm after ∧ raises (publishEvents s n i ++ [laneEvent s n .laneStopped none 0]) s r) ∧
      (l.st ≠ .stopping →
        ∃ t, t.slot i = ready ∧ otherSlots i s t ∧ t.lane n = after ∧
          (∀ m, m ≠ n → t.lane m = if s.boundTo n = some m then takesAgain (s.lane m) else s.lane m) ∧
          raises (publishEvents s n i) s t ∧ t.moment.asked = (requestsLeft s).1 ∧
          t.moment.caused = (requestsLeft s).2 ++ takeOffered s n (requestsLeft s).1 (requestsLeft s).2 ∧
          unchangedBut [.slots, .lanes, .log, .irq, .moment] s t ∧ goesOn .causing n t r) ∧
      unchangedBut [.slots, .lanes, .log, .irq, .moment] s r := by
  intro l after
  have hexec : exec (.publish n) s = .next ((begun s).servePublish n).arbitrate :=
    congrArg Host.Outcome.next (serviceRow_req h)
  have hmoment := begun_moment h
  have hbegun := begun_frame s
  rw [servePublish_eq (t := begun s) hc] at hexec
  obtain ⟨huslot, huother, hulane, hulanes, huraises, humoment, huframe⟩ := publishStarted_spec (n := n) (i := i) hbegun
  dsimp only at hexec huslot huother hulane hulanes huraises humoment huframe
  rw [hready] at huslot
  have hst : ((begun s).lane n).st = l.st := rfl
  rw [hst] at hexec
  generalize begun s = t0 at *
  generalize ((t0.updSlot i fun r => r.published (if (t0.lane n).cfg.inspect then (t0.lane n).inspecting else none)).updLane n
    fun l => publishedLane l i (t0.slot i).flags).raisePublished n i = u at *
  have hsu := frame_comp (hs := [.slots, .lanes, .log, .irq, .moment]) hbegun huframe
  have hbound {v : State} (hv : otherLanes n s v) (hvcfg : (v.lane n).cfg = l.cfg) (hvbind : (v.lane n).binding = l.binding) :
      v.boundTo n = s.boundTo n := by
    refine boundTo_congr (fun m => ?_) n
    by_cases hm : m = n
    · subst hm; exact ⟨hvcfg, hvbind⟩
    · rw [hv m hm]; exact ⟨rfl, rfl⟩
  have hfree := hbound hulanes (by rw [hulane]; rfl) (by rw [hulane]; rfl)
  by_cases hstop : l.st = .stopping
  · rw [if_pos hstop] at hexec
    obtain ⟨hslane, hsother, htake, hallocate, hsraises, hsframe⟩ := stopAtBoundary_spec u n
    have hmono : raises (publishEvents s n i ++ [laneEvent s n .laneStopped none 0]) s (u.stopAtBoundary n) :=
      raises_raiseLane (raises_frame huraises (enterStopped_frame u n))
        ((enterStopped_frame u n .tb (by decide)).trans (hsu .tb (by decide))) rfl
    have hvother : otherLanes n s (u.stopAtBoundary n) := fun m hm => (hsother m hm).trans (hulanes m hm)
    rw [hulane] at hslane
    generalize u.stopAtBoundary n = v at *
    obtain ⟨holane, holanes, hotakes, homoment, hoframe⟩ :=
      offerReady_spec (hbound hvother (by rw [hslane]; rfl) (by rw [hslane]; rfl)) hdir hvother
    have hframe := frame_comp (hs := [.slots, .lanes, .log, .irq, .moment])
      (frame_comp (hs := [.slots, .lanes, .log, .irq, .moment]) hsu hsframe) hoframe
    refine ⟨_, hexec, ?_, fun j hj => ?_, ?_, ?_, ?_, holanes, hotakes, fun _ hno => absurd hstop hno,
      fun _ => ⟨holane.trans hslane, raises_frame hmono hoframe⟩, fun hno => absurd hstop hno, hframe⟩
    · rw [frame_slot hoframe, frame_slot hsframe, huslot]
    · rw [frame_slot hoframe, frame_slot hsframe, huother j hj]
    · rw [holane, hslane]; rfl
    · rw [holane, hslane]; rfl
    · rw [holane, hslane]; rfl
  · rw [if_neg hstop] at hexec
    obtain ⟨holane, holanes, hotakes, homoment, hoframe⟩ := offerReady_spec hfree hdir hulanes
    rw [humoment, hmoment] at homoment
    generalize offerReady u n = w at *
    have hkept := frameLogic_kept w .causing n
    have hwn : w.lane n = after := holane.trans hulane
    have hcur : (w.lane n).cur = none := by rw [hwn]; rfl
    have hsw := frame_comp (hs := [.slots, .lanes, .log, .irq, .moment]) hsu hoframe
    have hwraises := raises_frame huraises hoframe
    have hwslot (j : SlotId) : (w.frameLogic .causing n).slot j = w.slot j := hkept.slots j (by rw [hcur]; nofun)
    refine ⟨_, hexec, ?_, fun j hj => ?_, hkept.cur.trans hcur, ?_, ?_, fun m hm => (hkept.others m hm).trans (holanes m hm),
      fun m hm hidle => ?_, fun hf _ => ?_, fun hyes => absurd hyes hstop, fun _ => ?_, frame_trans hsw hkept.frame⟩
    · rw [hwslot, frame_slot hoframe, huslot]
    · rw [hwslot, frame_slot hoframe, huother j hj]
    · rw [hkept.readyQ, hwn]; rfl
    · rw [hkept.published, hwn]
    · have hne : m ≠ n := by
        rintro rfl
        exact absurd ((boundTo_egress hm).symm.trans hdir) (by decide)
      exact hkept.requests _ (fun e => hne (Req.take.inj e)) nofun (hotakes m hm hidle)
    · rw [frameLogic_none (handleHead_none _ (.inr (by rw [hwn]; exact hf)))]
      exact ⟨hwn, hwraises⟩
    · refine ⟨w, ?_, fun j hj => ?_, hwn, holanes, hwraises, by rw [homoment], by rw [homoment], hsw, goesOn_self .causing n w⟩
      · rw [frame_slot hoframe, huslot]
      · rw [frame_slot hoframe, huother j hj]

/-- Settles O43: a publish, and the words behind it. -/
theorem publishMakesTheSlotReady : Obligations.PublishMakesTheSlotReady := by
  intro s n i h hc hdir
  exact publish_spec h hc hdir (published_eq (s.lane n) (s.slot i))

/-! ## Allocate (R61, R85, R86) -/

/-- The slot as a frame of the lane begins to fill it. -/
def filledSlot (l : Lane) (r : Slot) : Slot :=
  { r with
    st := .filling, length := 0, seq := l.frameSeq, repeats := 0, stamp := l.frameStamp, flags := SlotFlags.clear
    stats := none }

/-- The lane as it begins to receive a frame into a slot, its opening entry acted on. -/
def receivingLane (l : Lane) (i : SlotId) (head : FifoEntry) (more : List FifoEntry) : Lane :=
  { l with
    cur := some i, sub := .receiving, fifo := { head with acted := true } :: more
    inspecting := if l.cfg.inspect then some ⟨0xFFFFFFFF, 0, 0, false⟩ else none }

theorem startReceiving_spec {t : State} {n : LaneId} {head : FifoEntry} {more : List FifoEntry} (i : SlotId)
    (hf : (t.lane n).fifo = head :: more) :
    (∀ j, (t.startReceiving n i).slot j = if j = i then filledSlot (t.lane n) (t.slot i) else t.slot j) ∧
      (∀ m, (t.startReceiving n i).lane m = if m = n then receivingLane (t.lane n) i head more else t.lane m) ∧
      unchangedBut [.slots, .lanes] t (t.startReceiving n i) := by
  unfold State.startReceiving
  dsimp only
  have hfill := updSlot_frame t i fun r => { r.cleared with
    st := .filling, seq := (t.lane n).frameSeq, stamp := (t.lane n).frameStamp }
  have hslots (j : SlotId) : (t.updSlot i fun r => { r.cleared with
      st := .filling, seq := (t.lane n).frameSeq, stamp := (t.lane n).frameStamp }).slot j =
      if j = i then filledSlot (t.lane n) (t.slot i) else t.slot j := slot_updSlot t i j _
  generalize (t.updSlot i fun r => { r.cleared with
    st := .filling, seq := (t.lane n).frameSeq, stamp := (t.lane n).frameStamp }) = u at *
  have hplace := updLane_frame u n fun l => { l with
    cur := some i, sub := .receiving, inspecting := if l.cfg.inspect then some RunningStats.start else none }
  have hlanes (m : LaneId) : (u.updLane n fun l => { l with
      cur := some i, sub := .receiving
      inspecting := if l.cfg.inspect then some RunningStats.start else none }).lane m =
      if m = n then { t.lane n with
        cur := some i, sub := .receiving
        inspecting := if (t.lane n).cfg.inspect then some RunningStats.start else none } else t.lane m := by
    rw [lane_updLane, frame_lane hfill, frame_lane hfill]
  generalize (u.updLane n fun l => { l with
    cur := some i, sub := .receiving
    inspecting := if l.cfg.inspect then some RunningStats.start else none }) = v at *
  have hvf : (v.lane n).fifo = head :: more := by rw [hlanes, if_pos rfl]; exact hf
  have hact := updHead_frame v n fun e => { e with acted := true }
  refine ⟨fun j => ?_, fun m => ?_, frame_comp (hs := [.slots, .lanes]) (frame_comp (hs := [.slots, .lanes]) hfill hplace) hact⟩
  · rw [frame_slot hact, frame_slot hplace, hslots]
  · rw [updHead_lane hvf, hlanes, hlanes, if_pos rfl]
    by_cases hm : m = n
    · rw [if_pos hm, if_pos hm]; rfl
    · rw [if_neg hm, if_neg hm, if_neg hm]

/-- A lane that has begun to receive waits for its grant. -/
theorem frameLogic_receiving {u : State} {n : LaneId} {l : Lane} {i : SlotId} {head : FifoEntry} {more : List FifoEntry}
    (v : Voice) (hl : u.lane n = receivingLane l i head more) (hlen : (u.slot i).length < (u.slot i).capacity) :
    u.frameLogic v n = u :=
  frameLogic_none (handleHead_waits v (by rw [hl]; rfl) (by rw [hl]; rfl) (by rw [hl]; rfl)
    (fun hacted => absurd hacted.2 Bool.noConfusion) hlen)

theorem allocation_free {s : State} {n : LaneId} {i : SlotId} {rest : List SlotId} (h : (s.lane n).freeList = i :: rest) :
    s.allocation n = .fromFree i rest := by
  simp only [State.allocation, h]

theorem allocation_reused {s : State} {n : LaneId} {i : SlotId} {rest : List SlotId} (hfree : (s.lane n).freeList = [])
    (hpol : (s.lane n).cfg.inPolicy = .overwriteOldest) (hq : (s.lane n).readyQ = i :: rest)
    (hok : (s.slot i).flags.eccBad = false) : s.allocation n = .reused i rest := by
  simp only [State.allocation, hfree, hpol, hq, hok, if_true, Bool.false_eq_true, if_false]

theorem allocation_none {s : State} {n : LaneId} (hfree : (s.lane n).freeList = [])
    (hno : ¬ ((s.lane n).cfg.inPolicy = .overwriteOldest ∧
      ∃ i rest, (s.lane n).readyQ = i :: rest ∧ (s.slot i).flags.eccBad = false)) : s.allocation n = .none := by
  simp only [State.allocation, hfree]
  by_cases hpol : (s.lane n).cfg.inPolicy = .overwriteOldest
  · rw [if_pos hpol]
    cases hq : (s.lane n).readyQ with
    | nil => rfl
    | cons i rest =>
      cases hbad : (s.slot i).flags.eccBad with
      | true => exact if_pos hbad
      | false => exact absurd ⟨hpol, i, rest, hq, hbad⟩ hno
  · rw [if_neg hpol]

/-- An allocate from a list of the lane, `f` taking the slot out of it. -/
theorem allocateInto_spec {s t : State} {n : LaneId} {head : FifoEntry} {more : List FifoEntry} {f : Lane → Lane}
    (i : SlotId) (ht : unchangedBut [.moment] s t) (hfifo : (f (s.lane n)).fifo = head :: more)
    (hseq : (f (s.lane n)).frameSeq = (s.lane n).frameSeq) (hstamp : (f (s.lane n)).frameStamp = (s.lane n).frameStamp) :
    let r := (t.updLane n f).startReceiving n i
    r.slot i = filledSlot (s.lane n) (s.slot i) ∧ otherSlots i s r ∧
      r.lane n = receivingLane (f (s.lane n)) i head more ∧ otherLanes n s r ∧
      unchangedBut [.slots, .lanes, .moment] s r := by
  intro r
  have htake := updLane_frame t n f
  have hlanes (m : LaneId) : (t.updLane n f).lane m = if m = n then f (s.lane n) else s.lane m := by
    rw [lane_updLane, frame_lane ht, frame_lane ht]
  obtain ⟨hslots, hrlanes, hframe⟩ := startReceiving_spec (t := t.updLane n f) (n := n) i
    (by rw [hlanes, if_pos rfl]; exact hfifo)
  rw [hlanes, if_pos rfl] at hslots hrlanes
  have hbase (j : SlotId) : (t.updLane n f).slot j = s.slot j := (frame_slot htake j).trans (frame_slot ht j)
  refine ⟨?_, fun j hj => ?_, ?_, fun m hm => ?_,
    frame_comp (hs := [.slots, .lanes, .moment]) (frame_comp (hs := [.lanes, .moment]) ht htake) hframe⟩
  · rw [hslots, if_pos rfl, hbase, filledSlot, filledSlot, hseq, hstamp]
  · rw [hslots, if_neg hj, hbase]
  · rw [hrlanes, if_pos rfl]
  · rw [hrlanes, if_neg hm, hlanes, if_neg hm]

/-- The lane of an allocate that found no slot, its frame dropped. -/
theorem dropFrame_spec {s t : State} {n : LaneId} {es : List Event} {k : Nat} (h : raises es s t) (htb : t.tb = s.tb)
    (hseq : (t.lane n).frameSeq = (s.lane n).frameSeq) (hk : k < 65536) :
    raises (es ++ [laneEvent s n .frameDropped none ((s.lane n).frameSeq.toNat + 65536 * k)]) s (t.dropFrame n none k) :=
  raises_raiseLane (raises_frame h (count_frame t n _)) ((count_frame t n _ .tb (by decide)).trans htb)
    (by rw [hseq]; exact halves_eq (s.lane n).frameSeq.isLt hk)

/-- Where no slot of the lane is in hand, the frame logic touches no slot record. -/
theorem frameLogic_slots {t : State} {v : Voice} {n : LaneId} (h : (t.lane n).cur = none) :
    unchangedBut [.lanes, .log, .irq, .moment] t (t.frameLogic v n) := by
  have hkept := frameLogic_kept t v n
  intro f hf
  by_cases hs : f = .slots
  · subst hs
    exact Vector.ext fun j hj => hkept.slots ⟨j, hj⟩ (by rw [h]; nofun)
  · exact hkept.frame f (by
      simp only [List.mem_cons, List.not_mem_nil, or_false, not_or] at hf ⊢
      exact ⟨hs, hf⟩)

/-- STARVED, reported once for a stall. -/
theorem stalled_spec {s t : State} {n : LaneId} {es : List Event} (h : raises es s t) (htb : t.tb = s.tb) (first : Bool)
    (k : Nat) :
    raises (es ++ if first then [laneEvent s n .slotStarved none k] else []) s
      (if first then t.raiseLane n .slotStarved none (placed k 0) else t) :=
  raises_if h first htb (placed_zero_eq k)

theorem exec_allocate {s : State} {n : LaneId} (h : s.nextDue = some (.req (.allocate n))) :
    exec (.allocate n) s = .next ((begun s).serveAllocate n).arbitrate :=
  congrArg Host.Outcome.next (serviceRow_req h)

/-- An allocate that finds no slot under STALL. -/
theorem serveAllocate_stalls {t : State} {n : LaneId} (hnone : t.allocation n = .none)
    (hpol : (t.lane n).cfg.inPolicy = .stall) :
    t.serveAllocate n = (
      let u := t.updLane n fun l => { l with sub := .stalled }
      let u := if (t.lane n).st = .stopping then u.dropFrame n none 3 else u
      let u := if (t.lane n).sub != .stalled then u.raiseLane n .slotStarved none (placed (t.lane n).frameSeq.toNat 0) else u
      if (t.lane n).st = .stopping then u.stopAtBoundary n else u) := by
  simp only [State.serveAllocate, hnone, hpol, if_true]

/-- An allocate that finds no slot and drops the frame. -/
theorem serveAllocate_drops {t : State} {n : LaneId} (hnone : t.allocation n = .none)
    (hpol : (t.lane n).cfg.inPolicy ≠ .stall) :
    t.serveAllocate n =
      (((t.dropHead n).updLane n fun l => { l with sub := .discarding }).dropFrame n none 1).frameLogic .causing n := by
  simp only [State.serveAllocate, hnone, if_neg hpol]

/-- Settles O46: what an allocate finds, and what the lane does with it. -/
theorem allocateFillsStallsOrDrops : Obligations.AllocateFillsStallsOrDrops := by
  intro s n head more h hdir hfifo l filling receiving reuse
  have hexec := exec_allocate h
  have hbegun := begun_frame s
  have hmoment := begun_moment h
  have hlane (m : LaneId) : (begun s).lane m = s.lane m := rfl
  have hslot (j : SlotId) : (begun s).slot j = s.slot j := rfl
  generalize begun s = t at *
  refine ⟨fun i rest hfree hcap => ?free, fun i rest hfree hpol hq hok hcap => ?reuse, fun hfree hpol hrun => ?stall,
    fun hfree hpol hstop => ?stop, fun hfree hpol hno => ?drop⟩
  case free =>
    obtain ⟨hrslot, hother, hrlane, hothers, hframe⟩ :=
      allocateInto_spec (f := fun l => { l with freeList := rest }) i hbegun hfifo rfl rfl
    have hserve : t.serveAllocate n =
        ((t.updLane n fun l => { l with freeList := rest }).startReceiving n i).frameLogic .causing n := by
      simp only [State.serveAllocate, allocation_free (s := t) (by rw [hlane]; exact hfree)]
    rw [hserve, frameLogic_receiving _ hrlane (by rw [hrslot]; exact hcap)] at hexec
    exact ⟨_, hexec, hrslot, hother, hrlane, hothers, hframe⟩
  case reuse =>
    obtain ⟨hrslot, hother, hrlane, hothers, hframe⟩ :=
      allocateInto_spec (f := fun l => { l with readyQ := rest }) i hbegun hfifo rfl rfl
    have hserve : t.serveAllocate n =
        ((((t.updLane n fun l => { l with readyQ := rest }).startReceiving n i).count n
          fun c => { c with overwritten := satInc c.overwritten }).raiseLane n .frameOverwritten (some i)
            (halves (s.slot i).seq.toNat (s.lane n).frameSeq.toNat)).frameLogic .causing n := by
      simp only [State.serveAllocate, allocation_reused (s := t) (n := n) (by rw [hlane]; exact hfree)
        (by rw [hlane]; exact hpol) (by rw [hlane]; exact hq) (by rw [hslot]; exact hok), hslot, hlane]
    generalize (t.updLane n fun l => { l with readyQ := rest }).startReceiving n i = u at *
    have hcount := count_frame u n fun c => { c with overwritten := satInc c.overwritten }
    have hclanes (m : LaneId) : (u.count n fun c => { c with overwritten := satInc c.overwritten }).lane m =
        if m = n then receivingLane { l with
          readyQ := rest
          counters := { l.counters with overwritten := plus l.counters.overwritten 1 } } i head more else s.lane m := by
      rw [State.count, lane_updLane, hrlane]
      by_cases hm : m = n
      · rw [if_pos hm, if_pos hm]; rfl
      · rw [if_neg hm, if_neg hm, hothers m hm]
    generalize u.count n (fun c => { c with overwritten := satInc c.overwritten }) = v at *
    have hall := frame_comp (hs := [.slots, .lanes, .moment]) hframe hcount
    have hraise := raiseLane_frame v n .frameOverwritten (some i) (halves (s.slot i).seq.toNat (s.lane n).frameSeq.toNat)
    have hevents := raises_raiseLane (n := n) (kind := .frameOverwritten) (slot := some i) (raises_start hall)
      (hall .tb (by decide)) (halves_eq (s.slot i).seq.isLt (s.lane n).frameSeq.isLt)
    rw [List.nil_append] at hevents
    generalize v.raiseLane n .frameOverwritten (some i) (halves (s.slot i).seq.toNat (s.lane n).frameSeq.toNat) = w at *
    have hwslot (j : SlotId) : w.slot j = u.slot j := (frame_slot hraise j).trans (frame_slot hcount j)
    have hwlane (m : LaneId) := (frame_lane hraise m).trans (hclanes m)
    rw [hserve, frameLogic_receiving _ ((hwlane n).trans (if_pos rfl)) (by rw [hwslot, hrslot]; exact hcap)] at hexec
    exact ⟨w, hexec, (hwslot i).trans hrslot, fun j hj => (hwslot j).trans (hother j hj), (hwlane n).trans (if_pos rfl),
      fun m hm => (hwlane m).trans (if_neg hm), hevents, frame_comp hall hraise⟩
  case stall =>
    have hnone := allocation_none (s := t) (n := n) (by rw [hlane]; exact hfree)
      (by rw [hlane]; exact fun hover => absurd (hpol.symm.trans hover.1) (by decide))
    rw [serveAllocate_stalls hnone (by rw [hlane]; exact hpol)] at hexec
    simp only [hlane] at hexec
    rw [if_neg (show ¬ (s.lane n).st = .stopping from hrun), if_neg (show ¬ (s.lane n).st = .stopping from hrun)] at hexec
    have hsub := updLane_frame t n fun l => { l with sub := .stalled }
    have hlanes (m : LaneId) : (t.updLane n fun l => { l with sub := .stalled }).lane m =
        if m = n then { l with sub := .stalled } else s.lane m := by rw [lane_updLane, hlane, hlane]
    generalize (t.updLane n fun l => { l with sub := .stalled }) = u at *
    have hall := frame_comp (hs := [.lanes, .moment]) hbegun hsub
    have hraise := raiseIf_frame u (l.sub != .stalled) n .slotStarved none (placed l.frameSeq.toNat 0)
    have hevents := stalled_spec (n := n) (raises_start hall) (hall .tb (by decide)) (l.sub != .stalled) l.frameSeq.toNat
    refine ⟨_, hexec, ?_, fun m hm => ?_, ?_, frame_comp hall hraise⟩
    · rw [frame_lane hraise, hlanes, if_pos rfl]
    · rw [frame_lane hraise, hlanes, if_neg hm]
    · simpa using hevents
  case stop =>
    have hnone := allocation_none (s := t) (n := n) (by rw [hlane]; exact hfree)
      (by rw [hlane]; exact fun hover => absurd (hpol.symm.trans hover.1) (by decide))
    rw [serveAllocate_stalls hnone (by rw [hlane]; exact hpol)] at hexec
    simp only [hlane] at hexec
    rw [if_pos (show (s.lane n).st = .stopping from hstop), if_pos (show (s.lane n).st = .stopping from hstop)] at hexec
    have hsub := updLane_frame t n fun l => { l with sub := .stalled }
    have hlanes (m : LaneId) : (t.updLane n fun l => { l with sub := .stalled }).lane m =
        if m = n then { l with sub := .stalled } else s.lane m := by rw [lane_updLane, hlane, hlane]
    generalize (t.updLane n fun l => { l with sub := .stalled }) = u at *
    have hall := frame_comp (hs := [.lanes, .moment]) hbegun hsub
    have hdropped := dropFrame_spec (n := n) (k := 3) (raises_start hall) (hall .tb (by decide))
      (by rw [hlanes, if_pos rfl]) (by decide)
    have hdlanes (m : LaneId) := dropFrame_lane u n m none 3
    have hdrop := frame_comp (hs := [.lanes, .moment, .log, .irq]) hall (dropFrame_frame u n none 3)
    generalize u.dropFrame n none 3 = v at *
    have hstarved := stalled_spec (n := n) hdropped (hdrop .tb (by decide)) (l.sub != .stalled) l.frameSeq.toNat
    have hraise := raiseIf_frame v (l.sub != .stalled) n .slotStarved none (placed l.frameSeq.toNat 0)
    have hrlanes (m : LaneId) := frame_lane hraise m
    have hsofar := frame_comp (hs := [.lanes, .moment, .log, .irq]) hdrop hraise
    generalize (if l.sub != .stalled then v.raiseLane n .slotStarved none (placed l.frameSeq.toNat 0) else v) = w at *
    obtain ⟨hstopped, hothers, _, hallocate, _, hframe⟩ := stopAtBoundary_spec w n
    have hevents := raises_raiseLane (n := n) (kind := .laneStopped) (slot := none) (detail := 0) (k := 0)
      (raises_frame hstarved (enterStopped_frame w n))
      ((enterStopped_frame w n .tb (by decide)).trans (hsofar .tb (by decide))) rfl
    refine ⟨_, hexec, ?_, fun m hm => ?_, hallocate, ?_, frame_comp hsofar hframe⟩
    · rw [hstopped, hrlanes, hdlanes, if_pos rfl, hlanes, if_pos rfl]; rfl
    · rw [hothers m hm, hrlanes, hdlanes, if_neg hm, hlanes, if_neg hm]
    · show raises (laneEvent s n .frameDropped none ((s.lane n).frameSeq.toNat + 65536 * 3) :: _ ++ _) s
        ((w.enterStopped n).raiseLane n .laneStopped none 0)
      simpa using hevents
  case drop =>
    have hnone := allocation_none (s := t) (n := n) (by rw [hlane]; exact hfree) (by
      rw [hlane]
      rintro ⟨hover, i, rest, hq, hok⟩
      exact hno ⟨hfree, hover, i, rest, hq, by rw [← hslot]; exact hok⟩)
    rw [serveAllocate_drops hnone (by rw [hlane]; exact hpol)] at hexec
    have hcut := frame_comp (hs := [.lanes]) (dropHead_frame t n)
      (updLane_frame (t.dropHead n) n fun l => { l with sub := .discarding })
    have hlanes (m : LaneId) : ((t.dropHead n).updLane n fun l => { l with sub := .discarding }).lane m =
        if m = n then { l with sub := .discarding, fifo := more } else s.lane m := by
      rw [lane_updLane, dropHead_lane, dropHead_lane, if_pos rfl, hlane, hlane, hfifo]
      by_cases hm : m = n
      · rw [if_pos hm, if_pos hm]; rfl
      · rw [if_neg hm, if_neg hm, if_neg hm]
    generalize (t.dropHead n).updLane n (fun l => { l with sub := .discarding }) = u at *
    have hall := frame_comp (hs := [.lanes, .moment]) hbegun hcut
    have hdropped := dropFrame_spec (n := n) (k := 1) (raises_start hall) (hall .tb (by decide))
      (by rw [hlanes, if_pos rfl]) (by decide)
    rw [List.nil_append, Nat.mul_one] at hdropped
    have hdlanes (m : LaneId) := dropFrame_lane u n m none 1
    have hdrop := dropFrame_frame u n none 1
    have hlogic := frameLogic_kept (u.dropFrame n none 1) .causing n
    generalize u.dropFrame n none 1 = v at *
    have hvmoment : v.moment = t.moment := (hdrop .moment (by decide)).trans (hcut .moment (by decide))
    have hsofar := frame_comp (hs := [.lanes, .log, .irq, .moment]) hall hdrop
    have hvn : v.lane n = withDrop { l with sub := .discarding, fifo := more } := by
      rw [hdlanes, if_pos rfl, hlanes, if_pos rfl]
    have hvothers : otherLanes n s v := fun m hm => by rw [hdlanes, if_neg hm, hlanes, if_neg hm]
    refine ⟨_, hexec, ?_, ?_, ?_, fun m hm => (hlogic.others m hm).trans (hvothers m hm), fun hmore => ?_,
      ⟨v, hvn, hvothers, hdropped, by rw [hvmoment, hmoment], by rw [hvmoment, hmoment], hsofar, goesOn_self .causing n v⟩,
      fun hcur => frame_trans hsofar (frameLogic_slots (by rw [hvn]; exact hcur))⟩
    · rw [hlogic.dropped, hvn]; rfl
    · rw [hlogic.freeList, hvn]; exact hfree
    · rw [hlogic.readyQ, hvn]; rfl
    · rw [frameLogic_none (handleHead_none _ (.inr (by rw [hvn]; exact hmore)))]
      exact ⟨hvn.trans (by rw [hmore]; rfl), hdropped⟩

end Sys2Proof.Proofs
end

section
/-! PROOFS. The take and the return of an egress lane (R59, R60, R107, R112, R113, R117). -/

set_option Elab.async false

namespace Sys2Proof.Proofs

open Sys2Proof.Machine Sys2Proof.Safety Sys2Proof.Laws

/-! ## Take (R60, R107) -/

theorem takeSource_submitted {s : State} {n : LaneId} {i : SlotId} {rest : List SlotId} (hsafe : s.sup.safeMode = false)
    (hq : (s.lane n).submitQ = i :: rest) : s.takeSource n = .submitted i rest := by
  simp only [State.takeSource, hsafe, hq, Bool.false_eq_true, if_false]

theorem takeSource_ready {s : State} {n m : LaneId} {i : SlotId} {rest : List SlotId} (hsafe : s.sup.safeMode = false)
    (hq : (s.lane n).submitQ = []) (hb : (s.lane n).binding = some m) (hr : (s.lane m).readyQ = i :: rest) :
    s.takeSource n = .ready m i rest := by
  simp only [State.takeSource, hsafe, hq, hb, hr, Bool.false_eq_true, if_false]

theorem takeSource_rest {s : State} {n : LaneId} (hsafe : s.sup.safeMode = false) (hq : (s.lane n).submitQ = [])
    (hno : ∀ m, (s.lane n).binding = some m → (s.lane m).readyQ = []) : s.takeSource n = s.lingerSource n := by
  cases hb : (s.lane n).binding with
  | none => simp only [State.takeSource, hsafe, hq, hb, Bool.false_eq_true, if_false]
  | some m => simp only [State.takeSource, hsafe, hq, hb, hno m hb, Bool.false_eq_true, if_false]

theorem takeSource_none {s : State} {n : LaneId} (h : s.sup.safeMode = true ∨ (s.lane n).submitQ = [] ∧
    (∀ m, (s.lane n).binding = some m → (s.lane m).readyQ = []) ∧
    ((s.lane n).cfg.egPolicy = .repeatLast → (s.lane n).linger = none)) : s.takeSource n = .none := by
  cases hsafe : s.sup.safeMode with
  | true => simp only [State.takeSource, hsafe, if_true]
  | false =>
    obtain ⟨hq, hno, hlinger⟩ := h.resolve_left (by rw [hsafe]; decide)
    rw [takeSource_rest hsafe hq hno, State.lingerSource]
    by_cases hp : (s.lane n).cfg.egPolicy = .repeatLast
    · simp only [if_pos hp, hlinger hp]
    · simp only [if_neg hp]

/-- The lane as it begins to send a slot. -/
def sendingLane (l : Lane) (i : SlotId) (slot : Slot) : Lane :=
  { l with
    cur := some i, sub := .sending, fifo := [], fetched := 0, sent := 0, frameLen := slot.length
    checking := if l.cfg.crcCheck = true ∧ slot.stats ≠ none then some 0xFFFFFFFF else none }

theorem startSending_spec (t : State) (n : LaneId) (i : SlotId) :
    (∀ j, (t.startSending n i).slot j = if j = i then { t.slot i with st := .draining } else t.slot j) ∧
      (∀ m, (t.startSending n i).lane m = if m = n then sendingLane (t.lane n) i (t.slot i) else t.lane m) ∧
      unchangedBut [.slots, .lanes] t (t.startSending n i) := by
  have hdrain := updSlot_frame t i fun r => { r with st := .draining }
  have hcheck (l : Lane) (r : Slot) : (if (l.cfg.crcCheck && r.stats.isSome) = true then some crcStart else none) =
      if l.cfg.crcCheck = true ∧ r.stats ≠ none then some (0xFFFFFFFF : Word) else none := by
    simp only [Bool.and_eq_true, Option.isSome_iff_ne_none]; rfl
  refine ⟨fun j => ?_, fun m => ?_, frame_comp (hs := [.slots, .lanes]) hdrain (updLane_frame _ n _)⟩
  · exact (frame_slot (updLane_frame (t.updSlot i fun r => { r with st := .draining }) n _) j).trans (slot_updSlot t i j _)
  · simp only [State.startSending, lane_updLane, lane_updSlot, slot_updSlot_same, hcheck]; rfl

/-- A take from a list of lane `m`, `f` taking the slot out of it. -/
theorem takeFrom_spec {s t : State} {n m : LaneId} {f : Lane → Lane} (i : SlotId) (ht : unchangedBut [.moment] s t) :
    let r := (t.updLane m f).startSending n i
    r.slot i = { s.slot i with st := .draining } ∧ otherSlots i s r ∧
      r.lane n = sendingLane (if n = m then f (s.lane m) else s.lane n) i (s.slot i) ∧
      (∀ k, k ≠ n → r.lane k = if k = m then f (s.lane m) else s.lane k) ∧
      unchangedBut [.slots, .lanes, .moment] s r := by
  intro r
  have htake := updLane_frame t m f
  obtain ⟨hslots, hlanes, hframe⟩ := startSending_spec (t.updLane m f) n i
  have hbase (j : SlotId) : (t.updLane m f).slot j = s.slot j := (frame_slot htake j).trans (frame_slot ht j)
  have hlane (k : LaneId) : (t.updLane m f).lane k = if k = m then f (s.lane m) else s.lane k := by
    rw [lane_updLane, frame_lane ht, frame_lane ht]
  refine ⟨?_, fun j hj => ?_, ?_, fun k hk => ?_,
    frame_comp (hs := [.slots, .lanes, .moment]) (frame_comp (hs := [.lanes, .moment]) ht htake) hframe⟩
  · rw [hslots, if_pos rfl, hbase]
  · rw [hslots, if_neg hj, hbase]
  · rw [hlanes, if_pos rfl, hlane, hbase]
  · rw [hlanes, if_neg hk, hlane]

theorem exec_take {s : State} {n : LaneId} (h : s.nextDue = some (.req (.take n))) :
    exec (.take n) s = .next ((begun s).serveTake n).arbitrate :=
  congrArg Host.Outcome.next (serviceRow_req h)

/-- A take that sends the linger slot again (R107). -/
theorem takeAgain_spec {s t : State} {n : LaneId} {i : SlotId} (ht : unchangedBut [.moment] s t)
    (hsource : t.takeSource n = .lingering i) :
    let l := s.lane n
    let r := t.serveTake n
    r.slot i = { s.slot i with
        st := .draining, repeats := plus (s.slot i).repeats 1, flags := { (s.slot i).flags with repeated := true } } ∧
      otherSlots i s r ∧
      r.lane n = sendingLane
        { l with linger := none, counters := { l.counters with repeated := plus l.counters.repeated 1 } } i (s.slot i) ∧
      otherLanes n s r ∧
      raises (if l.cfg.frameEvents then [laneEvent s n .frameRepeated (some i)
        ((s.slot i).seq.toNat + 65536 * (plus (s.slot i).repeats 1).toNat)] else []) s r ∧
      unchangedBut [.slots, .lanes, .log, .irq, .moment] s r := by
  intro l r
  have hserve : t.serveTake n = (
      let u := (((t.updSlot i fun r => { r with repeats := satInc r.repeats, flags := { r.flags with repeated := true } }).updLane n
        fun l => { l with linger := none }).startSending n i).count n fun c => { c with repeated := satInc c.repeated }
      if (u.lane n).cfg.frameEvents then
        u.raiseLane n .frameRepeated (some i) (halves (u.slot i).seq.toNat (u.slot i).repeats.toNat) else u) := by
    simp only [State.serveTake, hsource]
  have hr : r = _ := hserve
  clear_value r
  dsimp only at hr
  have hmark := updSlot_frame t i fun r => { r with repeats := satInc r.repeats, flags := { r.flags with repeated := true } }
  have hmarked (j : SlotId) := slot_updSlot t i j fun r =>
    { r with repeats := satInc r.repeats, flags := { r.flags with repeated := true } }
  generalize t.updSlot i (fun r => { r with repeats := satInc r.repeats, flags := { r.flags with repeated := true } }) = v at *
  have hplace := updLane_frame v n fun l => { l with linger := none }
  have hplaced (m : LaneId) := lane_updLane v n m fun l => { l with linger := none }
  generalize v.updLane n (fun l => { l with linger := none }) = w at *
  obtain ⟨hslots, hlanes, hsend⟩ := startSending_spec w n i
  generalize w.startSending n i = x at *
  have hcount := count_frame x n fun c => { c with repeated := satInc c.repeated }
  have hcounted (m : LaneId) : (x.count n fun c => { c with repeated := satInc c.repeated }).lane m = _ := lane_updLane x n m _
  generalize x.count n (fun c => { c with repeated := satInc c.repeated }) = y at *
  have hsy : unchangedBut [.slots, .lanes, .moment] s y :=
    frame_trans (frame_trans (frame_trans (frame_comp ht hmark) (frame_mono hplace (by decide)))
      (frame_mono hsend (by decide))) (frame_mono hcount (by decide))
  have hbase (j : SlotId) : v.slot j = if j = i then { s.slot i with
      repeats := plus (s.slot i).repeats 1, flags := { (s.slot i).flags with repeated := true } } else s.slot j := by
    rw [hmarked, frame_slot ht, frame_slot ht, satInc_eq]
  have hyslots (j : SlotId) : y.slot j = if j = i then { s.slot i with
      st := .draining, repeats := plus (s.slot i).repeats 1, flags := { (s.slot i).flags with repeated := true } } else s.slot j := by
    rw [frame_slot hcount, hslots, frame_slot hplace, frame_slot hplace, hbase, hbase, if_pos rfl]
    by_cases hj : j = i
    · rw [if_pos hj, if_pos hj]
    · rw [if_neg hj, if_neg hj, if_neg hj]
  have hbaseLane (m : LaneId) : v.lane m = s.lane m := (frame_lane hmark m).trans (frame_lane ht m)
  have hylanes (m : LaneId) : y.lane m = if m = n then sendingLane
      { l with linger := none, counters := { l.counters with repeated := plus l.counters.repeated 1 } } i (s.slot i)
      else s.lane m := by
    rw [hcounted, hlanes, hlanes, if_pos rfl, hplaced, hplaced, if_pos rfl, hbaseLane, hbaseLane, frame_slot hplace, hbase,
      if_pos rfl]
    by_cases hm : m = n
    · rw [if_pos hm, if_pos hm]
      simp only [sendingLane, satInc_eq] <;> rfl
    · rw [if_neg hm, if_neg hm, if_neg hm, if_neg hm]
  have hevents := raises_if (n := n) (kind := .frameRepeated) (slot := some i) (raises_start hsy) (y.lane n).cfg.frameEvents
    (hsy .tb (by decide)) (halves_eq (y.slot i).seq.isLt (y.slot i).repeats.isLt)
  have hraise := raiseIf_frame y (y.lane n).cfg.frameEvents n .frameRepeated (some i)
    (halves (y.slot i).seq.toNat (y.slot i).repeats.toNat)
  rw [← hr] at hevents hraise
  refine ⟨?_, fun j hj => ?_, ?_, fun m hm => ?_, ?_, frame_comp hsy hraise⟩
  · rw [frame_slot hraise, hyslots, if_pos rfl]
  · rw [frame_slot hraise, hyslots, if_neg hj]
  · rw [frame_lane hraise, hylanes, if_pos rfl]
  · rw [frame_lane hraise, hylanes, if_neg hm]
  · rw [hylanes, if_pos rfl, hyslots, if_pos rfl, List.nil_append] at hevents
    exact hevents

/-- A take that finds nothing (R107, R117). -/
theorem serveTake_none {t : State} {n : LaneId} (hsource : t.takeSource n = .none) :
    t.serveTake n =
      if (if t.sup.safeMode then t.sup.safeFill = true else (t.lane n).cfg.egPolicy = .emitFill) then
        t.updLane n fun l => { l with sub := .sendingFill, fillSent := 0, fifo := [] }
      else t.updLane n fun l => { l with sub := .idle } := by
  simp only [State.serveTake, hsource, State.emptyPolicy]
  cases t.sup.safeMode with
  | true => cases t.sup.safeFill <;> rfl
  | false =>
    simp only [Bool.false_eq_true, if_false]
    cases hp : (t.lane n).cfg.egPolicy <;> rfl

/-- Settles O44: the source of a take, and what the lane does with each. -/
theorem takeChoosesTheSource : Obligations.TakeChoosesTheSource := by
  intro s n h l sending noReady
  have hexec := exec_take h
  have hbegun := begun_frame s
  have hlane (m : LaneId) : (begun s).lane m = s.lane m := rfl
  have hsup : (begun s).sup = s.sup := rfl
  generalize begun s = t at *
  refine ⟨fun i rest hsafe hq => ?_, fun m i rest hsafe hq hb hmn hr => ?_, fun i hsafe hq hno hp hl => ?_, fun hnone => ?_⟩
  · have hserve : t.serveTake n = (t.updLane n fun l => { l with submitQ := rest }).startSending n i := by
      simp only [State.serveTake, takeSource_submitted (s := t) (by rw [hsup]; exact hsafe) (by rw [hlane]; exact hq)]
    rw [hserve] at hexec
    obtain ⟨hslot, hothers, hrlane, hlanes, hframe⟩ :=
      takeFrom_spec (n := n) (m := n) (f := fun l => { l with submitQ := rest }) i hbegun
    rw [if_pos rfl] at hrlane
    exact ⟨_, hexec, hslot, hothers, hrlane, fun k hk => (hlanes k hk).trans (if_neg hk), hframe⟩
  · have hserve : t.serveTake n = (t.updLane m fun l => { l with readyQ := rest }).startSending n i := by
      simp only [State.serveTake, takeSource_ready (s := t) (by rw [hsup]; exact hsafe) (by rw [hlane]; exact hq)
        (by rw [hlane]; exact hb) (by rw [hlane]; exact hr)]
    rw [hserve] at hexec
    obtain ⟨hslot, hothers, hrlane, hlanes, hframe⟩ :=
      takeFrom_spec (n := n) (m := m) (f := fun l => { l with readyQ := rest }) i hbegun
    rw [if_neg hmn.symm] at hrlane
    exact ⟨_, hexec, hslot, hothers, hrlane, (hlanes m hmn).trans (if_pos rfl),
      fun k hk hkm => (hlanes k hk).trans (if_neg hkm), hframe⟩
  · have hsource : t.takeSource n = .lingering i := by
      rw [takeSource_rest (by rw [hsup]; exact hsafe) (by rw [hlane]; exact hq)
        (fun m hb => by rw [hlane] at hb ⊢; exact hno m hb), State.lingerSource]
      simp only [hlane]
      rw [if_pos hp]
      simp only [show (s.lane n).linger = some i from hl]
    exact ⟨_, hexec, takeAgain_spec hbegun hsource⟩
  · have hserve := serveTake_none (t := t) (n := n) (takeSource_none (by
      rw [hsup, hlane]
      exact hnone.imp_right fun ⟨hq, hno, hl⟩ => ⟨hq, fun m hb => (congrArg Lane.readyQ (hlane m)).trans (hno m hb), hl⟩))
    rw [hserve, hsup, hlane] at hexec
    have hset (f : Lane → Lane) : (t.updLane n f).lane n = f l ∧ otherLanes n s (t.updLane n f) ∧
        unchangedBut [.lanes, .moment] s (t.updLane n f) := by
      refine ⟨?_, fun m hm => ?_, frame_comp hbegun (updLane_frame t n f)⟩
      · rw [lane_updLane, if_pos rfl, hlane]
      · rw [lane_updLane, if_neg hm, hlane]
    refine ⟨fun hfill => ?_, fun hfill => ?_⟩
    · rw [if_pos hfill] at hexec
      exact ⟨_, hexec, hset _⟩
    · rw [if_neg hfill] at hexec
      exact ⟨_, hexec, hset _⟩

end Sys2Proof.Proofs
end

section
/-! PROOFS. The return of an egress lane: the check, the disposal, and the end of its frame (R52, R59, R112, R113). -/

set_option Elab.async false

namespace Sys2Proof.Proofs

open Sys2Proof.Machine Sys2Proof.Safety Sys2Proof.Laws

/-! ## The check (R112) -/

/-- The crc of the words sent, as the lane's check register leaves it. -/
def sentCrc (l : Lane) : Word := ~~~(l.checking.getD 0)

/-- The check was made, and failed. -/
def checkFails (l : Lane) (r : Slot) : Bool :=
  match l.checking, r.stats with
  | some _, some st => sentCrc l != st.crc
  | _, _ => false

theorem crcFailure_eq (s : State) (n : LaneId) (i : SlotId) :
    s.crcFailure n i = if checkFails (s.lane n) (s.slot i) then some (sentCrc (s.lane n)) else none := by
  unfold State.crcFailure checkFails sentCrc
  cases (s.lane n).checking with
  | none => rfl
  | some reg =>
    cases (s.slot i).stats with
    | none => rfl
    | some st =>
      simp only [Option.getD_some, bne_iff_ne, ne_eq, ite_not]

/-- The slot with the outcome of the check marked. -/
def checkedSlot (r : Slot) (failed : Bool) : Slot :=
  { r with flags := { r.flags with crcMismatch := r.flags.crcMismatch || failed } }

/-! ## The end of the frame (R113) -/

/-- The lane with the frame counted. -/
def countedSent (l : Lane) (failed : Bool) : Lane :=
  { l with
    counters := { l.counters with
      sent := plus l.counters.sent 1
      crcMismatch := if failed then plus l.counters.crcMismatch 1 else l.counters.crcMismatch } }

/-- The lane once its frame is over. -/
def frameOver (l : Lane) : Lane := if l.st = .stopping then stoppedForm l else takesAgain { l with sub := .idle }

theorem frameOver_freeList (l : Lane) (xs : List SlotId) :
    frameOver { l with freeList := xs } = { frameOver l with freeList := xs } := by
  unfold frameOver
  by_cases h : l.st = .stopping
  · rw [if_pos h, if_pos h]; rfl
  · rw [if_neg h, if_neg h, takesAgain, takesAgain]
    have hidle : idleFreeRunner { l with freeList := xs, sub := .idle } = idleFreeRunner { l with sub := .idle } := rfl
    rw [hidle]
    split <;> rfl

theorem frameOver_keeps (l : Lane) : (frameOver l).freeList = l.freeList ∧ (frameOver l).cfg = l.cfg := by
  unfold frameOver takesAgain
  split
  · exact ⟨rfl, rfl⟩
  · split <;> exact ⟨rfl, rfl⟩

/-- The end of an egress frame. -/
theorem endEgressFrame_spec {b : State} {es : List Event} (s : State) (n : LaneId) (hes : raises es b s) (htb : s.tb = b.tb) :
    (∀ m, (s.endEgressFrame n).lane m = if m = n then frameOver (s.lane n) else s.lane m) ∧
      (idleFreeRunner { s.lane n with sub := .idle } = true → (s.endEgressFrame n).outstanding (.take n) = true) ∧
      raises (es ++ if (s.lane n).st = .stopping then [laneEvent b n .laneStopped none 0] else []) b (s.endEgressFrame n) ∧
      unchangedBut [.lanes, .log, .irq, .moment] s (s.endEgressFrame n) := by
  unfold State.endEgressFrame
  by_cases h : (s.lane n).st = .stopping
  · rw [if_pos h, if_pos h]
    obtain ⟨hlane, hothers, _, _, _, hframe⟩ := stopAtBoundary_spec s n
    have hraises := raises_raiseLane (n := n) (kind := .laneStopped) (slot := none) (detail := 0) (k := 0)
      (raises_frame hes (enterStopped_frame s n)) ((enterStopped_frame s n .tb (by decide)).trans htb) rfl
    refine ⟨fun m => ?_, fun hidle => ?_, hraises, hframe⟩
    · by_cases hm : m = n
      · rw [if_pos hm, hm, hlane, frameOver, if_pos h]
      · rw [if_neg hm, hothers m hm]
    · have hrun := (idleFreeRunner_iff _).mp hidle
      simp_all
  · rw [if_neg h, if_neg h]
    have hidle := updLane_frame s n fun l => { l with sub := .idle }
    have hidled (m : LaneId) := lane_updLane s n m fun l => { l with sub := .idle }
    generalize s.updLane n (fun l => { l with sub := .idle }) = t at *
    have hframe := frame_comp (hs := [.lanes, .moment]) hidle (nudge_frame t n)
    refine ⟨fun m => ?_, fun hrun => ?_, by rw [List.append_nil]; exact raises_frame hes hframe,
      frame_mono hframe (by decide)⟩
    · rw [nudge_lane, hidled]
      by_cases hm : m = n
      · rw [if_pos hm, if_pos hm, if_pos hm, frameOver, if_neg h]
      · rw [if_neg hm, if_neg hm, if_neg hm]
    · rw [nudge_outstanding, hidled, if_pos rfl, hrun]; simp

/-- What follows the disposal of the slot: the check reported, the frame counted and reported, and its end. -/
def finishFrame (v : State) (n : LaneId) (i : SlotId) (r : Slot) (failed : Bool) (crc : Word) : State :=
  let u := if failed then
    (v.count n fun c => { c with crcMismatch := satInc c.crcMismatch }).raiseLane n .crcMismatch (some i) crc else v
  let u := u.count n fun c => { c with sent := satInc c.sent }
  let u := if (u.lane n).cfg.frameEvents then
    u.raiseLane n .frameSent (some i) (halves r.seq.toNat (r.length - 1)) else u
  u.endEgressFrame n

theorem serveReturn_eq {t : State} {n : LaneId} {i : SlotId} (hc : (t.lane n).cur = some i) :
    t.serveReturn n = (
      let failed := checkFails (t.lane n) (t.slot i)
      let u := if failed then t.updSlot i fun r => { r with flags := { r.flags with crcMismatch := true } } else t
      (finishFrame (u.dispose n i).1 n i (u.slot i) failed (sentCrc (t.lane n))).tellOwners (u.dispose n i).2) := by
  unfold State.serveReturn
  simp only [hc, crcFailure_eq]
  cases checkFails (t.lane n) (t.slot i) <;> rfl

/-- The events of a frame that a lane has sent. -/
def sentEvents (s : State) (n : LaneId) (i : SlotId) (failed : Bool) (crc : Word) : List Event :=
  (if failed then [laneEvent s n .crcMismatch (some i) crc.toNat] else []) ++
  (if (s.lane n).cfg.frameEvents then
    [laneEvent s n .frameSent (some i) ((s.slot i).seq.toNat + 65536 * (((s.slot i).length - 1) % 65536))] else []) ++
  (if (s.lane n).st = .stopping then [laneEvent s n .laneStopped none 0] else [])

theorem finishFrame_spec {s v : State} {n : LaneId} {i : SlotId} {r : Slot} (failed : Bool) (crc : Word)
    (hv : unchangedBut [.slots, .hostFree, .lanes, .moment] s v) (hcfg : (v.lane n).cfg = (s.lane n).cfg)
    (hst : (v.lane n).st = (s.lane n).st) (hseq : r.seq = (s.slot i).seq) (hlen : r.length = (s.slot i).length) :
    let w := finishFrame v n i r failed crc
    (∀ m, w.lane m = if m = n then frameOver (countedSent (v.lane n) failed) else v.lane m) ∧
      (idleFreeRunner { v.lane n with sub := .idle } = true → w.outstanding (.take n) = true) ∧
      raises (sentEvents s n i failed crc) s w ∧ unchangedBut [.lanes, .log, .irq, .moment] v w := by
  intro w
  -- The check.
  have hu : ∃ u, u = (if failed then (v.count n fun c =>
      { c with crcMismatch := satInc c.crcMismatch }).raiseLane n .crcMismatch (some i) crc else v) ∧
      (∀ m, u.lane m = if m = n then { v.lane n with counters := { (v.lane n).counters with
        crcMismatch := if failed then plus (v.lane n).counters.crcMismatch 1 else (v.lane n).counters.crcMismatch } }
        else v.lane m) ∧
      raises (if failed then [laneEvent s n .crcMismatch (some i) crc.toNat] else []) s u ∧
      unchangedBut [.lanes, .log, .irq] v u := by
    refine ⟨_, rfl, ?_⟩
    cases failed with
    | false =>
      refine ⟨fun m => ?_, raises_start hv, frame_refl _ v⟩
      by_cases hm : m = n
      · rw [if_pos hm, hm]; rfl
      · rw [if_neg hm]; rfl
    | true =>
      have hcount := count_frame v n fun c => { c with crcMismatch := satInc c.crcMismatch }
      have hraise := raiseLane_frame (v.count n fun c => { c with crcMismatch := satInc c.crcMismatch }) n .crcMismatch (some i) crc
      refine ⟨fun m => (frame_lane hraise m).trans (lane_updLane v n m _), ?_,
        frame_comp (hs := [.lanes, .log, .irq]) hcount hraise⟩
      have hevents := raises_raiseLane (n := n) (kind := .crcMismatch) (slot := some i) (detail := crc) (k := crc.toNat)
        (raises_frame (raises_start hv) hcount) ((hcount .tb (by decide)).trans (hv .tb (by decide)))
        (by rw [BitVec.ofNat_toNat, BitVec.setWidth_eq])
      exact hevents
  obtain ⟨u, huis, hulane, huraises, huframe⟩ := hu
  -- The count and the report.
  have hw : w = (
      let x := u.count n fun c => { c with sent := satInc c.sent }
      (if (x.lane n).cfg.frameEvents then
        x.raiseLane n .frameSent (some i) (halves r.seq.toNat (r.length - 1)) else x).endEgressFrame n) := by rw [huis]; rfl
  clear_value w
  clear huis
  dsimp only at hw
  have hcount := count_frame u n fun c => { c with sent := satInc c.sent }
  have hxlane (m : LaneId) : (u.count n fun c => { c with sent := satInc c.sent }).lane m =
      if m = n then countedSent (v.lane n) failed else v.lane m := by
    rw [State.count, lane_updLane, hulane, hulane, if_pos rfl]
    by_cases hm : m = n
    · rw [if_pos hm, if_pos hm]; rfl
    · rw [if_neg hm, if_neg hm, if_neg hm]
  have hxframe := frame_comp (hs := [.lanes, .log, .irq]) huframe hcount
  have hxraises := raises_frame huraises hcount
  generalize u.count n (fun c => { c with sent := satInc c.sent }) = x at *
  have hxtb : x.tb = s.tb := (hxframe .tb (by decide)).trans (hv .tb (by decide))
  have hxcfg : (x.lane n).cfg = (s.lane n).cfg := by rw [hxlane, if_pos rfl]; exact hcfg
  have hyraises := raises_if (n := n) (kind := .frameSent) (slot := some i)
    (detail := halves r.seq.toNat (r.length - 1))
    (k := (s.slot i).seq.toNat + 65536 * (((s.slot i).length - 1) % 65536)) hxraises (x.lane n).cfg.frameEvents hxtb
    (by rw [hseq, hlen]; exact halves_mod _ (s.slot i).seq.isLt)
  have hyframe := raiseIf_frame x (x.lane n).cfg.frameEvents n .frameSent (some i) (halves r.seq.toNat (r.length - 1))
  generalize (if (x.lane n).cfg.frameEvents then
    x.raiseLane n .frameSent (some i) (halves r.seq.toNat (r.length - 1)) else x) = y at *
  have hylane (m : LaneId) : y.lane m = if m = n then countedSent (v.lane n) failed else v.lane m :=
    (frame_lane hyframe m).trans (hxlane m)
  rw [hxcfg] at hyraises
  obtain ⟨hzlane, hztake, hzraises, hzframe⟩ :=
    endEgressFrame_spec y n hyraises ((hyframe .tb (by decide)).trans hxtb)
  rw [← hw] at hzlane hztake hzraises hzframe
  have hyn : y.lane n = countedSent (v.lane n) failed := (hylane n).trans (if_pos rfl)
  have hstop : (y.lane n).st = (s.lane n).st := by rw [hyn]; exact hst
  rw [hstop] at hzraises
  refine ⟨fun m => ?_, fun hidle => hztake (by rw [hyn]; exact hidle), hzraises,
    frame_comp (hs := [.lanes, .log, .irq, .moment]) (frame_comp (hs := [.lanes, .log, .irq]) hxframe hyframe) hzframe⟩
  rw [hzlane, hyn]
  by_cases hm : m = n
  · rw [if_pos hm, if_pos hm]
  · rw [if_neg hm, if_neg hm, hylane, if_neg hm]

/-! ## The disposal (R52, R59) -/

/-- A slot that has joined its owner's free list, the owner then told of it. -/
theorem joins_of {base w : State} {j : SlotId} (hfree : (w.slot j).st = .free)
    (hhost : w.hostFree = base.hostFree ++ if (w.slot j).owner = .host then [j] else [])
    (hlane : ∀ m, w.lane m = { base.lane m with
      freeList := (base.lane m).freeList ++ if (w.slot j).owner = .lane m then [j] else [] }) :
    joins j (w.slot j).owner base (w.tellOwners [j]) := by
  have htell := tellOwners_frame w [j]
  have hrhost : (w.tellOwners [j]).hostFree = w.hostFree := htell .hostFree (by decide)
  have hrlane (m : LaneId) : (w.tellOwners [j]).lane m = w.lane m := frame_lane htell m
  cases ho : (w.slot j).owner with
  | none =>
    refine ⟨?_, fun m => ?_⟩
    · rw [hrhost, hhost, ho]; simp
    · rw [hrlane, hlane, ho]; simp
  | host =>
    refine ⟨?_, fun m => ?_⟩
    · rw [hrhost, hhost, ho]; simp
    · rw [hrlane, hlane, ho]; simp
  | lane m =>
    refine ⟨?_, ?_, fun k hk => ?_, ?_⟩
    · rw [hrhost, hhost, ho]; simp
    · rw [hrlane, hlane, ho, if_pos rfl]
    · rw [hrlane, hlane, ho, if_neg (by simpa using hk.symm), List.append_nil]
    · exact tellOwners_wakes (List.mem_singleton_self j) hfree ho (by rw [hlane]) (by rw [hlane]) (by rw [hlane])

theorem dispose_lingers {u : State} {n : LaneId} {i : SlotId} (hp : (u.lane n).cfg.egPolicy = .repeatLast)
    (hok : (u.slot i).flags.eccBad = false) : u.dispose n i =
      ((((u.updLane n fun l => { l with cur := none }).returnAll (u.lane n).linger.toList).updSlot i
        fun r => { r with st := .linger }).updLane n fun l => { l with linger := some i }, (u.lane n).linger.toList) := by
  unfold State.dispose
  exact if_pos ⟨hp, hok⟩

theorem dispose_returns {u : State} {n : LaneId} {i : SlotId}
    (h : (u.lane n).cfg.egPolicy ≠ .repeatLast ∨ (u.slot i).flags.eccBad = true) :
    u.dispose n i = ((u.updLane n fun l => { l with cur := none }).returnSlot i, [i]) := by
  unfold State.dispose
  refine if_neg fun ⟨hp, hok⟩ => ?_
  have hok : (u.slot i).flags.eccBad = false := hok
  rcases h with h | h
  · exact h hp
  · rw [hok] at h; cases h

theorem lane_setLane (s : State) (n m : LaneId) (l : Lane) : (s.setLane n l).lane m = if m = n then l else s.lane m := by
  by_cases hm : m = n
  · subst hm; rw [if_pos rfl, lane_setLane_same]
  · rw [if_neg hm, lane_setLane_other s n m l hm]

/-- Where the lists of the lanes stand once slots have joined them: `xs m` at the tail of the free list of lane `m`. -/
def listed (base v : State) (xs : LaneId → List SlotId) : Prop :=
  ∀ m, v.lane m = { base.lane m with freeList := (base.lane m).freeList ++ xs m }

/-- The slot lingers, and the one that lingered before it has been returned. -/
theorem lingers_spec {s u : State} {n : LaneId} {i : SlotId} {failed : Bool} {old : List SlotId} (hnd : old.Nodup)
    (hi : i ∉ old) (hslots : ∀ j, u.slot j = if j = i then checkedSlot (s.slot i) failed else s.slot j)
    (hframe : unchangedBut [.slots, .moment] s u) :
    let v := (((u.updLane n fun l => { l with cur := none }).returnAll old).updSlot i
        fun r => { r with st := .linger }).updLane n fun l => { l with linger := some i }
    (∀ j, v.slot j = if j = i then { checkedSlot (s.slot i) failed with st := .linger } else if j ∈ old then
      { s.slot j with st := if (s.slot j).flags.eccBad then .quarantined else .free } else s.slot j) ∧
      v.hostFree = s.hostFree ++ old.filter (fun j => !(s.slot j).flags.eccBad && (s.slot j).owner == .host) ∧
      listed (s.setLane n { s.lane n with cur := none, linger := some i }) v
        (fun m => old.filter fun j => !(s.slot j).flags.eccBad && (s.slot j).owner == .lane m) ∧
      unchangedBut [.slots, .hostFree, .lanes, .moment] s v := by
  intro v
  have hplace := updLane_frame u n fun l => { l with cur := none }
  have hplaced (m : LaneId) := lane_updLane u n m fun l => { l with cur := none }
  have hsp := frame_comp (hs := [.slots, .lanes, .moment]) hframe hplace
  have hpslots (j : SlotId) := (frame_slot hplace j).trans (hslots j)
  have hv : v = (((u.updLane n fun l => { l with cur := none }).returnAll old).updSlot i
    fun r => { r with st := .linger }).updLane n fun l => { l with linger := some i } := rfl
  clear_value v
  generalize u.updLane n (fun l => { l with cur := none }) = p at *
  have hold (j : SlotId) (hj : j ∈ old) : p.slot j = s.slot j := by
    rw [hpslots, if_neg (ne_of_mem_of_not_mem hj hi)]
  have hret := returnAll_frame p old
  obtain ⟨hrslot, hrhost, hrlane⟩ := returnAll_spec old hnd p
  generalize p.returnAll old = q at *
  have hlinger := updSlot_frame q i fun r => { r with st := .linger }
  have hlingers (j : SlotId) := slot_updSlot q i j fun r => { r with st := .linger }
  generalize q.updSlot i (fun r => { r with st := .linger }) = x at *
  have hlast := updLane_frame x n fun l => { l with linger := some i }
  have hlasts (m : LaneId) := lane_updLane x n m fun l => { l with linger := some i }
  rw [← hv] at hlast hlasts
  refine ⟨fun j => ?_, ?_, fun m => ?_, ?_⟩
  · rw [frame_slot hlast, hlingers, hrslot, hrslot, if_neg hi, hpslots, hpslots, if_pos rfl]
    by_cases hj : j = i
    · rw [if_pos hj, if_pos hj]
    · rw [if_neg hj, if_neg hj, if_neg hj]
  · rw [(hlast .hostFree (by decide) : v.hostFree = x.hostFree), (hlinger .hostFree (by decide) : x.hostFree = q.hostFree), hrhost,
      (hsp .hostFree (by decide) : p.hostFree = s.hostFree), List.filter_congr fun j hj => by rw [hold j hj]]
  · have hfilter : old.filter (fun j => !(p.slot j).flags.eccBad && (p.slot j).owner == .lane m) =
        old.filter fun j => !(s.slot j).flags.eccBad && (s.slot j).owner == .lane m :=
      List.filter_congr fun j hj => by rw [hold j hj]
    rw [hlasts, lane_setLane]
    by_cases hm : m = n
    · subst hm
      rw [if_pos rfl, if_pos rfl, frame_lane hlinger, hrlane, hfilter, hplaced, if_pos rfl, frame_lane hframe]
    · rw [if_neg hm, if_neg hm, frame_lane hlinger, hrlane, hfilter, hplaced, if_neg hm, frame_lane hframe]
  · exact frame_trans (frame_trans (frame_comp hsp hret) (frame_mono hlinger (by decide))) (frame_mono hlast (by decide))

/-- The slot is returned itself. -/
theorem returns_spec {s u : State} {n : LaneId} {i : SlotId} {failed : Bool}
    (hslots : ∀ j, u.slot j = if j = i then checkedSlot (s.slot i) failed else s.slot j)
    (hframe : unchangedBut [.slots, .moment] s u) :
    let v := (u.updLane n fun l => { l with cur := none }).returnSlot i
    (∀ j, v.slot j = if j = i then { checkedSlot (s.slot i) failed with
      st := if (s.slot i).flags.eccBad then .quarantined else .free } else s.slot j) ∧
      v.hostFree = s.hostFree ++ (if (s.slot i).flags.eccBad = false ∧ (s.slot i).owner = .host then [i] else []) ∧
      listed (s.setLane n { s.lane n with cur := none }) v
        (fun m => if (s.slot i).flags.eccBad = false ∧ (s.slot i).owner = .lane m then [i] else []) ∧
      unchangedBut [.slots, .hostFree, .lanes, .moment] s v := by
  intro v
  have hplace := updLane_frame u n fun l => { l with cur := none }
  have hplaced (m : LaneId) := lane_updLane u n m fun l => { l with cur := none }
  have hsp := frame_comp (hs := [.slots, .lanes, .moment]) hframe hplace
  have hpslots (j : SlotId) := (frame_slot hplace j).trans (hslots j)
  have hv : v = (u.updLane n fun l => { l with cur := none }).returnSlot i := rfl
  clear_value v
  generalize u.updLane n (fun l => { l with cur := none }) = p at *
  have hret := returnSlot_frame p i
  have hi : p.slot i = checkedSlot (s.slot i) failed := (hpslots i).trans (if_pos rfl)
  rw [← hv] at hret
  refine ⟨fun j => ?_, ?_, fun m => ?_, frame_comp hsp hret⟩
  · rw [hv, returnSlot_slot, hi, hpslots]
    by_cases hj : j = i
    · rw [if_pos hj, if_pos hj]; rfl
    · rw [if_neg hj, if_neg hj, if_neg hj]
  · rw [hv, returnSlot_hostFree, hi, (hsp .hostFree (by decide) : p.hostFree = s.hostFree)]
    by_cases h : (s.slot i).flags.eccBad = false ∧ (s.slot i).owner = .host
    · rw [if_pos h]; exact if_pos h
    · rw [if_neg h, List.append_nil]; exact if_neg h
  · have hbase : p.lane m = (s.setLane n { s.lane n with cur := none }).lane m := by
      rw [hplaced, frame_lane hframe, frame_lane hframe, lane_setLane]
    have hwhere : ((p.slot i).flags.eccBad = false ∧ (p.slot i).owner = .lane m) =
        ((s.slot i).flags.eccBad = false ∧ (s.slot i).owner = .lane m) := by rw [hi]; rfl
    rw [hv, returnSlot_lane, hbase]
    generalize (s.setLane n { s.lane n with cur := none }).lane m = b
    simp only [hwhere]
    split
    · rfl
    · rw [List.append_nil]

/-- The lanes once the frame is over: the lists stand as the disposal left them. -/
theorem listed_finished {s v w : State} {n : LaneId} {p : Lane} {failed : Bool} {xs : LaneId → List SlotId}
    (h : listed (s.setLane n p) v xs)
    (hw : ∀ m, w.lane m = if m = n then frameOver (countedSent (v.lane n) failed) else v.lane m) :
    listed (s.setLane n (frameOver (countedSent p failed))) w xs := by
  intro m
  rw [hw, lane_setLane]
  by_cases hm : m = n
  · have hover := frameOver_freeList (countedSent p failed) (p.freeList ++ xs n)
    have hkeep : (frameOver (countedSent p failed)).freeList = p.freeList := (frameOver_keeps _).1
    rw [if_pos hm, if_pos hm, h, lane_setLane, if_pos rfl, hm, hkeep]
    exact hover
  · rw [if_neg hm, if_neg hm, h, lane_setLane, if_neg hm]


/-! ## The row -/

theorem exec_ret {s : State} {n : LaneId} (h : s.nextDue = some (.req (.ret n))) :
    exec (.ret n) s = .next ((begun s).serveReturn n).arbitrate :=
  congrArg Host.Outcome.next (serviceRow_req h)

/-- The state with the outcome of the check marked on the slot. -/
theorem checked_spec {s t : State} (i : SlotId) (failed : Bool) (ht : unchangedBut [.moment] s t) :
    let u := if failed then t.updSlot i fun r => { r with flags := { r.flags with crcMismatch := true } } else t
    (∀ j, u.slot j = if j = i then checkedSlot (s.slot i) failed else s.slot j) ∧ unchangedBut [.slots, .moment] s u := by
  cases failed with
  | true =>
    simp only [if_true]
    refine ⟨fun j => ?_, frame_comp ht (updSlot_frame t i _)⟩
    rw [slot_updSlot, frame_slot ht, frame_slot ht, checkedSlot, Bool.or_true]
  | false =>
    simp only [Bool.false_eq_true, if_false]
    refine ⟨fun j => ?_, frame_mono ht (by decide)⟩
    rw [frame_slot ht, checkedSlot, Bool.or_false]
    by_cases hj : j = i
    · rw [if_pos hj, hj]
    · rw [if_neg hj]

/-- A return up to its end, whatever the disposal left: `p` is the lane with the slot out of its place. -/
theorem ret_spec {s v : State} {n : LaneId} {i : SlotId} {r : Slot} {failed : Bool} {crc : Word} {p : Lane}
    {xs : LaneId → List SlotId} (gone : List SlotId) (hv : unchangedBut [.slots, .hostFree, .lanes, .moment] s v)
    (hlisted : listed (s.setLane n p) v xs) (hcfg : p.cfg = (s.lane n).cfg) (hst : p.st = (s.lane n).st)
    (hseq : r.seq = (s.slot i).seq) (hlen : r.length = (s.slot i).length) :
    let w := finishFrame v n i r failed crc
    let x := w.tellOwners gone
    raises (sentEvents s n i failed crc) s x ∧
      (idleFreeRunner { s.lane n with sub := .idle } = true → x.outstanding (.take n) = true) ∧
      unchangedBut [.slots, .hostFree, .lanes, .log, .irq, .moment] s x ∧
      listed (s.setLane n (frameOver (countedSent p failed))) w xs ∧ (∀ m, x.lane m = w.lane m) ∧
      (∀ j, w.slot j = v.slot j) ∧ (∀ j, x.slot j = v.slot j) ∧ w.hostFree = v.hostFree ∧ x.hostFree = v.hostFree := by
  intro w x
  have hn : v.lane n = { p with freeList := p.freeList ++ xs n } := by rw [hlisted, lane_setLane, if_pos rfl]
  obtain ⟨hwlane, hwtake, hwraises, hwframe⟩ := finishFrame_spec (r := r) failed crc hv (by rw [hn]; exact hcfg)
    (by rw [hn]; exact hst) hseq hlen
  have htell : unchangedBut [.moment] w x := tellOwners_frame w gone
  have hslots (j : SlotId) : w.slot j = v.slot j := frame_slot hwframe j
  have hhost : w.hostFree = v.hostFree := hwframe .hostFree (by decide)
  refine ⟨raises_frame hwraises htell, fun hidle => ?_,
    frame_comp (hs := [.slots, .hostFree, .lanes, .log, .irq, .moment])
      (frame_comp (hs := [.slots, .hostFree, .lanes, .log, .irq, .moment]) hv hwframe) htell,
    listed_finished hlisted hwlane, frame_lane htell, hslots, fun j => (frame_slot htell j).trans (hslots j), hhost,
    (htell .hostFree (by decide)).trans hhost⟩
  have hsame : idleFreeRunner { v.lane n with sub := .idle } = idleFreeRunner { s.lane n with sub := .idle } := by
    rw [hn, idleFreeRunner, idleFreeRunner]
    dsimp only
    rw [hcfg, hst]
  exact (tellOwners_other (q := .take n) w gone fun _ => nofun).trans (hwtake (hsame.trans hidle))

/-- With nothing listed, the lanes are as the base has them. -/
theorem listed_nothing {base w : State} {xs : LaneId → List SlotId} (h : listed base w xs) (hxs : ∀ m, xs m = []) (m : LaneId) :
    w.lane m = base.lane m := by
  rw [h m, hxs, List.append_nil]

theorem filter_returned (s : State) (j : SlotId) (o : Owner) :
    [j].filter (fun j => !(s.slot j).flags.eccBad && (s.slot j).owner == o) =
      if (s.slot j).flags.eccBad = false ∧ (s.slot j).owner = o then [j] else [] := by
  cases hbad : (s.slot j).flags.eccBad <;> by_cases ho : (s.slot j).owner = o <;> simp [hbad, ho]

/-- A slot returned to its owner, if ECC_BAD is clear. -/
theorem joins_returned {s base w : State} {j : SlotId}
    (hlisted : listed base w fun m => if (s.slot j).flags.eccBad = false ∧ (s.slot j).owner = .lane m then [j] else [])
    (hst : (w.slot j).st = if (s.slot j).flags.eccBad then .quarantined else .free) (howner : (w.slot j).owner = (s.slot j).owner)
    (hhost : w.hostFree = base.hostFree ++
      if (s.slot j).flags.eccBad = false ∧ (s.slot j).owner = .host then [j] else []) :
    ((s.slot j).flags.eccBad = false → joins j (s.slot j).owner base (w.tellOwners [j])) ∧
      ((s.slot j).flags.eccBad = true → (∀ m, w.lane m = base.lane m) ∧ w.hostFree = base.hostFree) := by
  refine ⟨fun hok => ?_, fun hbad => ⟨listed_nothing hlisted fun m => if_neg fun hn => ?_, ?_⟩⟩
  · have hjoin := joins_of (base := base) (w := w) (j := j) (by rw [hst, hok]; rfl) (by rw [hhost, howner]; simp only [hok, true_and])
      (fun m => by rw [hlisted m, howner]; simp only [hok, true_and])
    rwa [howner] at hjoin
  · exact absurd (hbad.symm.trans hn.1) (by decide)
  · rw [hhost, if_neg fun hn => absurd (hbad.symm.trans hn.1) (by decide), List.append_nil]

/-- Settles O45: the check, the disposal and the end of the frame. -/
theorem returnDisposesOfTheSlot : Obligations.ReturnDisposesOfTheSlot := by
  intro s n i h hc hdir l slot crc failed flags counted after events common
  have hfailed : failed = checkFails l slot := by
    show (match l.checking, slot.stats with
      | some _, some st => crc != st.crc
      | _, _ => false) = _
    unfold checkFails
    cases l.checking <;> cases slot.stats <;> rfl
  have hexec := exec_ret h
  have hbegun := begun_frame s
  rw [serveReturn_eq (t := begun s) hc] at hexec
  obtain ⟨huslot, huframe⟩ := checked_spec i (checkFails l slot) hbegun
  have hcheck : checkFails ((begun s).lane n) ((begun s).slot i) = checkFails l slot := rfl
  have hcrc : sentCrc ((begun s).lane n) = crc := rfl
  dsimp only at hexec huslot huframe
  rw [hcheck, hcrc] at hexec
  rw [← hfailed] at hexec huslot huframe
  generalize (if failed = true then (begun s).updSlot i fun r => { r with flags := { r.flags with crcMismatch := true } }
    else begun s) = u at *
  have hui : u.slot i = checkedSlot slot failed := (huslot i).trans (if_pos rfl)
  have hulane : u.lane n = l := frame_lane huframe n
  refine ⟨fun hp hok => ⟨fun hlinger => ?_, fun j hlinger hji => ?_⟩, fun hret => ?_⟩
  · have hdispose := dispose_lingers (u := u) (n := n) (i := i) (by rw [hulane]; exact hp) (by rw [hui]; exact hok)
    rw [hdispose, hulane, show l.linger.toList = [] by rw [hlinger]; rfl] at hexec
    obtain ⟨hvslot, hvhost, hvlisted, hvframe⟩ := lingers_spec (n := n) (i := i) List.nodup_nil List.not_mem_nil huslot huframe
    dsimp only at hexec hvslot hvhost hvlisted hvframe
    generalize ((u.updLane n fun l => { l with cur := none }).returnAll []).updSlot i (fun r => { r with st := .linger }) = v0 at *
    obtain ⟨hraises, htake, hframe, hlisted, hxlane, _, hxslot, _, hxhost⟩ :=
      ret_spec (r := u.slot i) (failed := failed) (crc := crc) [] hvframe hvlisted rfl rfl (by rw [hui]; rfl) (by rw [hui]; rfl)
    have hlanes := listed_nothing hlisted fun _ => rfl
    refine ⟨_, ⟨hexec, hraises, htake, hframe⟩, ?_, fun k hk => ?_, ?_, fun m hm => ?_, ?_⟩
    · rw [hxslot, hvslot, if_pos rfl]; rfl
    · rw [hxslot, hvslot, if_neg hk, if_neg List.not_mem_nil]
    · rw [hxlane, hlanes, lane_setLane, if_pos rfl]; rfl
    · rw [hxlane, hlanes, lane_setLane, if_neg hm]
    · rw [hxhost, hvhost, List.filter_nil, List.append_nil]
  · have hdispose := dispose_lingers (u := u) (n := n) (i := i) (by rw [hulane]; exact hp) (by rw [hui]; exact hok)
    rw [hdispose, hulane, show l.linger.toList = [j] by rw [hlinger]; rfl] at hexec
    obtain ⟨hvslot, hvhost, hvlisted, hvframe⟩ := lingers_spec (n := n) (i := i) (List.nodup_singleton j)
      (fun hmem => hji (List.mem_singleton.mp hmem).symm) huslot huframe
    dsimp only at hexec hvslot hvhost hvlisted hvframe
    simp only [filter_returned] at hvhost hvlisted
    generalize ((u.updLane n fun l => { l with cur := none }).returnAll [j]).updSlot i (fun r => { r with st := .linger }) = v0 at *
    obtain ⟨hraises, htake, hframe, hlisted, hxlane, hwslot, hxslot, hwhost, hxhost⟩ :=
      ret_spec (r := u.slot i) (failed := failed) (crc := crc) [j] hvframe hvlisted rfl rfl (by rw [hui]; rfl) (by rw [hui]; rfl)
    have hvj := (hvslot j).trans ((if_neg hji).trans (if_pos (List.mem_singleton_self j)))
    obtain ⟨hjoins, hstays⟩ := joins_returned (s := s) (j := j) hlisted (by rw [hwslot, hvj]) (by rw [hwslot, hvj])
      (hwhost.trans hvhost)
    refine ⟨_, ⟨hexec, hraises, htake, hframe⟩, ?_, (hxslot j).trans hvj, fun k hki hkj => ?_, hjoins, fun hbad => ?_⟩
    · rw [hxslot, hvslot, if_pos rfl]; rfl
    · rw [hxslot, hvslot, if_neg hki, if_neg fun hmem => hkj (List.mem_singleton.mp hmem)]
    · obtain ⟨hlanes, hhost⟩ := hstays hbad
      refine ⟨?_, fun m hm => ?_, hxhost.trans (hwhost.symm.trans hhost)⟩
      · rw [hxlane, hlanes, lane_setLane, if_pos rfl]; rfl
      · rw [hxlane, hlanes, lane_setLane, if_neg hm]
  · have hdispose := dispose_returns (u := u) (n := n) (i := i) (by rw [hulane, hui]; exact hret)
    rw [hdispose] at hexec
    obtain ⟨hvslot, hvhost, hvlisted, hvframe⟩ := returns_spec (n := n) huslot huframe
    dsimp only at hexec hvslot hvhost hvlisted hvframe
    generalize (u.updLane n fun l => { l with cur := none }).returnSlot i = v at *
    obtain ⟨hraises, htake, hframe, hlisted, hxlane, hwslot, hxslot, hwhost, hxhost⟩ :=
      ret_spec (r := u.slot i) (failed := failed) (crc := crc) [i] hvframe hvlisted rfl rfl (by rw [hui]; rfl) (by rw [hui]; rfl)
    have hvi := (hvslot i).trans (if_pos rfl)
    obtain ⟨hjoins, hstays⟩ := joins_returned (s := s) (j := i) hlisted (by rw [hwslot, hvi]) (by rw [hwslot, hvi]; rfl)
      (hwhost.trans hvhost)
    refine ⟨_, ⟨hexec, hraises, htake, hframe⟩, fun k hk => ?_, (hxslot i).trans hvi, hjoins, fun hbad => ?_⟩
    · rw [hxslot, hvslot, if_neg hk]
    · obtain ⟨hlanes, hhost⟩ := hstays hbad
      refine ⟨?_, fun m hm => ?_, hxhost.trans (hwhost.symm.trans hhost)⟩
      · rw [hxlane, hlanes, lane_setLane, if_pos rfl]; rfl
      · rw [hxlane, hlanes, lane_setLane, if_neg hm]

end Sys2Proof.Proofs
end

section
/-! PROOFS. The ends of the lanes' grants (R33, R88, R91, R98, R110, R115). -/

set_option Elab.async false

namespace Sys2Proof.Proofs

open Sys2Proof.Machine Sys2Proof.Safety Sys2Proof.Laws

/-! ## A LANE_HALT that waited for the grant (R79, R115) -/

theorem outstanding_of_lists {s : State} {q : Req} (ha : q ∉ s.moment.asked) (hc : q ∉ s.moment.caused) :
    s.outstanding q = false := by
  rw [← Bool.not_eq_true, outstanding_iff, not_or]
  exact ⟨ha, hc⟩

theorem askDeferredHalt_spec {s u : State} (n : LaneId) (hcmd : u.cmd = s.cmd) (hasked : u.moment.asked = [])
    (hcaused : u.moment.caused = []) :
    (haltWaits s n → (u.askDeferredHalt n).moment.asked = [.command]) ∧
      (¬ haltWaits s n → (u.askDeferredHalt n).moment.asked = []) ∧ (u.askDeferredHalt n).moment.caused = [] ∧
      unchangedBut [.moment] u (u.askDeferredHalt n) := by
  have hwaits : u.haltAwaits n = true ↔ haltWaits s n := by rw [haltAwaits_iff, haltWaits, haltWaits, hcmd]
  have hnew := ask_new (s := u) (r := .command)
    (outstanding_of_lists (by rw [hasked]; exact List.not_mem_nil) (by rw [hcaused]; exact List.not_mem_nil))
  rw [State.askDeferredHalt]
  by_cases h : haltWaits s n
  · rw [if_pos (hwaits.mpr h)]
    refine ⟨fun _ => ?_, fun hno => absurd h hno, ?_, ask_frame u .command⟩
    · rw [hnew, hasked]; rfl
    · rw [hnew]; exact hcaused
  · rw [if_neg fun hyes => h (hwaits.mp hyes)]
    exact ⟨fun hyes => absurd hyes h, fun _ => hasked, hcaused, frame_refl _ u⟩

/-! ## Ingress grants (R88, R91, R98) -/

/-- The lane with the written words out of its FIFO and in its running statistics. -/
def withoutRun (l : Lane) (k : Nat) : Lane :=
  { l with
    fifo := l.fifo.drop k, inspecting := l.inspecting.map fun x => x.addAll ((l.fifo.take k).map FifoEntry.data) }

/-- The slot with the written words in it. -/
def withRun (r : Slot) (k : Nat) (lost : Bool) : Slot :=
  { r with length := r.length + k, flags := { r.flags with wordsLost := r.flags.wordsLost || lost } }

theorem takeWritten_spec {s b : State} {n : LaneId} (i : SlotId) {k : Nat} (hb : unchangedBut [.mem, .moment] s b)
    (hk : k ≤ (s.lane n).fifo.length) :
    let lost := ((s.lane n).fifo.take k).any FifoEntry.loss
    let t := b.takeWritten n i k
    (∀ m, t.lane m = if m = n then withoutRun (s.lane n) k else s.lane m) ∧
      (∀ j, t.slot j = if j = i then withRun (s.slot i) k lost else s.slot j) ∧
      raises (lossEvents s n i lost) s t ∧ unchangedBut [.slots, .lanes, .log, .irq] b t := by
  intro lost t
  have hwritten : (b.lane n).fifo.take k = (s.lane n).fifo.take k := by rw [frame_lane hb]
  have hlen : ((s.lane n).fifo.take k).length = k := by rw [List.length_take, Nat.min_eq_left hk]
  have ht : t = if lost then
      ((b.updLane n fun l => { l with
        fifo := l.fifo.drop k
        inspecting := l.inspecting.map fun x => x.addAll (((s.lane n).fifo.take k).map FifoEntry.data) }).updSlot i
          fun r => { r with length := r.length + k }).loseWordsOf n i
      else (b.updLane n fun l => { l with
        fifo := l.fifo.drop k
        inspecting := l.inspecting.map fun x => x.addAll (((s.lane n).fifo.take k).map FifoEntry.data) }).updSlot i
          fun r => { r with length := r.length + k } := by
    show b.takeWritten n i k = _
    simp only [State.takeWritten, hwritten, hlen, lost]
  clear_value t
  have htake := updLane_frame b n fun l => { l with
    fifo := l.fifo.drop k
    inspecting := l.inspecting.map fun x => x.addAll (((s.lane n).fifo.take k).map FifoEntry.data) }
  have htaken (m : LaneId) : (b.updLane n fun l => { l with
      fifo := l.fifo.drop k
      inspecting := l.inspecting.map fun x => x.addAll (((s.lane n).fifo.take k).map FifoEntry.data) }).lane m =
      if m = n then withoutRun (s.lane n) k else s.lane m := by
    rw [lane_updLane, frame_lane hb, frame_lane hb]; rfl
  generalize b.updLane n (fun l => { l with
    fifo := l.fifo.drop k
    inspecting := l.inspecting.map fun x => x.addAll (((s.lane n).fifo.take k).map FifoEntry.data) }) = u at *
  have hgrow := updSlot_frame u i fun r => { r with length := r.length + k }
  have hgrown (j : SlotId) : (u.updSlot i fun r => { r with length := r.length + k }).slot j =
      if j = i then { s.slot i with length := (s.slot i).length + k } else s.slot j := by
    rw [slot_updSlot, frame_slot htake, frame_slot htake, frame_slot hb, frame_slot hb]
  generalize u.updSlot i (fun r => { r with length := r.length + k }) = v at *
  have hbv := frame_comp (hs := [.slots, .lanes]) htake hgrow
  have hsv := frame_comp (hs := [.mem, .moment, .slots, .lanes]) hb hbv
  have hlanes (m : LaneId) := (frame_lane hgrow m).trans (htaken m)
  rw [ht]
  cases lost with
  | true =>
    rw [if_pos rfl]
    have hlose := loseWordsOf_frame v n i
    refine ⟨fun m => (frame_lane hlose m).trans (hlanes m), fun j => ?_, ?_, frame_comp hbv hlose⟩
    · rw [loseWordsOf_slot, hgrown, hgrown, if_pos rfl]
      by_cases hj : j = i
      · rw [if_pos hj, if_pos hj]; rfl
      · rw [if_neg hj, if_neg hj, if_neg hj]
    · exact loseWordsOf_raises hsv n (by rw [hgrown, if_pos rfl]; exact ⟨rfl, rfl⟩)
  | false =>
    rw [if_neg (by decide)]
    refine ⟨hlanes, fun j => ?_, ?_, frame_mono hbv (by decide)⟩
    · rw [hgrown, withRun, Bool.or_false]
    · have hnone : lossEvents s n i false = [] := if_neg fun h => Bool.noConfusion h.1
      rw [hnone]
      exact raises_start hsv

theorem rank_publish_lt_command : ∀ n : LaneId, Req.rank (.publish n) < Req.rank .command := by decide

/-- A publish goes before a command in the moment (R57). -/
theorem ask_publish_first {t : State} (n : LaneId) (hasked : t.moment.asked = [] ∨ t.moment.asked = [.command])
    (hcaused : t.moment.caused = []) :
    (t.ask (.publish n)).moment.asked = .publish n :: t.moment.asked ∧ (t.ask (.publish n)).moment.caused = [] := by
  have hnew : t.outstanding (.publish n) = false :=
    outstanding_of_lists (by rcases hasked with h | h <;> simp [h]) (by simp [hcaused])
  rw [ask_new hnew]
  refine ⟨?_, hcaused⟩
  rcases hasked with h | h
  · rw [h]; rfl
  · rw [h]
    exact if_pos (rank_publish_lt_command n)

theorem exec_ingressGrantEnd {s : State} {n : LaneId} {i : SlotId} {a k : Nat} (h : calm s)
    (hg : s.arb.grant = some ⟨.ingress n, a, k⟩) (hfit : a + k ≤ s.memWords) (hcur : (s.lane n).cur = some i) :
    let g : Grant := ⟨.ingress n, a, k⟩
    let t := (((ended s g).wroteGrant g).takeWritten n i k).closeGrant.askDeferredHalt n
    exec .ingressGrantEnd s = .next ((ended s g).heard
      (if ((s.lane n).fifo.take k).any FifoEntry.eof then t.ask (.publish n) else t.frameLogic .asking n)).arbitrate := by
  intro g t
  have hrow : exec .ingressGrantEnd s = .next ((ended s g).endIngressGrant n g) :=
    grantRow_calm (mine := fun c => c.ingressLane.isSome) h hg rfl hfit fun g s =>
      match g.who.ingressLane with
      | some n => s.endIngressGrant n g
      | none => s
  have hcur' : (((ended s g).wroteGrant g).lane n).cur = some i := hcur
  rw [hrow, State.endIngressGrant]
  simp only [hcur'] <;> rfl

/-- Settles O49: the words are written, the frame takes them in, and the publish is asked for or the frame logic goes on. -/
theorem ingressGrantWritesTheFrame : Obligations.IngressGrantWritesTheFrame := by
  intro s n i a k h hwf hg hfit hdir hcur hk l run lost
  have hexec := exec_ingressGrantEnd h hg hfit hcur
  have hb : unchangedBut [.mem, .moment] s ((ended s ⟨.ingress n, a, k⟩).wroteGrant ⟨.ingress n, a, k⟩) := by
    intro f hf; cases f <;> first | rfl | exact absurd (by decide) hf
  have hmem : ((ended s ⟨.ingress n, a, k⟩).wroteGrant ⟨.ingress n, a, k⟩).mem =
      s.mem.writeWords a (run.map FifoEntry.data) := rfl
  have hmoment : ((ended s ⟨.ingress n, a, k⟩).wroteGrant ⟨.ingress n, a, k⟩).moment = (ended s ⟨.ingress n, a, k⟩).moment := rfl
  have hempty : (ended s ⟨.ingress n, a, k⟩).moment.asked = [] ∧ (ended s ⟨.ingress n, a, k⟩).moment.caused = [] := ⟨rfl, rfl⟩
  dsimp only at hexec
  generalize ended s ⟨.ingress n, a, k⟩ = e at *
  generalize e.wroteGrant ⟨.ingress n, a, k⟩ = b at *
  obtain ⟨hlanes, hslots, hraises, htaken⟩ := takeWritten_spec (n := n) i hb hk
  generalize b.takeWritten n i k = u at *
  have hclose := closeGrant_frame u
  have harb : u.closeGrant.arb = { s.arb with grant := none } := by
    show { u.arb with grant := none } = _
    rw [(htaken .arb (by decide) : u.arb = b.arb), (hb .arb (by decide) : b.arb = s.arb)]
  have hbv := frame_comp (hs := [.slots, .lanes, .log, .irq, .arb]) htaken hclose
  generalize u.closeGrant = v at *
  have hvmoment : v.moment = e.moment := (hbv .moment (by decide)).trans hmoment
  obtain ⟨hwaits, hno, hcaused, hhalt⟩ := askDeferredHalt_spec (s := s) n
    ((hbv .cmd (by decide)).trans (hb .cmd (by decide))) (by rw [hvmoment]; exact hempty.1) (by rw [hvmoment]; exact hempty.2)
  have hbt := frame_comp (hs := [.slots, .lanes, .log, .irq, .arb, .moment]) hbv hhalt
  have hst := frame_comp (hs := [.mem, .arb, .slots, .lanes, .log, .irq, .moment]) hb hbt
  have htlane (m : LaneId) : (v.askDeferredHalt n).lane m = if m = n then withoutRun l k else s.lane m :=
    (frame_lane hhalt m).trans ((frame_lane hclose m).trans (hlanes m))
  have htslot (j : SlotId) : (v.askDeferredHalt n).slot j = if j = i then withRun (s.slot i) k lost else s.slot j :=
    (frame_slot hhalt j).trans ((frame_slot hclose j).trans (hslots j))
  have htraises := raises_frame (raises_frame hraises hclose) hhalt
  have htarb : (v.askDeferredHalt n).arb = { s.arb with grant := none } := (hhalt .arb (by decide)).trans harb
  have htmem : (v.askDeferredHalt n).mem = s.mem.writeWords a (run.map FifoEntry.data) := (hbt .mem (by decide)).trans hmem
  generalize v.askDeferredHalt n = t at *
  obtain ⟨hread, hother⟩ := written_spec htmem hwf
  have hlen : (run.map FifoEntry.data).length = k := by rw [List.length_map, List.length_take, Nat.min_eq_left hk]
  have hspec : (∀ (j : Nat) (e : FifoEntry), j < k → l.fifo[j]? = some e → t.mem.read (a + j) = ⟨e.data, 0⟩) := by
    intro j x hj hx
    refine hread j x.data ?_
    rw [List.getElem?_map, List.getElem?_take_of_lt hj, hx]; rfl
  have htn : t.lane n = withoutRun l k := (htlane n).trans (if_pos rfl)
  have hto : otherLanes n s t := fun m hm => (htlane m).trans (if_neg hm)
  have hti : otherSlots i s t := fun j hj => (htslot j).trans (if_neg hj)
  refine ⟨t, _, hexec, ⟨hspec, hlen ▸ hother, htarb, htn, hto, (htslot i).trans (if_pos rfl), hti, htraises, hwaits, hno,
    hcaused, hst⟩, ?_⟩
  cases heof : run.any FifoEntry.eof with
  | true =>
    rw [if_pos rfl]
    have hask : unchangedBut [.moment] t (e.heard (t.ask (.publish n))) :=
      frame_trans (ask_frame t _) (heard_frame e _)
    obtain ⟨hasked, hkept⟩ := ask_publish_first n (by
      by_cases hw : haltWaits s n
      · exact .inr (hwaits hw)
      · exact .inl (hno hw)) hcaused
    refine ⟨fun _ => ⟨?_, ?_, hask⟩, nofun, hask .mem (by decide), (hask .arb (by decide)).trans htarb,
      fun m hm => (frame_lane hask m).trans (hto m hm), fun j hj => (frame_slot hask j).trans (hti j hj), frame_comp hst hask⟩
    · rw [heard_asked]; exact hasked
    · rw [heard_eq]; exact hkept
  | false =>
    rw [if_neg (by decide)]
    have hkept := frameLogic_kept t .asking n
    have hheard := heard_frame e (t.frameLogic .asking n)
    have hframe := frame_comp (hs := [.slots, .lanes, .log, .irq, .moment]) hkept.frame hheard
    refine ⟨nofun, fun _ => goesOn_heard .asking n e t, hframe .mem (by decide), (hframe .arb (by decide)).trans htarb,
      fun m hm => (frame_lane hheard m).trans ((hkept.others m hm).trans (hto m hm)), fun j hj => ?_, frame_comp hst hframe⟩
    rw [frame_slot hheard, hkept.slots j, hti j hj]
    rw [htn]
    exact fun hc => hj (Option.some.inj (hc.symm.trans hcur))

/-! ## Egress grants (R110) -/

theorem exec_egressGrantEnd {s : State} {n : LaneId} {a k : Nat} (flips : List Flip) (h : calm s)
    (hg : s.arb.grant = some ⟨.egress n, a, k⟩) (hfit : a + k ≤ s.memWords) :
    let m := s.mem.disturb s.memWords flips
    let rs := m.readWords a k
    let u := atMoment (afterReads s m (.lane n) rs) (ended s ⟨.egress n, a, k⟩).moment
    exec (.egressGrantEnd flips) s =
      .next (((u.updLane n fun l => l.fetchedWords rs).closeGrant.askDeferredHalt n).arbitrate) := by
  intro m rs u
  have hrow : exec (.egressGrantEnd flips) s =
      .next ((ended s ⟨.egress n, a, k⟩).endEgressGrant n ⟨.egress n, a, k⟩ flips) :=
    grantRow_calm (mine := fun c => c.egressLane.isSome) h hg rfl hfit fun g s =>
      match g.who.egressLane with
      | some n => s.endEgressGrant n g flips
      | none => s
  rw [hrow, State.endEgressGrant, ended_beforeMark h]
  have hreads := ended_reads s ⟨.egress n, a, k⟩ (.lane n) m rs
  show Host.Outcome.next (State.arbitrate (State.askDeferredHalt (State.closeGrant (State.updLane (State.eccReport
    { ended s ⟨.egress n, a, k⟩ with mem := m } (.lane n) rs) n fun l => l.fetchedWords rs)) n)) = _
  rw [hreads]

/-- Settles O50: the words that an egress grant has read. -/
theorem egressGrantFetchesTheFrame : Obligations.EgressGrantFetchesTheFrame := by
  intro s n a k flips h hg hfit m rs t
  have hexec := exec_egressGrantEnd flips h hg hfit
  have hmoment := atMoment_frame t (ended s ⟨.egress n, a, k⟩).moment
  have hempty : (atMoment t (ended s ⟨.egress n, a, k⟩).moment).moment.asked = [] ∧
    (atMoment t (ended s ⟨.egress n, a, k⟩).moment).moment.caused = [] := ⟨rfl, rfl⟩
  have hreads : unchangedBut [.mem, .ecc, .slots, .lanes, .hostFree, .log, .irq] s t := afterReads_frame s m (.lane n) rs
  have hlen : rs.length = k := length_readWords m a k
  change exec (.egressGrantEnd flips) s = .next (State.arbitrate (State.askDeferredHalt (State.closeGrant (State.updLane
    (atMoment t (ended s ⟨.egress n, a, k⟩).moment) n fun l => l.fetchedWords rs)) n)) at hexec
  clear_value t rs
  generalize atMoment t (ended s ⟨.egress n, a, k⟩).moment = u at *
  have hfetch := updLane_frame u n fun l => l.fetchedWords rs
  have hlanes (k : LaneId) : (u.updLane n fun l => l.fetchedWords rs).lane k =
      if k = n then (t.lane n).fetchedWords rs else t.lane k := by
    rw [lane_updLane, frame_lane hmoment, frame_lane hmoment]
  generalize u.updLane n (fun l => l.fetchedWords rs) = v at *
  have hclose := closeGrant_frame v
  have harb : v.closeGrant.arb = { s.arb with grant := none } := by
    show { v.arb with grant := none } = _
    rw [(hfetch .arb (by decide) : v.arb = u.arb), (hmoment .arb (by decide) : u.arb = t.arb),
      (hreads .arb (by decide) : t.arb = s.arb)]
  have hvframe := frame_comp (hs := [.lanes, .arb]) hfetch hclose
  have hclanes (k : LaneId) := (frame_lane hclose k).trans (hlanes k)
  generalize v.closeGrant = w at *
  have hwmoment : w.moment = u.moment := hvframe .moment (by decide)
  have hwcmd : w.cmd = s.cmd :=
    (hvframe .cmd (by decide)).trans ((hmoment .cmd (by decide)).trans (hreads .cmd (by decide)))
  obtain ⟨hwaits, hno, hcaused, hhalt⟩ := askDeferredHalt_spec n hwcmd (by rw [hwmoment]; exact hempty.1)
    (by rw [hwmoment]; exact hempty.2)
  refine ⟨_, hexec, ?_, fun m hm => ?_, (hhalt .arb (by decide)).trans harb, hwaits, hno, hcaused,
    frame_comp (frame_comp (hs := [.lanes, .arb, .moment]) hmoment hvframe) hhalt⟩
  · rw [frame_lane hhalt, hclanes, if_pos rfl, Lane.fetchedWords, hlen]
  · rw [frame_lane hhalt, hclanes, if_neg hm]

end Sys2Proof.Proofs
end

section
/-! PROOFS. Sending, triggers and the outputs of a lane (R100, R105, R106, R109 to R112). -/

set_option Elab.async false

namespace Sys2Proof.Proofs

open Sys2Proof.Machine Sys2Proof.Safety Sys2Proof.Laws

/-! ## The word on offer (R100) -/

theorem offered_sending {s : State} {n : LaneId} {e : FifoEntry} {more : List FifoEntry} (hdir : (s.lane n).cfg.dir = .egress)
    (hmoving : (s.lane n).moving = true) (hsub : (s.lane n).sub = .sending) (hf : (s.lane n).fifo = e :: more) :
    s.offered n = some ⟨e.data, (s.lane n).sent == 0, (s.lane n).sent + 1 == (s.lane n).frameLen, e.err⟩ := by
  simp only [State.offered, hdir, hmoving, hsub, hf, and_self, if_true]

theorem offered_filling {s : State} {n : LaneId} (hdir : (s.lane n).cfg.dir = .egress) (hmoving : (s.lane n).moving = true)
    (hsub : (s.lane n).sub = .sendingFill) :
    s.offered n = some ⟨(s.lane n).fillWord, (s.lane n).fillSent == 0,
      (s.lane n).fillSent + 1 == (s.lane n).fillLength, false⟩ := by
  simp only [State.offered, hdir, hmoving, hsub, and_self, if_true]

theorem offered_none {s : State} {n : LaneId} (h : ¬ ((s.lane n).cfg.dir = .egress ∧ (s.lane n).moving = true) ∨
    (s.lane n).sub ≠ .sendingFill ∧ ((s.lane n).sub ≠ .sending ∨ (s.lane n).fifo = [])) : s.offered n = none := by
  unfold State.offered
  dsimp only
  split
  next hsends =>
    obtain ⟨hfill, hsend⟩ := h.resolve_left (not_not_intro hsends)
    cases hsub : (s.lane n).sub with
    | sendingFill => exact absurd hsub hfill
    | sending =>
      have hf := hsend.resolve_left (not_not_intro hsub)
      simp only [hf]
    | _ => rfl
  next => rfl

/-! ## A word sent (R110) -/

/-- The lane with the word at its FIFO head sent, the frame's end left out. -/
def sentLane (l : Lane) (e : FifoEntry) (more : List FifoEntry) : Lane :=
  { l with
    fifo := more, sent := l.sent + 1, checking := l.checking.map fun c => crcWord c e.data
    counters := { l.counters with eccWords := if e.err then plus l.counters.eccWords 1 else l.counters.eccWords } }

/-- A word of a slot frame sent, and the return that the last one requests. -/
theorem send_word {t : State} {n : LaneId} {e : FifoEntry} {more : List FifoEntry} (hdir : (t.lane n).cfg.dir = .egress)
    (hmoving : (t.lane n).moving = true) (hsub : (t.lane n).sub = .sending) (hf : (t.lane n).fifo = e :: more) :
    let l := t.lane n
    let last := l.sent + 1 = l.frameLen
    (t.send n).lane n = { sentLane l e more with sub := if last then .closing else .sending } ∧
      otherLanes n t (t.send n) ∧
      ((t.send n).outstanding (.ret n) = true ↔ last ∨ t.outstanding (.ret n) = true) ∧
      unchangedBut [.moment, .lanes] t (t.send n) := by
  intro l last
  have hnot : ¬ (t.lane n).sub = .sendingFill := by rw [hsub]; decide
  have hsend : t.send n = (
      let u := t.updLane n fun l => l.sentWord ⟨e.data, (t.lane n).sent == 0, (t.lane n).sent + 1 == (t.lane n).frameLen, e.err⟩
      let u := if e.err then u.count n fun c => { c with eccWords := satInc c.eccWords } else u
      if (t.lane n).sent + 1 == (t.lane n).frameLen then (u.updLane n fun l => { l with sub := .closing }).ask (.ret n)
      else u) := by
    unfold State.send
    simp only [offered_sending hdir hmoving hsub hf, if_neg hnot]
  rw [hsend]
  dsimp only
  have htake := updLane_frame t n fun l =>
    l.sentWord ⟨e.data, (t.lane n).sent == 0, (t.lane n).sent + 1 == (t.lane n).frameLen, e.err⟩
  have htaken (m : LaneId) := lane_updLane t n m fun l =>
    l.sentWord ⟨e.data, (t.lane n).sent == 0, (t.lane n).sent + 1 == (t.lane n).frameLen, e.err⟩
  generalize (t.updLane n fun l =>
    l.sentWord ⟨e.data, (t.lane n).sent == 0, (t.lane n).sent + 1 == (t.lane n).frameLen, e.err⟩) = u at *
  have hcounted (m : LaneId) : (if e.err then u.count n fun c => { c with eccWords := satInc c.eccWords } else u).lane m =
      if m = n then sentLane l e more else t.lane m := by
    by_cases hm : m = n
    · subst hm
      cases herr : e.err
      · simp only [Bool.false_eq_true, if_false, if_true, htaken, Lane.sentWord, sentLane, herr, l, hf, List.drop_one, List.tail_cons]
      · simp only [if_true, State.count, lane_updLane, htaken, Lane.sentWord, sentLane, herr, satInc_eq, l, hf, List.drop_one,
          List.tail_cons]
    · cases e.err
      · simp only [Bool.false_eq_true, if_false, if_neg hm, htaken]
      · simp only [if_true, State.count, lane_updLane, if_neg hm, htaken]
  have hcount : unchangedBut [.lanes] u (if e.err then u.count n fun c => { c with eccWords := satInc c.eccWords } else u) := by
    split
    · exact count_frame u n _
    · exact frame_refl _ u
  generalize (if e.err then u.count n fun c => { c with eccWords := satInc c.eccWords } else u) = v at *
  have htv := frame_trans htake hcount
  by_cases hlast : last
  · have hbool : ((t.lane n).sent + 1 == (t.lane n).frameLen) = true := beq_iff_eq.mpr hlast
    rw [if_pos hbool, if_pos hlast]
    have hclose := updLane_frame v n fun l => { l with sub := .closing }
    have hask := ask_frame (v.updLane n fun l => { l with sub := .closing }) (.ret n)
    refine ⟨?_, fun m hm => ?_, ?_, frame_comp (frame_trans htv hclose) hask⟩
    · rw [frame_lane hask, lane_updLane, if_pos rfl, hcounted, if_pos rfl]
    · rw [frame_lane hask, lane_updLane, if_neg hm, hcounted, if_neg hm]
    · rw [outstanding_ask]; simp [hlast]
  · have hbool : ¬ ((t.lane n).sent + 1 == (t.lane n).frameLen) = true := fun h => hlast (beq_iff_eq.mp h)
    rw [if_neg hbool, if_neg hlast]
    refine ⟨?_, fun m hm => ?_, ?_, frame_mono htv (by decide)⟩
    · rw [hcounted, if_pos rfl, ← hsub]; rfl
    · rw [hcounted, if_neg hm]
    · rw [frame_outstanding htv]; simp [hlast]

/-! ## A fill word sent (R109) -/

theorem send_fill {t : State} {n : LaneId} (hdir : (t.lane n).cfg.dir = .egress) (hmoving : (t.lane n).moving = true)
    (hsub : (t.lane n).sub = .sendingFill) : t.send n =
      if (t.lane n).fillSent + 1 = (t.lane n).fillLength then (t.updLane n fun l => { l with fillSent := l.fillSent + 1 }).endFill n
      else t.updLane n fun l => { l with fillSent := l.fillSent + 1 } := by
  unfold State.send
  simp only [offered_filling hdir hmoving hsub, if_pos hsub, beq_iff_eq]

/-- The end of a fill frame. -/
theorem endFill_spec {s t : State} {n : LaneId} {l : Lane} (ht : unchangedBut [.moment, .lanes] s t) (hn : t.lane n = l)
    (ho : otherLanes n s t) :
    let counted : Lane := { l with counters := { l.counters with fills := plus l.counters.fills 1 } }
    (t.endFill n).lane n = frameOver counted ∧ otherLanes n s (t.endFill n) ∧
      (idleFreeRunner { counted with sub := .idle } = true → (t.endFill n).outstanding (.take n) = true) ∧
      raises ((if l.cfg.frameEvents then [laneEvent s n .fillSent none (l.fillLen.toNat + 1)] else []) ++
        (if l.st = .stopping then [laneEvent s n .laneStopped none 0] else [])) s (t.endFill n) ∧
      unchangedBut [.moment, .lanes, .log, .irq] s (t.endFill n) := by
  intro counted
  unfold State.endFill
  dsimp only
  have hcount := count_frame t n fun c => { c with fills := satInc c.fills }
  have hclane (m : LaneId) : (t.count n fun c => { c with fills := satInc c.fills }).lane m =
      if m = n then counted else s.lane m := by
    rw [State.count, lane_updLane]
    by_cases hm : m = n
    · rw [if_pos hm, if_pos hm, hn]; rfl
    · rw [if_neg hm, if_neg hm, ho m hm]
  generalize t.count n (fun c => { c with fills := satInc c.fills }) = u at *
  have hsu := frame_comp (hs := [.moment, .lanes]) ht hcount
  have hun : u.lane n = counted := (hclane n).trans (if_pos rfl)
  rw [hun]
  have hraises := raises_if (n := n) (kind := .fillSent) (slot := none) (detail := placed counted.fillLength 0)
    (k := l.fillLen.toNat + 1) (raises_start hsu) counted.cfg.frameEvents (hsu .tb (by decide)) (placed_zero_eq _)
  have hraise := raiseIf_frame u counted.cfg.frameEvents n .fillSent none (placed counted.fillLength 0)
  rw [List.nil_append] at hraises
  generalize (if counted.cfg.frameEvents then u.raiseLane n .fillSent none (placed counted.fillLength 0) else u) = v at *
  have hsv := frame_comp (hs := [.moment, .lanes, .log, .irq]) hsu hraise
  have hvlane (m : LaneId) := (frame_lane hraise m).trans (hclane m)
  have hvn : v.lane n = counted := (hvlane n).trans (if_pos rfl)
  obtain ⟨hwlane, hwtake, hwraises, hwframe⟩ := endEgressFrame_spec v n hraises (hsv .tb (by decide))
  rw [hvn] at hwlane hwtake hwraises
  refine ⟨(hwlane n).trans (if_pos rfl), fun m hm => ?_, hwtake, hwraises, frame_comp hsv hwframe⟩
  rw [hwlane, if_neg hm, hvlane, if_neg hm]

/-! ## Triggers (R105, R106) -/

/-- A lane that is quiet has no edge to wait for. -/
theorem beforeTrigger_calm {s : State} (h : calm s) (n : LaneId) : s.beforeTrigger n = s := by
  obtain ⟨_, _, hasked, hcaused⟩ := calm_facts h
  have hnone (q : Req) : s.outstanding q = false :=
    outstanding_of_lists (by rw [hasked]; exact List.not_mem_nil) (by rw [hcaused]; exact List.not_mem_nil)
  rw [State.beforeTrigger, hnone, hnone]; rfl

theorem exec_triggerEdge {s : State} (h : calm s) (n : LaneId) (level : Bool) : exec (.triggerEdge n level) s =
    .next ((openedBy s (.trigger n)).heard ((openedBy s (.trigger n)).sampleTrigger n level)) := by
  show Host.Outcome.next ((s.beforeTrigger n).laneRow (.trigger n) fun s => s.sampleTrigger n level) = _
  rw [beforeTrigger_calm h, laneRow_calm h]

theorem missTrigger_spec {s t : State} {n : LaneId} (ht : unchangedBut [.moment, .lanes] s t) (hcur : (t.lane n).cur = (s.lane n).cur)
    (hout : wordsOut (t.lane n) = wordsOut (s.lane n)) :
    (∀ m, (t.missTrigger n).lane m = if m = n then { t.lane n with
        counters := { (t.lane n).counters with triggersMissed := plus (t.lane n).counters.triggersMissed 1 } } else t.lane m) ∧
      raises [laneEvent s n .triggerMissed (s.lane n).cur (wordsOut (s.lane n))] s (t.missTrigger n) ∧
      unchangedBut [.lanes, .log, .irq] t (t.missTrigger n) := by
  unfold State.missTrigger
  dsimp only
  have hcount := count_frame t n fun c => { c with triggersMissed := satInc c.triggersMissed }
  have hraise := raiseLane_frame (t.count n fun c => { c with triggersMissed := satInc c.triggersMissed }) n .triggerMissed
    (t.lane n).cur (placed (t.lane n).wordsSent 0)
  refine ⟨fun m => (frame_lane hraise m).trans (lane_updLane t n m _), ?_, frame_comp hcount hraise⟩
  have hevents := raises_raiseLane (n := n) (kind := .triggerMissed) (slot := (t.lane n).cur)
    (detail := placed (t.lane n).wordsSent 0) (k := wordsOut (s.lane n)) (raises_frame (raises_start ht) hcount)
    ((hcount .tb (by decide)).trans (ht .tb (by decide))) (by rw [placed_zero_eq, wordsSent_eq, hout])
  rw [hcur, List.nil_append] at hevents
  rw [hcur]
  exact hevents

/-! ## The outputs (R100, R75) -/

theorem streamOut_egress {s : State} {n : LaneId} (hpin : s.rst.pinHeld = false) (hdir : (s.lane n).cfg.dir = .egress) :
    s.streamOut n =
      if (s.lane n).moving then
        match s.offered n with
        | some o => ⟨none, some true, some o.sof, some o.eof, some o.err, some o.data⟩
        | none => ⟨none, some false, none, none, none, none⟩
      else ⟨none, some false, some false, some false, some false, some 0⟩ := by
  simp only [State.streamOut, hpin, hdir, Bool.false_eq_true, if_false] <;> rfl

theorem exec_wordSent {s : State} (h : calm s) (n : LaneId) : exec (.wordSent n) s =
    .next ((openedBy s (.stream n)).heard ((openedBy s (.stream n)).send n)).arbitrate := by
  show Host.Outcome.next (s.laneRow (.stream n) fun s => s.send n).arbitrate = _
  rw [laneRow_calm h]

/-- The rows of a word that is sent. -/
theorem wordSent_spec (s : State) (n : LaneId) (h : calm s) :
    let l := s.lane n
    let sends := l.cfg.dir = .egress ∧ l.moving = true
    let sentRow := exec (.wordSent n) s
    (¬ sends ∨ l.sub ≠ .sendingFill ∧ (l.sub ≠ .sending ∨ l.fifo = []) →
      ∃ r, sentRow = .next r.arbitrate ∧ unchangedBut [.moment] s r ∧ r.moment.asked = []) ∧
      (∀ e more, sends → l.sub = .sending → l.fifo = e :: more →
        let last := l.sent + 1 = l.frameLen
        ∃ r, sentRow = .next r.arbitrate ∧
          r.lane n = { l with
            fifo := more, sent := l.sent + 1, checking := l.checking.map fun c => crcWord c e.data
            sub := if last then .closing else .sending
            counters := { l.counters with
              eccWords := if e.err then plus l.counters.eccWords 1 else l.counters.eccWords } } ∧
          otherLanes n s r ∧ (r.outstanding (.ret n) = true ↔ last) ∧ unchangedBut [.moment, .lanes] s r) ∧
      (sends → l.sub = .sendingFill → l.fillSent + 1 ≠ l.fillLen.toNat + 1 →
        ∃ r, sentRow = .next r.arbitrate ∧ r.lane n = { l with fillSent := l.fillSent + 1 } ∧ otherLanes n s r ∧
          unchangedBut [.moment, .lanes] s r) ∧
      (sends → l.sub = .sendingFill → l.fillSent + 1 = l.fillLen.toNat + 1 →
        let counted : Lane := { l with
          fillSent := l.fillSent + 1, counters := { l.counters with fills := plus l.counters.fills 1 } }
        ∃ r, sentRow = .next r.arbitrate ∧
          r.lane n =
            (if l.st = .stopping then stoppedForm counted else takesAgain { counted with sub := .idle }) ∧
          otherLanes n s r ∧
          (l.st ≠ .stopping → idleFreeRunner { counted with sub := .idle } = true → r.outstanding (.take n) = true) ∧
          raises ((if l.cfg.frameEvents then [laneEvent s n .fillSent none (l.fillLen.toNat + 1)] else []) ++
            (if l.st = .stopping then [laneEvent s n .laneStopped none 0] else [])) s r ∧
          unchangedBut [.moment, .lanes, .log, .irq] s r) := by
  intro l sends sentRow
  have hrow : sentRow = _ := exec_wordSent h n
  have hopened := openedBy_frame s (.stream n)
  have hasked : (openedBy s (.stream n)).moment.asked = [] := rfl
  have hnone : (openedBy s (.stream n)).outstanding (.ret n) = false := rfl
  have hlane (m : LaneId) : (openedBy s (.stream n)).lane m = s.lane m := rfl
  generalize openedBy s (.stream n) = t at *
  have hheard (u : State) := heard_frame t u
  refine ⟨fun hno => ?_, fun e more ⟨hdir, hmoving⟩ hsub hf => ?_, fun ⟨hdir, hmoving⟩ hsub hmore => ?_,
    fun ⟨hdir, hmoving⟩ hsub hlast => ?_⟩
  · have hsend : t.send n = t := by
      simp only [State.send, offered_none (s := t) (n := n) (by rw [hlane]; exact hno)]
    rw [hsend] at hrow
    exact ⟨_, hrow, frame_trans hopened (hheard t), (heard_asked t t).trans hasked⟩
  · obtain ⟨hsent, hothers, hret, hframe⟩ := send_word (t := t) (n := n) (by rw [hlane]; exact hdir)
      (by rw [hlane]; exact hmoving) (by rw [hlane]; exact hsub) (by rw [hlane]; exact hf)
    simp only [hlane] at hsent hret
    refine ⟨_, hrow, (frame_lane (hheard _) n).trans hsent,
      fun m hm => (frame_lane (hheard _) m).trans ((hothers m hm).trans (hlane m)), ?_,
      frame_comp (frame_comp (hs := [.moment, .lanes]) hopened hframe) (hheard _)⟩
    rw [heard_outstanding, hret, hnone]
    exact or_iff_left (by decide)
  · have hsend := send_fill (t := t) (n := n) (by rw [hlane]; exact hdir) (by rw [hlane]; exact hmoving)
      (by rw [hlane]; exact hsub)
    rw [hlane, if_neg (show ¬ l.fillSent + 1 = l.fillLength from hmore)] at hsend
    rw [hsend] at hrow
    refine ⟨_, hrow, ?_, fun m hm => ?_,
      frame_comp (frame_comp (hs := [.moment, .lanes]) hopened (updLane_frame t n _)) (hheard _)⟩
    · rw [frame_lane (hheard _), lane_updLane, if_pos rfl, hlane]
    · rw [frame_lane (hheard _), lane_updLane, if_neg hm, hlane]
  · have hsend := send_fill (t := t) (n := n) (by rw [hlane]; exact hdir) (by rw [hlane]; exact hmoving)
      (by rw [hlane]; exact hsub)
    rw [hlane, if_pos (show l.fillSent + 1 = l.fillLength from hlast)] at hsend
    rw [hsend] at hrow
    obtain ⟨hrlane, hothers, htake, hraises, hframe⟩ := endFill_spec (n := n) (l := { l with fillSent := l.fillSent + 1 })
      (frame_comp (hs := [.moment, .lanes]) hopened (updLane_frame t n fun l => { l with fillSent := l.fillSent + 1 }))
      (by rw [lane_updLane, if_pos rfl, hlane]) (fun m hm => by rw [lane_updLane, if_neg hm, hlane])
    exact ⟨_, hrow, (frame_lane (hheard _) n).trans hrlane, fun m hm => (frame_lane (hheard _) m).trans (hothers m hm),
      fun _ hidle => (heard_outstanding t _ _).trans (htake hidle), raises_frame hraises (hheard _),
      frame_comp hframe (hheard _)⟩

/-- The rows of a trigger's sample. -/
theorem triggerEdge_spec (s : State) (n : LaneId) (h : calm s) (level : Bool) :
    let l := s.lane n
    let sends := l.cfg.dir = .egress ∧ l.moving = true
    let edge := level = true ∧ l.trig = false
    let edgeRow := exec (.triggerEdge n level) s
    (¬ (edge ∧ sends ∧ l.cfg.triggered = true) →
      ∃ t, edgeRow = .next t ∧ t.lane n = { l with trig := level } ∧ otherLanes n s t ∧
        unchangedBut [.moment, .lanes] s t) ∧
      (edge → sends → l.cfg.triggered = true → l.st = .running → l.sub = .idle →
        ∃ t, edgeRow = .next t ∧ t.lane n = { l with trig := true, sub := .taking } ∧ otherLanes n s t ∧
          t.outstanding (.take n) = true ∧ unchangedBut [.moment, .lanes] s t) ∧
      (edge → sends → l.cfg.triggered = true → ¬ (l.st = .running ∧ l.sub = .idle) →
        ∃ t, edgeRow = .next t ∧
          t.lane n = { l with
            trig := true, counters := { l.counters with triggersMissed := plus l.counters.triggersMissed 1 } } ∧
          otherLanes n s t ∧ raises [laneEvent s n .triggerMissed l.cur (wordsOut l)] s t ∧
          unchangedBut [.moment, .lanes, .log, .irq] s t) := by
  intro l sends edge edgeRow
  have hrow : edgeRow = _ := exec_triggerEdge h n level
  have hopened := openedBy_frame s (.trigger n)
  have hlane (m : LaneId) : (openedBy s (.trigger n)).lane m = s.lane m := rfl
  generalize openedBy s (.trigger n) = t at *
  have hheard (u : State) := heard_frame t u
  have hsample : t.sampleTrigger n level =
      let u := t.updLane n fun l => { l with trig := level }
      if (level && !l.trig) = true ∧ l.cfg.dir = .egress ∧ l.cfg.triggered = true ∧ l.moving = true then
        if l.st = .running ∧ l.sub = .idle then (u.updLane n fun l => { l with sub := .taking }).ask (.take n)
        else u.missTrigger n
      else u := by
    simp only [State.sampleTrigger, hlane]; rfl
  have hedge : (level && !l.trig) = true ↔ edge := by rw [Bool.and_eq_true, Bool.not_eq_true']
  simp only [hedge] at hsample
  have hmark := updLane_frame t n fun l => { l with trig := level }
  have hmarked (m : LaneId) := lane_updLane t n m fun l => { l with trig := level }
  simp only [hlane] at hmarked
  generalize t.updLane n (fun l => { l with trig := level }) = u at *
  have hsu := frame_comp (hs := [.moment, .lanes]) hopened hmark
  refine ⟨fun hno => ?_, fun hed ⟨hdir, hmoving⟩ htrig hrun hidle => ?_, fun hed ⟨hdir, hmoving⟩ htrig hbusy => ?_⟩
  · rw [if_neg fun ⟨hed, hdir, htrig, hmoving⟩ => hno ⟨hed, ⟨hdir, hmoving⟩, htrig⟩] at hsample
    rw [hsample] at hrow
    exact ⟨_, hrow, (frame_lane (hheard u) n).trans ((hmarked n).trans (if_pos rfl)),
      fun m hm => (frame_lane (hheard u) m).trans ((hmarked m).trans (if_neg hm)), frame_comp hsu (hheard u)⟩
  · rw [if_pos ⟨hed, hdir, htrig, hmoving⟩, if_pos ⟨hrun, hidle⟩] at hsample
    rw [hsample] at hrow
    have htake := updLane_frame u n fun l => { l with sub := .taking }
    have hask := ask_frame (u.updLane n fun l => { l with sub := .taking }) (.take n)
    refine ⟨_, hrow, ?_, fun m hm => ?_, ?_,
      frame_comp (frame_comp (hs := [.moment, .lanes]) (frame_comp (hs := [.moment, .lanes]) hsu htake) hask) (hheard _)⟩
    · rw [frame_lane (hheard _), frame_lane hask, lane_updLane, if_pos rfl, hmarked, if_pos rfl, hed.1]
    · rw [frame_lane (hheard _), frame_lane hask, lane_updLane, if_neg hm, hmarked, if_neg hm]
    · rw [heard_outstanding, outstanding_ask]; simp
  · rw [if_pos ⟨hed, hdir, htrig, hmoving⟩, if_neg hbusy] at hsample
    rw [hsample] at hrow
    have hun : u.lane n = { l with trig := level } := (hmarked n).trans (if_pos rfl)
    obtain ⟨hmlane, hmraises, hmframe⟩ := missTrigger_spec (n := n) hsu (by rw [hun]) (by rw [hun]; rfl)
    refine ⟨_, hrow, ?_, fun m hm => ?_, raises_frame hmraises (hheard _),
      frame_comp (frame_comp (hs := [.moment, .lanes, .log, .irq]) hsu hmframe) (hheard _)⟩
    · rw [frame_lane (hheard _), hmlane, if_pos rfl, hun, hed.1]
    · rw [frame_lane (hheard _), hmlane, if_neg hm, hmarked, if_neg hm]

/-- Settles O56: a word sent, a trigger sampled, and the outputs. -/
theorem sendingAndTriggers : Obligations.SendingAndTriggers := by
  intro s n h l sends sentRow
  have hpin : s.rst.pinHeld = false := h.2
  refine ⟨wordSent_spec s n h, triggerEdge_spec s n h, fun e more ⟨hdir, hmoving⟩ hsub hf => ?_, fun ⟨hdir, hmoving⟩ hsub => ?_,
    fun ⟨hdir, hmoving⟩ hempty hfill => ?_, fun hdir hmoving => ?_⟩
  · rw [streamOut_egress hpin hdir, if_pos hmoving, offered_sending hdir hmoving hsub hf]
  · rw [streamOut_egress hpin hdir, if_pos hmoving, offered_filling hdir hmoving hsub]
    have hend : (l.fillSent + 1 == l.fillLength) = (l.fillSent == l.fillLen.toNat) := by
      rw [Bool.eq_iff_iff, beq_iff_eq, beq_iff_eq, Lane.fillLength]
      omega
    exact congrArg (fun b => (⟨none, some true, some (l.fillSent == 0), some b, some false, some l.fillWord⟩ : StreamOut)) hend
  · have hnone := offered_none (s := s) (n := n) (.inr ⟨hfill, Decidable.not_or_of_imp hempty⟩)
    rw [streamOut_egress hpin hdir, if_pos hmoving, hnone]
  · rw [streamOut_egress hpin hdir, if_neg (by rw [show (s.lane n).moving = false from hmoving]; decide)]

end Sys2Proof.Proofs
end

section
/-! PROOFS. The four kinds of reset (R8, R45, R74, R167, R174 to R177). -/

set_option Elab.async false

namespace Sys2Proof.Proofs

open Sys2Proof.Machine Sys2Proof.Safety Sys2Proof.Laws

/-! ## What a reset leaves (R176) -/

theorem afterReset_lane (s : State) (kind : ResetKind) (n : LaneId) :
    (s.afterReset kind).lane n = Lane.reset (s.lane n).trig := by
  simp only [State.lane, State.afterReset, Vector.get_eq_getElem, Vector.getElem_map]

theorem afterReset_slot (s : State) (kind : ResetKind) (i : SlotId) : (s.afterReset kind).slot i = Slot.unassigned := by
  simp only [State.slot, State.afterReset, State.blank, Vector.get_eq_getElem, Vector.getElem_replicate]

theorem afterReset_shadow (s : State) (kind : ResetKind) (k : Fin 9) : (s.afterReset kind).slotPort.shadow.get k = 0 := by
  simp only [State.afterReset, State.blank, Vector.get_eq_getElem, Vector.getElem_replicate]

/-- The supervisor's configuration at its defaults. -/
def supDefaults (p : Supervisor) : Prop := p.warn = 0 ∧ p.action = .eventOnly ∧ p.safeFill = false ∧ p.timeout = 1000

theorem afterReset_sup (p : Supervisor) (part : Part) (kind : ResetKind) : supDefaults (p.afterReset (State.blank part).sup kind) := by
  cases kind <;> exact ⟨rfl, rfl, rfl, rfl⟩

theorem counted_keeps (p : Supervisor) : (counted p).warn = p.warn ∧ (counted p).action = p.action ∧
    (counted p).safeFill = p.safeFill ∧ (counted p).timeout = p.timeout ∧ (counted p).st = p.st ∧
    (counted p).counter = p.counter ∧ (counted p).safeMode = p.safeMode := by
  unfold counted
  split <;> exact ⟨rfl, rfl, rfl, rfl, rfl, rfl, rfl⟩

/-- Every field as a reset leaves it, but for those that a response, SUPEN and RESET_RECORD then touch. -/
theorem afterReset_defaults {s r : State} {kind : ResetKind}
    (h : unchangedBut [.port, .sup, .log, .irq, .rst, .mem, .sweep] (s.afterReset kind) r) (hsup : supDefaults r.sup)
    (hport : r.port.waiting = none ∧ r.port.stallCount = 0 ∧ r.port.stallLimit = 64 ∧ r.port.resetArm = false ∧
      r.port.abt = s.port.abt)
    (hirq : r.irq.enable = 0 ∧ r.irq.prio = 0 ∧ r.irq.stack = [])
    (hlog : r.log.enable = 0 ∧ r.log.lost = 0 ∧ r.log.overflow = 0 ∧ r.log.wordSel = 0) : resetDefaults s r := by
  have hecc : r.ecc = (s.afterReset kind).ecc := h .ecc (by decide)
  have hport' : r.slotPort = (s.afterReset kind).slotPort := h .slotPort (by decide)
  have htb : r.tb = (s.afterReset kind).tb := h .tb (by decide)
  have hlane (n : LaneId) : r.lane n = Lane.reset (s.lane n).trig := (frame_lane h n).trans (afterReset_lane s kind n)
  obtain ⟨hwarn, haction, hfill, htimeout⟩ := hsup
  obtain ⟨hwait, hcount, hlimit, harm, habt⟩ := hport
  obtain ⟨henable, hprio, hstack⟩ := hirq
  obtain ⟨hlenable, hlost, hoverflow, hword⟩ := hlog
  refine ⟨h .part (by decide), h .pending (by decide), h .power (by decide), h .moment (by decide), by rw [hecc]; rfl,
    by rw [hecc]; rfl, by rw [hecc]; rfl, by rw [hecc]; rfl, by rw [hecc]; rfl, h .scrub (by decide), h .arb (by decide),
    fun i => (frame_slot h i).trans (afterReset_slot s kind i), h .hostFree (by decide), by rw [hport']; rfl,
    by rw [hport']; rfl, fun k => by rw [hport', afterReset_shadow], fun n => ?_, h .win (by decide), h .cmd (by decide),
    h .eng (by decide), henable, hprio, hstack, hlenable, hlost, hoverflow, hword, by rw [htb]; rfl, by rw [htb]; rfl, hwarn,
    haction, hfill, htimeout, hwait, hcount, hlimit, harm, habt⟩
  rw [hlane]
  exact ⟨rfl, rfl, rfl, rfl, rfl, rfl, rfl, rfl, rfl, rfl, rfl, rfl, rfl, rfl, rfl, rfl, rfl, rfl, rfl⟩

/-! ## The memory of a cut grant (R45) -/

/-- The word that a cut write grant has written at its access `j`. -/
def cutWord (s : State) (g : Grant) (j : Nat) : Option Word :=
  match g.who, s.eng.cmd with
  | .ingress n, _ => (s.lane n).fifo[j]?.map FifoEntry.data
  | .winWrite, _ => s.win.buffer[j]?.map Prod.snd
  | .copyWrite, _ => s.eng.held[j]?
  | .fill, some (.fill _ _ pattern step) => some (pattern + BitVec.ofNat 32 (s.eng.wordsDone + j) * step)
  | _, _ => none

/-- The words that a cut grant has written, one by one. -/
theorem wordsWritten_spec (s : State) (g : Grant) (k : Nat) :
    (s.wordsWritten g k).length ≤ k ∧ ∀ j < k, (s.wordsWritten g k)[j]? = cutWord s g j := by
  have hmap {α : Type} (l : List α) (f : α → Word) : ((l.take k).map f).length ≤ k ∧
      ∀ j < k, ((l.take k).map f)[j]? = l[j]?.map f := by
    refine ⟨?_, fun j hj => ?_⟩
    · rw [List.length_map, List.length_take]; exact Nat.min_le_left ..
    · rw [List.getElem?_map, List.getElem?_take_of_lt hj]
  have hnone : ([] : List Word).length ≤ k ∧ ∀ j < k, ([] : List Word)[j]? = none :=
    ⟨Nat.zero_le _, fun _ _ => List.getElem?_nil⟩
  unfold State.wordsWritten cutWord
  cases hw : g.who with
  | ingress n => exact hmap _ _
  | winWrite => exact hmap _ _
  | copyWrite =>
    refine ⟨?_, fun j hj => List.getElem?_take_of_lt hj⟩
    dsimp only
    rw [List.length_take]; exact Nat.min_le_left ..
  | fill =>
    cases hc : s.eng.cmd with
    | none => exact hnone
    | some c =>
      cases c with
      | fill dst count pattern step =>
        refine ⟨?_, fun j hj => ?_⟩
        · dsimp only; rw [fillWords, List.length_map, List.length_range]
        · dsimp only; rw [fillWords, List.getElem?_map, List.getElem?_range hj]; rfl
      | copy | measure => exact hnone
  | egress | winRead | copyRead | measure | scrub => exact hnone

theorem mem_correctedOf {m : Memory} {a k : Nat} {w : WordRead} (h : w ∈ correctedOf (m.readWords a k)) :
    ∃ j < k, w = ⟨a + j, (m.read (a + j)).outcome, (m.read (a + j)).delivered⟩ ∧ (m.read (a + j)).outcome = .corrected := by
  obtain ⟨hw, hc⟩ := List.mem_filter.mp h
  obtain ⟨j, hj, rfl⟩ := List.mem_map.mp hw
  exact ⟨j, List.mem_range.mp hj, rfl, beq_iff_eq.mp hc⟩

/-- The memory that a cut grant leaves: what it has written or corrected, and nothing else. -/
theorem memoryAfter_spec {s : State} (hwf : Memory.wf s.mem = true) (g : Grant) (k : Nat) :
    (∀ b, b < g.addr ∨ g.addr + k ≤ b → (s.memoryAfter g k).read b = s.mem.read b) ∧
      ∀ j < k, (s.memoryAfter g k).read (g.addr + j) =
        match cutWord s g j with
        | some w => ⟨w, 0⟩
        | none =>
          if g.who = .scrub ∧ (s.mem.read (g.addr + j)).outcome = .corrected then
            ⟨(s.mem.read (g.addr + j)).delivered, 0⟩
          else s.mem.read (g.addr + j) := by
  by_cases hs : g.who = .scrub
  · have hmem : s.memoryAfter g k = s.mem.writeBack (s.mem.readWords g.addr k) := by simp only [State.memoryAfter, hs]
    have hword (j : Nat) : cutWord s g j = none := by simp only [cutWord, hs]
    refine ⟨fun b hb => ?_, fun j hj => ?_⟩
    · rw [hmem]
      refine read_writeBack_other _ _ b fun w hw => ?_
      obtain ⟨j, hj, rfl, _⟩ := mem_correctedOf hw
      dsimp only
      omega
    · rw [hmem, hword]
      dsimp only
      by_cases hc : (s.mem.read (g.addr + j)).outcome = .corrected
      · rw [if_pos ⟨hs, hc⟩]
        have hmem' : (⟨g.addr + j, (s.mem.read (g.addr + j)).outcome, (s.mem.read (g.addr + j)).delivered⟩ : WordRead) ∈
            correctedOf (s.mem.readWords g.addr k) :=
          List.mem_filter.mpr ⟨List.mem_map.mpr ⟨j, List.mem_range.mpr hj, rfl⟩, beq_iff_eq.mpr hc⟩
        exact read_writeBack hwf g.addr k _ hmem'
      · rw [if_neg fun h => hc h.2]
        refine read_writeBack_other _ _ _ fun w hw heq => ?_
        obtain ⟨i, _, rfl, hi⟩ := mem_correctedOf hw
        exact hc (Nat.add_left_cancel heq ▸ hi)
  · have hmem : s.memoryAfter g k = s.mem.writeWords g.addr (s.wordsWritten g k) := by
      unfold State.memoryAfter
      cases hw : g.who <;> first | rfl | exact absurd hw hs
    obtain ⟨hlen, hget⟩ := wordsWritten_spec s g k
    obtain ⟨hread, hother⟩ := written_spec (r := { s with mem := s.memoryAfter g k }) hmem hwf
    refine ⟨fun b hb => hother b (by omega), fun j hj => ?_⟩
    have hj' := hget j hj
    cases hword : cutWord s g j with
    | some w => exact hread j w (hj'.trans hword)
    | none =>
      rw [hword, List.getElem?_eq_none_iff] at hj'
      dsimp only
      rw [if_neg fun h => hs h.1]
      exact hother _ (.inr (by omega))

/-! ## The request that the host holds asserted (R8) -/

theorem acceptAsked_none {s : State} (h : s.port.askedFor = none) : s.acceptAsked = s := by
  simp only [State.acceptAsked, h]

theorem acceptAsked_some {s : State} {a : Access} (h : s.port.askedFor = some a) :
    s.acceptAsked = (State.openFor { s with port := { s.port with askedFor := none } } a).transact a := by
  simp only [State.acceptAsked, h]

/-- A read carries no data. -/
theorem read_data (s : State) (addr : BitVec 8) (d : Word) :
    (s.openFor ⟨addr, false, d⟩).transact ⟨addr, false, d⟩ = (s.openFor ⟨addr, false, 0⟩).transact ⟨addr, false, 0⟩ := by
  have hopen : s.openFor ⟨addr, false, d⟩ = s.openFor ⟨addr, false, 0⟩ := by
    simp only [State.openFor, State.requestsAtOnce, Bool.false_and]
  rw [hopen]
  generalize s.openFor ⟨addr, false, 0⟩ = t
  have hfails : t.accessFails ⟨addr, false, d⟩ = t.accessFails ⟨addr, false, 0⟩ := by
    simp only [State.accessFails, if_true]
  rw [State.transact, State.transact, hfails]
  cases t.accessFails ⟨addr, false, 0⟩ <;> rfl

/-- A host request of a quiet state is accepted at once. -/
theorem hostRow_accepts {r : State} (h : quiet r) (a : Access) : r.hostRow a = ((r.openFor a).transact a).arbitrate := by
  have hcalm := calm_of_quiet h
  have hopen : r.beforeHost a = r.openFor a := by
    rcases beforeHost_quiet h a with e | ⟨e, hr⟩
    · rw [e, State.freshMoment, settle_none h.1]
    · rw [e, State.openFor, hr, Bool.false_and, ← calm_openMoment hcalm]; rfl
  have hwaiting : (r.openFor a).port.waiting.isSome = false := by
    rw [show (r.openFor a).port = r.port from rfl, h.2.1]; rfl
  have haccepting : (r.openFor a).accepting = true := h.2.2
  simp only [State.hostRow, h.2.1, hopen, hwaiting, haccepting, Option.isSome_none, Bool.false_eq_true, if_false, if_true]

theorem exec_accessRow {r : State} (h : quiet r) (a : Access) :
    exec (accessRow a) r = .next ((r.openFor a).transact a).arbitrate := by
  obtain ⟨addr, write, d⟩ := a
  cases write with
  | true => exact congrArg Host.Outcome.next (hostRow_accepts h _)
  | false => rw [read_data]; exact congrArg Host.Outcome.next (hostRow_accepts h _)

/-- A reset that completes into a quiet state accepts the request that waits for it. -/
theorem accepts_asked {q r : State} {a : Access} (h : q.port.askedFor = some a) (hr : quiet r)
    (hfree : ({ q with port := { q.port with askedFor := none } } : State) = r) :
    (Host.Outcome.next q.acceptAsked.arbitrate : Answer) = exec (accessRow a) r := by
  rw [exec_accessRow hr, acceptAsked_some h, hfree]

/-- Nothing is due of a state whose moment is empty, with no reset due and no window that closes. -/
theorem quiet_of {r : State} (hmoment : r.moment = Moment.empty) (hrst : r.rst.pinHeld = false ∧ r.rst.supDue = false ∧
    r.rst.softDue = false) (hclosing : r.closingDue = false) (hwaiting : r.port.waiting = none) : quiet r := by
  obtain ⟨hpin, hsup, hsoft⟩ := hrst
  have hready : r.resetReady = false := by
    rw [State.resetReady, State.resetHolds, hsup, hsoft]; simp
  refine ⟨?_, hwaiting, by rw [State.accepting, hpin, hsoft]; rfl⟩
  rw [State.nextDue, hpin, hclosing, hready, hmoment]; rfl

/-! ## Power-on reset (R174) -/

/-- The state as a power-on reset leaves it, with no request asserted. -/
def powered (s : State) (supen : Bool) : State := ((s.afterReset .por).sampleSupen supen).recordReset

theorem exec_powerOnReset (s : State) (supen : Bool) :
    exec (.powerOnReset supen) s = .next (powered s supen).acceptAsked.arbitrate := rfl

theorem powered_defaults (s : State) (supen : Bool) : resetDefaults s (powered s supen) := by
  refine afterReset_defaults (kind := .por) ?_ ⟨rfl, rfl, rfl, rfl⟩ ⟨rfl, rfl, rfl, rfl, rfl⟩ ⟨rfl, rfl, rfl⟩ ⟨rfl, rfl, rfl, rfl⟩
  intro f hf; cases f <;> first | rfl | exact absurd (by decide) hf

theorem powered_quiet (s : State) (supen : Bool) : quiet (powered s supen) :=
  quiet_of rfl ⟨rfl, rfl, rfl⟩ (by cases supen <;> rfl) rfl

/-! ## Pin reset (R45, R174) -/

theorem exec_pinReset {s : State} {cut : Nat} (hpin : s.rst.pinHeld = false)
    (hfit : ∀ g, s.arb.grant = some g → g.addr + g.count ≤ s.memWords) : exec (.pinReset cut) s = .next (s.pinLow cut) := by
  have hfits : s.cutFits = true := by
    unfold State.cutFits
    cases hg : s.arb.grant with
    | none => rfl
    | some g => exact decide_eq_true (hfit g hg)
  show execPinReset cut s = _
  rw [execPinReset, if_neg (by rw [hpin]; decide), if_pos hfits]

theorem pinLow_eq (s : State) (cut : Nat) : s.pinLow cut =
    { s.afterReset .pin with
      rst := ⟨.pin, s.rst.supCount, true, false, false⟩
      mem := match s.arb.grant with
        | none => s.mem
        | some g => s.memoryAfter g (min cut g.count) } := by
  unfold State.pinLow State.cutGrant
  cases s.arb.grant <;> rfl

theorem pinLow_defaults (s : State) (cut : Nat) : resetDefaults s (s.pinLow cut) := by
  rw [pinLow_eq]
  refine afterReset_defaults (kind := .pin) ?_ ⟨rfl, rfl, rfl, rfl⟩ ⟨rfl, rfl, rfl, rfl, rfl⟩ ⟨rfl, rfl, rfl⟩ ⟨rfl, rfl, rfl, rfl⟩
  intro f hf; cases f <;> first | rfl | exact absurd (by decide) hf

theorem pinLow_mem {s : State} {cut : Nat} {g : Grant} (hg : s.arb.grant = some g) :
    (s.pinLow cut).mem = s.memoryAfter g (min cut g.count) := by
  rw [pinLow_eq]
  simp only [hg]

/-- The state as a part held in reset leaves it as RSTN returns high, with no request asserted. -/
def released (s : State) (supen : Bool) : State :=
  (State.sampleSupen { s with rst := { s.rst with pinHeld := false } } supen).recordReset

theorem exec_rstnRelease {s : State} (supen : Bool) (hpin : s.rst.pinHeld = true) :
    exec (.rstnRelease supen) s = .next (released s supen).acceptAsked.arbitrate :=
  congrArg Host.Outcome.next (if_pos hpin)

/-- Settles O57: power-on, the fall and the rise of RSTN, and the request held through them. -/
theorem powerOnAndPinReset : Obligations.PowerOnAndPinReset := by
  refine ⟨fun s supen hasked => ?_, fun s cut hpin hfit => ?_, fun s supen hpin hasked => ?_, fun s supen a hasked => ?_⟩
  · refine ⟨powered s supen, ?_, powered_defaults s supen, rfl, rfl, rfl, rfl, rfl, rfl, rfl, rfl, rfl, rfl, rfl, rfl⟩
    rw [exec_powerOnReset, acceptAsked_none (s := powered s supen) hasked]
  · refine ⟨s.pinLow cut, exec_pinReset hpin hfit, pinLow_defaults s cut,
      congrArg State.mem (pinLow_eq s cut), fun hwf g hg => ?_, ?_⟩
    · intro k word
      rw [pinLow_mem hg]
      exact memoryAfter_spec hwf g k
    · rw [pinLow_eq]
      exact ⟨rfl, rfl, rfl, rfl, rfl, rfl, rfl, rfl⟩
  · refine ⟨released s supen, ?_, rfl, rfl, ⟨rfl, rfl⟩, rfl, ?_⟩
    · rw [exec_rstnRelease supen hpin, acceptAsked_none (s := released s supen) hasked]
    · intro f hf; cases f <;> first | rfl | exact absurd (by decide) hf
  · intro free
    refine ⟨⟨powered free supen, ?_, ⟨rfl, rfl⟩, powered_quiet free supen, ?_⟩,
      fun hpin hsup hsoft hmoment hwaiting => ⟨released free supen, ?_, ⟨rfl, rfl⟩, ?_, ?_⟩⟩
    · rw [exec_powerOnReset, acceptAsked_none (s := powered free supen) rfl]
    · rw [exec_powerOnReset]
      exact accepts_asked (q := powered s supen) hasked (powered_quiet free supen) rfl
    · rw [exec_rstnRelease (s := free) supen hpin, acceptAsked_none (s := released free supen) rfl]
    · exact quiet_of hmoment ⟨rfl, hsup, hsoft⟩ (by cases supen <;> rfl) hwaiting
    · rw [exec_rstnRelease supen hpin]
      exact accepts_asked (q := released s supen) hasked
        (quiet_of hmoment ⟨rfl, hsup, hsoft⟩ (by cases supen <;> rfl) hwaiting) rfl

/-! ## Supervisor and soft reset (R174 to R177) -/

/-- The row of the reset that is due. -/
def resetRow (s : State) : Instr := if s.rst.supDue then .supervisorReset else .softReset

theorem exec_resetRow {s : State} (h : s.nextDue = some .reset) :
    exec (resetRow s) s = .next (s.innerReset s.dueReset).arbitrate := by
  have hserve : s.serviceRow .reset = (s.innerReset s.dueReset).arbitrate := serviceRow_due h
  rw [← hserve, resetRow]
  cases hdue : s.rst.supDue
  · show execSoftReset s = _
    rw [execSoftReset, State.dueReset, hdue]; rfl
  · show execSupervisorReset s = _
    rw [execSupervisorReset, State.dueReset, hdue]; rfl

/-- The state as the reset that is due leaves it, with no transaction waiting and no request asserted. -/
def renewed (s : State) : State := (s.afterReset s.dueReset).recordReset

theorem innerReset_free {s : State} (h : s.port.waiting = none) : s.innerReset s.dueReset = (renewed s).acceptAsked := by
  simp only [State.innerReset, h]; rfl

theorem innerReset_waiting {s : State} {w : Wait} (h : s.port.waiting = some w) :
    s.innerReset s.dueReset = ((renewed s).respondErr .reset w.access).acceptAsked := by
  simp only [State.innerReset, h]; rfl

/-- What a supervisor or soft reset keeps, and what it leaves of the supervisor and the reset cause, but for the window. -/
def keptByReset (s r : State) : Prop :=
  r.mem = s.mem ∧ r.sweep = s.sweep ∧ r.port.lock = s.port.lock ∧ r.tb.count = s.tb.count ∧ resetRecorded r ∧
    if s.rst.supDue then
      r.rst = ⟨.sup, BitVec.ofNat 8 (min 255 (s.rst.supCount.toNat + 1)), false, false, false⟩ ∧
        r.sup.st = .running ∧ r.sup.counter = 0 ∧ r.sup.safeMode = false ∧ r.sup.windowCount = 0
    else
      r.rst = ⟨.soft, s.rst.supCount, false, false, false⟩ ∧ r.sup.st = s.sup.st ∧ r.sup.counter = s.sup.counter ∧
        r.sup.safeMode = s.sup.safeMode

theorem renewed_keeps (s : State) : keptByReset s (renewed s) := by
  unfold keptByReset renewed State.dueReset
  cases s.rst.supDue
  · exact ⟨rfl, rfl, rfl, rfl, ⟨rfl, rfl⟩, rfl, rfl, rfl, rfl⟩
  · exact ⟨rfl, rfl, rfl, rfl, ⟨rfl, rfl⟩, rfl, rfl, rfl, rfl, rfl⟩

theorem renewed_frame (s : State) :
    unchangedBut [.port, .sup, .log, .irq, .rst, .mem, .sweep] (s.afterReset s.dueReset) (renewed s) := by
  intro f hf; cases f <;> first | rfl | exact absurd (by decide) hf

theorem renewed_defaults (s : State) : resetDefaults s (renewed s) :=
  afterReset_defaults (renewed_frame s) (afterReset_sup s.sup s.part s.dueReset) ⟨rfl, rfl, rfl, rfl, rfl⟩ ⟨rfl, rfl, rfl⟩
    ⟨rfl, rfl, rfl, rfl⟩

/-- The window of a supervisor that a soft reset keeps is the one that was open. -/
theorem renewed_window {s : State} (h : s.rst.supDue = false) :
    (renewed s).sup.st = s.sup.st ∧ (renewed s).sup.windowCount = s.sup.windowCount := by
  unfold renewed State.dueReset
  rw [h]
  exact ⟨rfl, rfl⟩

theorem renewed_quiet {s : State} (h : s.nextDue = some .reset) : quiet (renewed s) := by
  have hclosing : s.closingDue = false := by
    rw [State.nextDue] at h
    split at h
    · cases h
    · split at h
      · cases h
      · next hc => exact Bool.eq_false_iff.mpr hc
  refine quiet_of rfl ⟨rfl, rfl, rfl⟩ ?_ rfl
  cases hdue : s.rst.supDue
  · obtain ⟨hst, hcount⟩ := renewed_window hdue
    rw [State.closingDue, hst, hcount]; exact hclosing
  · rw [State.closingDue, renewed, State.dueReset, hdue]; rfl

/-- With the log enables off, an event of a group leaves the records as they stand, wherever it is held. -/
theorem raise_unlogged {s : State} {e : Event} {g : Group} (hg : e.group = some g) (hk : e.kind ≠ .commandDone)
    (h : s.log.enable = 0) :
    (s.raise e).log.records = s.log.records ∧ (s.raise e).log.nextSeq = s.log.nextSeq ∧ (s.raise e).log.enable = 0 ∧
      (s.raise e).log.lost = s.log.lost ∧ (s.raise e).log.overflow = s.log.overflow ∧
      (s.raise e).log.wordSel = s.log.wordSel := by
  cases hc : s.closingDue with
  | true => rw [raise_closing e hc]; exact ⟨rfl, rfl, h, rfl, rfl, rfl⟩
  | false =>
    rw [raise_log hg hc, offer_log hg hk, if_pos (by rw [h]; exact BitVec.getLsbD_zero)]
    exact ⟨rfl, rfl, h, rfl, rfl, rfl⟩

/-- The HOST flag alone. -/
theorem setFlag_host : Irq.setFlag ⟨0, 0, 0, []⟩ 6 = ⟨64, 0, 0, []⟩ := by
  have hflags : (0 ||| groupBit 6 : BitVec 8) = 64 := by decide
  rw [Irq.setFlag, hflags]

/-- The end of a waiting transaction at a reset: what it adds to the state that the reset leaves. -/
theorem renewed_respondErr (s : State) (a : Access) :
    let r := (renewed s).respondErr .reset a
    r.port = { (renewed s).port with
      waiting := none, stallCount := 0, resp := .err, rdata := if a.write then none else some 0
      err := ⟨some .reset, a.addr, a.write, false, 1⟩ } ∧
      r.sup = counted (renewed s).sup ∧ r.irq = ⟨64, 0, 0, []⟩ ∧
      (r.log.records = (renewed s).log.records ∧ r.log.nextSeq = (renewed s).log.nextSeq ∧ r.log.enable = 0 ∧
        r.log.lost = 0 ∧ r.log.overflow = 0 ∧ r.log.wordSel = 0) ∧
      unchangedBut [.port, .sup, .log, .irq] (renewed s) r := by
  obtain ⟨hport, hsup, -, hframe⟩ := respondErr_spec (renewed s) .reset a
  refine ⟨hport, hsup, ?_, ?_, hframe⟩
  · rw [respondErr_eq, raise_irq rfl]; exact setFlag_host
  · rw [respondErr_eq]
    exact raise_unlogged rfl nofun rfl

theorem renewed_respondErr_keeps (s : State) (a : Access) : keptByReset s ((renewed s).respondErr .reset a) := by
  obtain ⟨hport, hsup, -, ⟨hrecords, hseq, -⟩, hframe⟩ := renewed_respondErr s a
  obtain ⟨hmem, hsweep, hlock, htb, ⟨hrec, hnext⟩, hrst⟩ := renewed_keeps s
  obtain ⟨-, -, -, -, hst, hcounter, hsafe⟩ := counted_keeps (renewed s).sup
  dsimp only at hport hsup
  generalize (renewed s).respondErr .reset a = r at hport hsup hrecords hseq hframe
  have htb' : r.tb = (renewed s).tb := hframe .tb (by decide)
  have hrst' : r.rst = (renewed s).rst := hframe .rst (by decide)
  refine ⟨(hframe .mem (by decide)).trans hmem, (hframe .sweep (by decide)).trans hsweep, by rw [hport]; exact hlock,
    by rw [htb', htb], ⟨by rw [hrecords, hrec, htb', hrst'], hseq.trans hnext⟩, ?_⟩
  rw [hsup, hst, hcounter, hsafe, hrst']
  split at hrst
  · next hdue =>
    obtain ⟨hcause, hrunning, hzero, hnormal, hwindow⟩ := hrst
    rw [if_pos hdue, counted_running (by rw [hrunning]; exact nofun)]
    exact ⟨hcause, hrunning, hzero, hnormal, hwindow⟩
  · next hdue => rw [if_neg hdue]; exact hrst

theorem renewed_respondErr_defaults (s : State) (a : Access) : resetDefaults s ((renewed s).respondErr .reset a) := by
  obtain ⟨hport, hsup, hirq, ⟨-, -, henable, hlost, hoverflow, hword⟩, hframe⟩ := renewed_respondErr s a
  obtain ⟨hwarn, haction, hfill, htimeout⟩ := afterReset_sup s.sup s.part s.dueReset
  obtain ⟨kwarn, kaction, kfill, ktimeout, -⟩ := counted_keeps (renewed s).sup
  refine afterReset_defaults (frame_trans (renewed_frame s) (frame_mono hframe (by decide))) ?_ ?_ ?_
    ⟨henable, hlost, hoverflow, hword⟩
  · rw [hsup]
    exact ⟨kwarn.trans hwarn, kaction.trans haction, kfill.trans hfill, ktimeout.trans htimeout⟩
  · rw [hport]; exact ⟨rfl, rfl, rfl, rfl, rfl⟩
  · rw [hirq]; exact ⟨rfl, rfl, rfl⟩

theorem exec_reset_free {s : State} (hdue : s.nextDue = some .reset) (hwaiting : s.port.waiting = none)
    (hasked : s.port.askedFor = none) : exec (resetRow s) s = .next (renewed s).arbitrate := by
  rw [exec_resetRow hdue, innerReset_free hwaiting, acceptAsked_none (s := renewed s) hasked]

/-- Settles O58: both kinds of inner reset leave the renewed state, with the response to a transaction that waited and the
acceptance of a request that was held. -/
theorem supervisorAndSoftReset : Obligations.SupervisorAndSoftReset := by
  refine ⟨fun s hdue hasked => ⟨fun hwaiting => ?_, fun w hwaiting => ?_⟩, fun s a hdue hwaiting hasked => ?_⟩
  · have hexec := exec_reset_free hdue hwaiting hasked
    obtain ⟨hmem, hsweep, hlock, htb, hrecorded, hrst⟩ := renewed_keeps s
    refine ⟨renewed s, ⟨hexec, renewed_defaults s, hmem, hsweep, hlock, htb, hrecorded, ?_⟩, rfl, rfl⟩
    split at hrst
    · next hsup => rw [if_pos hsup]; exact hrst
    · next hsup =>
      obtain ⟨hcause, hst, hcounter, hsafe⟩ := hrst
      rw [if_neg hsup]
      exact ⟨hcause, hst, hcounter, hsafe, fun _ => (renewed_window (Bool.eq_false_iff.mpr hsup)).2⟩
  · obtain ⟨hport, -, hirq, -⟩ := renewed_respondErr s w.access
    have hask : ((renewed s).respondErr .reset w.access).port.askedFor = none := by rw [hport]; exact hasked
    have hexec : exec (resetRow s) s = .next ((renewed s).respondErr .reset w.access).arbitrate := by
      rw [exec_resetRow hdue, innerReset_waiting hwaiting, acceptAsked_none hask]
    obtain ⟨hmem, hsweep, hlock, htb, hrecorded, hrst⟩ := renewed_respondErr_keeps s w.access
    refine ⟨_, ⟨hexec, renewed_respondErr_defaults s w.access, hmem, hsweep, hlock, htb, hrecorded, ?_⟩, by rw [hport],
      by rw [hport], by rw [hirq]⟩
    split at hrst
    · next hsup => rw [if_pos hsup]; exact hrst
    · next hsup =>
      obtain ⟨hcause, hst, hcounter, hsafe⟩ := hrst
      rw [if_neg hsup]
      exact ⟨hcause, hst, hcounter, hsafe, nofun⟩
  · have hfree : ({ s with port := { s.port with askedFor := none } } : State).nextDue = some .reset := hdue
    obtain ⟨-, -, -, -, hrecorded, -⟩ := renewed_keeps { s with port := { s.port with askedFor := none } }
    refine ⟨_, exec_reset_free hfree hwaiting rfl, hrecorded, renewed_quiet hfree, ?_⟩
    refine (exec_resetRow hdue).trans ?_
    rw [innerReset_free hwaiting]
    exact accepts_asked (q := renewed s) hasked (renewed_quiet hfree) rfl

end Sys2Proof.Proofs
end

section
/-! PROOFS. The idle step (R4, R5, R25, R57, R165, R166): what is served next, and the device clock. -/

set_option Elab.async false

namespace Sys2Proof.Proofs

open Sys2Proof.Machine Sys2Proof.Safety Sys2Proof.Laws

/-! ## The requests of a moment (R57) -/

/-- The requests that occurrences make, in the order of R57. -/
def servingOrder : List Req :=
  laneList.map .publish ++ laneList.map .ret ++ laneList.map .take ++ laneList.map .allocate ++ [.command, .snapshot]

theorem servingOrder_ranked : servingOrder.Pairwise fun q r => q.rank < r.rank := by decide

/-- A request joins a part of a ranked list in its place. -/
theorem insertReq_sublist {r : Req} {l order : List Req} (hranked : order.Pairwise fun q r => q.rank < r.rank)
    (hsub : l.Sublist order) (hr : r ∈ order) (hnew : r ∉ l) : (insertReq r l).Sublist order := by
  induction hsub with
  | slnil => cases hr
  | @cons l xs x hsub ih =>
    obtain ⟨hbefore, hranked⟩ := List.pairwise_cons.mp hranked
    rcases List.mem_cons.mp hr with rfl | hr
    · have hplace : insertReq r l = r :: l := by
        cases l with
        | nil => rfl
        | cons q qs => rw [insertReq, if_pos (hbefore q (hsub.subset (List.mem_cons_self ..)))]
      rw [hplace]
      exact hsub.cons_cons r
    · exact (ih hranked hr hnew).cons x
  | @cons_cons l xs x hsub ih =>
    obtain ⟨hbefore, hranked⟩ := List.pairwise_cons.mp hranked
    rw [List.mem_cons, not_or] at hnew
    obtain ⟨hne, hnew⟩ := hnew
    have hr : r ∈ xs := (List.mem_cons.mp hr).resolve_left hne
    rw [insertReq, if_neg (Nat.lt_asymm (hbefore r hr))]
    exact (ih hranked hr hnew).cons_cons x

theorem ask_spec {s : State} {r : Req} (hnew : s.outstanding r = false) (hr : r ∈ servingOrder)
    (hsub : s.moment.asked.Sublist servingOrder) :
    (s.ask r).moment.asked.Sublist servingOrder ∧ (∀ q, q ∈ (s.ask r).moment.asked ↔ q = r ∨ q ∈ s.moment.asked) ∧
      (s.ask r).moment.caused = s.moment.caused ∧ unchangedBut [.moment] s (s.ask r) := by
  have hout : r ∉ s.moment.asked := fun h => by
    rw [(outstanding_iff s r).mpr (.inl h)] at hnew
    cases hnew
  refine ⟨?_, fun q => ?_, by rw [ask_new hnew], ask_frame s r⟩
  · rw [ask_new hnew]; exact insertReq_sublist servingOrder_ranked hsub hr hout
  · rw [ask_new hnew]; exact mem_insertReq r q _

/-- What is served next, with no window closing and no reset ready. -/
theorem nextDue_moment {s : State} (hpin : s.rst.pinHeld = false) (hclosing : s.closingDue = false)
    (hready : s.resetReady = false) : s.nextDue = (s.moment.asked ++ s.moment.caused).head?.map .req := by
  rw [State.nextDue, hpin, hclosing, hready]
  cases s.moment.asked with
  | cons r rs => rfl
  | nil => cases s.moment.caused <;> rfl

/-- What is served leaves the other requests as they stood. -/
theorem begun_left {s : State} {r : Req} (h : s.nextDue = some (.req r)) :
    begun s = { s with moment := ⟨(requestsLeft s).1, (requestsLeft s).2, [], false⟩ } := by
  obtain ⟨-, -, -, ⟨rest, hasked⟩ | ⟨hasked, rest, hcaused⟩⟩ := nextDue_req h
  · simp only [begun, Moment.popped, requestsLeft, hasked]
  · simp only [begun, Moment.popped, requestsLeft, hasked, hcaused, List.tail_cons]

theorem step_due {s : State} {d : Due} (hidle : s.pending = []) (h : s.nextDue = some d) : step s = .next (s.serveDue d) := by
  simp only [step, hidle, State.idle, h]

/-- The rows of the requests. -/
theorem step_req {s : State} {r : Req} {row : Instr} {n : LaneId} (hidle : s.pending = [])
    (h : s.nextDue = some (.req r))
    (hrow : (r, row) ∈ [(Req.publish n, Instr.publish n), (.ret n, .ret n), (.take n, .take n), (.allocate n, .allocate n),
      (.snapshot, .snapshot), (.supWarning, .supWarning), (.supExpired, .supExpired), (.scrubRequest, .scrubRequest)]) :
    step s = exec row s := by
  have hexec : exec row s = .next (s.serviceRow (.req r)) := by
    simp only [List.mem_cons, List.not_mem_nil, or_false, Prod.mk.injEq] at hrow
    rcases hrow with ⟨rfl, rfl⟩ | ⟨rfl, rfl⟩ | ⟨rfl, rfl⟩ | ⟨rfl, rfl⟩ | ⟨rfl, rfl⟩ | ⟨rfl, rfl⟩ | ⟨rfl, rfl⟩ | ⟨rfl, rfl⟩ <;>
      rfl
  rw [hexec, serviceRow_due h, step_due hidle h]

/-! ## A device clock: the init sweep (R25) -/

theorem scrubRaise_frame (s : State) : unchangedBut [.scrub] s s.scrubRaise := by
  rw [scrubRaise_eq]; intro f hf; cases f <;> first | rfl | exact absurd (by decide) hf

/-- The last word of the sweep: what it writes, and the end of the sweep. -/
theorem finishSweep_spec (s : State) : s.finishSweep.sweep = ⟨false, 0, true⟩ ∧
    s.finishSweep.mem = s.mem.zeroFrom s.sweep.next s.memWords ∧
    unchangedBut [.mem, .sweep, .log, .irq, .scrub] s s.finishSweep := by
  have hswept : unchangedBut [.mem, .sweep] s
      { s with mem := s.mem.zeroFrom s.sweep.next s.memWords, sweep := ⟨false, 0, true⟩ } := by
    intro f hf; cases f <;> first | rfl | exact absurd (by decide) hf
  have htail (u : State) (e : Event) : unchangedBut [.log, .irq, .scrub] u (u.raise e).scrubRaise :=
    frame_comp (raise_frame u e) (scrubRaise_frame _)
  exact ⟨htail _ _ .sweep (by decide), htail _ _ .mem (by decide), frame_comp hswept (htail _ _)⟩

theorem sweepWord_spec (s : State) :
    s.sweepWord.sweep =
        (if s.sweep.next + 1 < s.memWords then { s.sweep with next := s.sweep.next + 1 } else ⟨false, 0, true⟩) ∧
      (Memory.wf s.mem = true → s.sweep.next < s.memWords →
        s.sweepWord.mem.read s.sweep.next = ⟨0, 0⟩ ∧ otherWords s.sweep.next 1 s s.sweepWord) ∧
      unchangedBut [.mem, .sweep, .log, .irq, .scrub] s s.sweepWord := by
  by_cases hmore : s.sweep.next + 1 < s.memWords
  · rw [State.sweepWord, if_pos hmore, if_pos hmore]
    refine ⟨rfl, fun hwf _ => ⟨read_write_same _ _ _ hwf, fun b hb => read_write_other _ _ _ _ (by omega)⟩, ?_⟩
    intro f hf; cases f <;> first | rfl | exact absurd (by decide) hf
  · obtain ⟨hsweep, hmem, hframe⟩ := finishSweep_spec s
    rw [State.sweepWord, if_neg hmore, if_neg hmore]
    refine ⟨hsweep, fun _ hin => ⟨?_, fun b hb => ?_⟩, hframe⟩
    · rw [hmem, read_zeroFrom, if_pos ⟨Nat.le_refl _, hin⟩]
    · rw [hmem, read_zeroFrom, if_neg (by omega)]

theorem clockSweep_frame (s : State) : unchangedBut [.mem, .sweep, .log, .irq, .scrub, .arb, .win] s s.clockSweep := by
  unfold State.clockSweep
  split
  · obtain ⟨-, -, hframe⟩ := sweepWord_spec s
    exact frame_comp hframe (arbitrate_frame _)
  · exact frame_refl _ s

theorem clockSweep_running {s : State} (h : s.sweeping = true) :
    s.clockSweep.sweep =
        (if s.sweep.next + 1 < s.memWords then { s.sweep with next := s.sweep.next + 1 } else ⟨false, 0, true⟩) ∧
      (Memory.wf s.mem = true → s.sweep.next < s.memWords →
        s.clockSweep.mem.read s.sweep.next = ⟨0, 0⟩ ∧ otherWords s.sweep.next 1 s s.clockSweep) := by
  obtain ⟨hsweep, hmem, -⟩ := sweepWord_spec s
  have harb := arbitrate_frame s.sweepWord
  rw [State.clockSweep, if_pos h]
  unfold otherWords at hmem ⊢
  rw [show s.sweepWord.arbitrate.sweep = s.sweepWord.sweep from harb .sweep (by decide),
    show s.sweepWord.arbitrate.mem = s.sweepWord.mem from harb .mem (by decide)]
  exact ⟨hsweep, hmem⟩

theorem clockSweep_over {s : State} (h : s.sweep.running = false) : s.clockSweep = s := by
  rw [State.clockSweep, State.sweeping, h]; rfl

/-! ## A device clock: the stall count (R4, R5) -/

theorem withdrawWait_frame (s : State) : unchangedBut [.win] s s.withdrawWait := by
  cases hw : s.port.waiting with
  | none => rw [State.withdrawWait, hw]; exact frame_refl _ s
  | some w => rw [withdrawWait_eq hw]; intro f hf; cases f <;> first | rfl | exact absurd (by decide) hf

theorem openMoment_frame (s : State) (src : List Source) : unchangedBut [.moment] s (s.openMoment src) := by
  intro f hf; cases f <;> first | rfl | exact absurd (by decide) hf

/-- A wait that times out ends as a refused access does. -/
theorem timeOut_spec {s : State} {w : Wait} (hw : s.port.waiting = some w) (hlimit : s.port.stallLimit ≠ 0)
    (hstage : s.win.stage.isGranted = false) :
    s.timeOut.port = { s.port with
      waiting := none, stallCount := 0, resp := .err, rdata := if w.access.write then none else some 0
      err := latched s.port.err .timeout w.access } ∧
      s.timeOut.sup = counted s.sup ∧ raises [hostErrorEvent s .timeout w.access] s s.timeOut := by
  have htimeOut : s.timeOut = (s.withdrawWait.respondErr .timeout w.access).openMoment [] := by
    rw [State.timeOut, if_neg hlimit, endWait_eq _ hw hstage]
  have hdraw := withdrawWait_frame s
  have hdport : s.withdrawWait.port = s.port := hdraw .port (by decide)
  have hdtb : s.withdrawWait.tb = s.tb := hdraw .tb (by decide)
  have hdsup : s.withdrawWait.sup = s.sup := hdraw .sup (by decide)
  obtain ⟨hport, hsup, hraises, -⟩ := respondErr_spec s.withdrawWait .timeout w.access
  rw [htimeOut]
  refine ⟨hport.trans (by rw [hdport]), hsup.trans (by rw [hdsup]), ?_⟩
  rw [hostErrorEvent, hdtb] at hraises
  exact raises_frame (raises_from hdraw hraises) (openMoment_frame _ _)

theorem timeOut_frame (s : State) : unchangedBut [.port, .win, .sup, .log, .irq, .moment] s s.timeOut := by
  unfold State.timeOut
  split
  · exact frame_refl _ s
  · unfold State.endWait
    split
    · exact frame_refl _ s
    · split
      · exact frame_refl _ s
      · exact frame_comp (frame_comp (withdrawWait_frame s) (respondErr_frame _ _ _) (hs := [.port, .win, .sup, .log, .irq]))
          (openMoment_frame _ _)

/-- A transaction that waits, with its stall count moved on. -/
def stalled (s : State) : State := { s with port := { s.port with stallCount := s.port.stallCount + 1 } }

theorem stalled_frame (s : State) : unchangedBut [.port] s (stalled s) := by
  intro f hf; cases f <;> first | rfl | exact absurd (by decide) hf

theorem clockStall_none {s : State} (h : s.port.waiting = none) : s.clockStall = s := by
  rw [State.clockStall, h]; rfl

theorem clockStall_waiting {s : State} {w : Wait} (h : s.port.waiting = some w) : s.clockStall =
    if 16 * s.port.stallLimit.toNat ≤ s.port.stallCount + 1 then (stalled s).timeOut else stalled s := by
  rw [State.clockStall, h]; rfl

theorem clockStall_frame (s : State) : unchangedBut [.port, .win, .sup, .log, .irq, .moment] s s.clockStall := by
  cases hw : s.port.waiting with
  | none => rw [clockStall_none hw]; exact frame_refl _ s
  | some w =>
    rw [clockStall_waiting hw]
    split
    · exact frame_comp (stalled_frame s) (timeOut_frame _)
    · exact frame_mono (stalled_frame s) (by decide)

/-- The wait ends at this device clock. -/
def waitEnds (s : State) : Prop :=
  s.port.stallLimit ≠ 0 ∧ 16 * s.port.stallLimit.toNat ≤ s.port.stallCount + 1 ∧ s.win.stage.isGranted = false

theorem clockStall_stays {s : State} {w : Wait} (hw : s.port.waiting = some w) (h : ¬ waitEnds s) :
    s.clockStall = stalled s := by
  rw [clockStall_waiting hw]
  split
  · next hcount =>
    unfold State.timeOut
    split
    · rfl
    · next hlimit =>
      have hstage : s.win.stage.isGranted = true := by
        cases hg : s.win.stage.isGranted with
        | true => rfl
        | false => exact absurd ⟨hlimit, hcount, hg⟩ h
      have hwait : (stalled s).port.waiting = some w := hw
      have hgranted : (stalled s).win.stage.isGranted = true := hstage
      rw [State.endWait, hwait]
      simp only [hgranted, if_true]
  · rfl

theorem clockStall_ends {s : State} {w : Wait} (hw : s.port.waiting = some w) (h : waitEnds s) :
    s.clockStall.port = { s.port with
      waiting := none, stallCount := 0, resp := .err, rdata := if w.access.write then none else some 0
      err := latched s.port.err .timeout w.access } ∧
      s.clockStall.sup = counted s.sup ∧ raises [hostErrorEvent s .timeout w.access] s s.clockStall := by
  obtain ⟨hlimit, hcount, hstage⟩ := h
  rw [clockStall_waiting hw, if_pos hcount]
  obtain ⟨hport, hsup, hraises⟩ := timeOut_spec (s := stalled s) (w := w) hw hlimit hstage
  exact ⟨hport, hsup, raises_from (stalled_frame s) hraises⟩

/-! ## A device clock: the timebase (R165) -/

theorem clockWindow_frame (s : State) : unchangedBut [.sup, .log, .irq] s s.clockWindow := by
  unfold State.clockWindow
  split
  · exact closeWindow_frame s
  · exact frame_refl _ s

theorem clockWindow_open {s : State} (h : s.closingDue = false) : s.clockWindow = s := by
  rw [State.clockWindow, if_neg (by rw [h]; decide)]

theorem causeOfTick_frame (s : State) : unchangedBut [.moment] s s.causeOfTick := by
  have hcause (t : State) (c : Bool) (r : Req) : unchangedBut [.moment] t (if c then t.cause r else t) := by
    split
    · exact cause_frame t r
    · exact frame_refl _ t
  exact frame_trans (frame_trans (hcause s _ _) (hcause _ _ _)) (hcause _ _ _)

/-- What a tick does to the supervisor and to the timebase. -/
theorem tick_spec {s : State} (h : s.timeRuns = true) :
    s.tick.tb = { s.tb with count := s.tb.count + 1, prescaleCount := 0 } ∧
      (∃ c, s.tick.sup = { s.sup with counter := c }) ∧ unchangedBut [.tb, .scrub, .sup, .moment] s s.tick := by
  rw [tick_eq h, tickScrubber_eq, tickSupervisor_eq]
  refine ⟨causeOfTick_frame _ .tb (by decide), ⟨_, causeOfTick_frame _ .sup (by decide)⟩, ?_⟩
  refine frame_comp (fs := [.tb, .scrub, .sup]) ?_ (causeOfTick_frame _)
  intro f hf; cases f <;> first | rfl | exact absurd (by decide) hf

theorem clockTimebase_eq (s : State) : s.clockTimebase =
    if s.timeRuns = true then
      if s.tb.prescale ≤ s.tb.prescaleCount + 1 then
        State.tick { s with tb := { s.tb with prescaleCount := s.tb.prescaleCount + 1 } }
      else { s with tb := { s.tb with prescaleCount := s.tb.prescaleCount + 1 } }
    else s := rfl

theorem clockTimebase_spec (s : State) (hpin : s.rst.pinHeld = false) :
    s.clockTimebase.tb = (if s.power = .retain then s.tb
      else if s.tb.prescale ≤ s.tb.prescaleCount + 1 then { s.tb with count := s.tb.count + 1, prescaleCount := 0 }
      else { s.tb with prescaleCount := s.tb.prescaleCount + 1 }) ∧
      (∃ c, s.clockTimebase.sup = { s.sup with counter := c }) ∧
      unchangedBut [.tb, .scrub, .sup, .moment] s s.clockTimebase := by
  have hruns : s.timeRuns = true ↔ s.power ≠ .retain := by simp [State.timeRuns, hpin]
  rw [clockTimebase_eq]
  by_cases hp : s.power = .retain
  · rw [if_neg fun h => hruns.mp h hp, if_pos hp]
    exact ⟨rfl, ⟨_, rfl⟩, frame_refl _ s⟩
  · have hcounted : unchangedBut [.tb] s { s with tb := { s.tb with prescaleCount := s.tb.prescaleCount + 1 } } := by
      intro f hf; cases f <;> first | rfl | exact absurd (by decide) hf
    rw [if_pos (hruns.mpr hp), if_neg hp]
    split
    · obtain ⟨htb, hsup, hframe⟩ :=
        tick_spec (s := { s with tb := { s.tb with prescaleCount := s.tb.prescaleCount + 1 } }) (hruns.mpr hp)
      exact ⟨htb, hsup, frame_comp hcounted hframe⟩
    · exact ⟨rfl, ⟨_, rfl⟩, frame_mono hcounted (by decide)⟩

/-! ## A device clock -/

/-- The state at a new moment of its own. -/
def emptied (s : State) : State := { s with moment := Moment.empty }

theorem emptied_frame (s : State) : unchangedBut [.moment] s (emptied s) := by
  intro f hf; cases f <;> first | rfl | exact absurd (by decide) hf

theorem step_clock {s : State} (hidle : s.pending = []) (h : calm s) :
    step s = .next (emptied s).clockSweep.clockStall.clockWindow.clockTimebase := by
  have hstep : step s = .next s.idle := by simp only [step, hidle]
  rw [hstep, State.idle, h.1, State.clock, if_neg (by rw [h.2]; decide), calm_openMoment h]
  rfl

/-- A device clock with no sweep running, by the stall count. -/
theorem emptied_clockSweep {s : State} (h : s.sweep.running = false) : (emptied s).clockSweep = emptied s :=
  clockSweep_over h

theorem clockWindow_emptied {s : State} (h : calm s) : (emptied s).clockWindow = emptied s :=
  clockWindow_open (s := emptied s) (calm_facts h).1

/-- With nothing else to do at a device clock, the prescale count is all that moves, or there is a tick. -/
theorem step_timebase {s : State} (hidle : s.pending = []) (h : calm s) (hsweep : s.sweep.running = false)
    (hwait : s.port.waiting = none) : step s = .next (emptied s).clockTimebase := by
  rw [step_clock hidle h, emptied_clockSweep hsweep, clockStall_none (s := emptied s) hwait, clockWindow_emptied h]

/-- A device clock with no sweep running: memory, and the transaction that waits. -/
theorem clock_waits {s : State} (h : calm s) (hsweep : s.sweep.running = false) :
    let t := (emptied s).clockSweep.clockStall.clockWindow.clockTimebase
    t.mem = s.mem ∧ t.sweep = s.sweep ∧ (s.port.waiting = none → t.port = s.port) ∧
      ∀ w, s.port.waiting = some w →
        (¬ waitEnds s → t.port = { s.port with stallCount := s.port.stallCount + 1 }) ∧
          (waitEnds s →
            t.port = { s.port with
              waiting := none, stallCount := 0, resp := .err, rdata := if w.access.write then none else some 0
              err := latched s.port.err .timeout w.access } ∧
            (s.sup.st ≠ .armed → raises [hostErrorEvent s .timeout w.access] s t)) := by
  have hfront := frame_comp (emptied_frame s) (clockStall_frame (emptied s)) (hs := [.port, .win, .sup, .log, .irq, .moment])
  have hpin : (emptied s).clockStall.clockWindow.rst.pinHeld = false :=
    (congrArg ResetState.pinHeld ((frame_comp hfront (clockWindow_frame _)
      (hs := [.port, .win, .sup, .log, .irq, .moment])) .rst (by decide))).trans h.2
  obtain ⟨-, ⟨c, hcounter⟩, htime⟩ := clockTimebase_spec (emptied s).clockStall.clockWindow hpin
  have hback := frame_comp (clockWindow_frame (emptied s).clockStall) htime (hs := [.sup, .log, .irq, .tb, .scrub, .moment])
  rw [emptied_clockSweep hsweep]
  intro t
  have hall := frame_comp hfront hback (hs := [.port, .win, .sup, .log, .irq, .moment, .tb, .scrub])
  have hport : t.port = (emptied s).clockStall.port := hback .port (by decide)
  refine ⟨hall .mem (by decide), hall .sweep (by decide), fun hw => ?_, fun w hw => ⟨fun hstay => ?_, fun hends => ?_⟩⟩
  · rw [hport, clockStall_none (s := emptied s) hw]; rfl
  · rw [hport, clockStall_stays (s := emptied s) hw hstay]; rfl
  · obtain ⟨hended, hsup, hraises⟩ := clockStall_ends (s := emptied s) hw hends
    refine ⟨hport.trans hended, fun hst => ?_⟩
    have hsame : (emptied s).clockStall.sup = s.sup := hsup.trans (counted_running hst)
    have hopen (p : Supervisor) (hp : p.st = s.sup.st) (u : State) : State.closingDue { u with sup := p } = false := by
      rw [State.closingDue]
      show (p.st == .armed && _) = false
      rw [hp, beq_eq_false_iff_ne.mpr hst, Bool.false_and]
    have hclosed : (emptied s).clockStall.closingDue = false := hopen _ (congrArg Supervisor.st hsame) (emptied s).clockStall
    rw [clockWindow_open hclosed] at htime hcounter
    have hticked : raises [hostErrorEvent s .timeout w.access] s
        { (emptied s).clockStall with sup := { (emptied s).clockStall.sup with counter := c } } :=
      raises_withSup (raises_from (emptied_frame s) hraises)
        ((hopen _ (congrArg Supervisor.st hsame) _).trans hclosed.symm)
    have htail : unchangedBut [.tb, .scrub, .moment]
        { (emptied s).clockStall with sup := { (emptied s).clockStall.sup with counter := c } } t := by
      have ht : (emptied s).clockStall.clockTimebase = t := by rw [← clockWindow_open hclosed]
      rw [ht] at htime hcounter
      have hmoved : unchangedBut [.sup]
          { (emptied s).clockStall with sup := { (emptied s).clockStall.sup with counter := c } } (emptied s).clockStall := by
        intro f hf; cases f <;> first | rfl | exact absurd (by decide) hf
      have hmost := frame_comp hmoved htime (hs := [.sup, .tb, .scrub, .moment])
      intro f hf
      by_cases hfield : f = .sup
      · subst hfield; exact hcounter
      · exact hmost f fun hmem => (List.mem_cons.mp hmem).elim hfield hf
    exact raises_frame hticked htail

/-- Settles O2: what is served next, its service, and the device clock by its parts. -/
theorem idleStepServesOrClocks : Obligations.IdleStepServesOrClocks := by
  refine ⟨fun s d => step_due, fun s => nextDue_moment, fun s r hnew hr hsub => ask_spec hnew hr hsub,
    fun s r hnew => ⟨by rw [cause_new hnew], by rw [cause_new hnew], cause_frame s r⟩,
    fun s r hold => ⟨if_pos hold, cause_old hold⟩, fun s r h => ?_, fun s r row n => step_req, fun s hidle h => ?_,
    fun s hidle h hp hsweep hwait hcount => ?_⟩
  · exact congrArg (fun t : State => (t.perform r).arbitrate) (begun_left h)
  · intro count ends ticks
    have hfront := frame_comp (frame_comp (emptied_frame s) (clockSweep_frame _)
      (hs := [.moment, .mem, .sweep, .log, .irq, .scrub, .arb, .win])) (frame_comp (clockStall_frame _) (clockWindow_frame _)
        (hs := [.port, .win, .sup, .log, .irq, .moment]))
      (hs := [.moment, .mem, .sweep, .log, .irq, .scrub, .arb, .win, .port, .sup])
    have hafter := frame_comp (clockStall_frame (emptied s).clockSweep) (clockWindow_frame _)
      (hs := [.port, .win, .sup, .log, .irq, .moment])
    have htb : (emptied s).clockSweep.clockStall.clockWindow.tb = s.tb := hfront .tb (by decide)
    have hpower : (emptied s).clockSweep.clockStall.clockWindow.power = s.power := hfront .power (by decide)
    have hpin := (congrArg ResetState.pinHeld (hfront .rst (by decide))).trans h.2
    obtain ⟨htime, -, hframe⟩ := clockTimebase_spec _ hpin
    rw [htb, hpower] at htime
    refine ⟨_, step_clock hidle h, htime, fun hrun => ?_, clock_waits h, fun hsweep hwait hticks => ?_⟩
    · have hrest := frame_comp hafter hframe (hs := [.port, .win, .sup, .log, .irq, .moment, .tb, .scrub])
      have hmem : (emptied s).clockSweep.clockStall.clockWindow.clockTimebase.mem = (emptied s).clockSweep.mem :=
        hrest .mem (by decide)
      have hsweeping : (emptied s).sweeping = true := by
        rw [State.sweeping, show (emptied s).sweep = s.sweep from rfl, show (emptied s).rst = s.rst from rfl, hrun, h.2]; rfl
      obtain ⟨hnext, hword⟩ := clockSweep_running hsweeping
      refine ⟨(hrest .sweep (by decide)).trans hnext, fun hwf hin => ?_⟩
      unfold otherWords at hword ⊢
      rw [hmem]
      exact hword hwf hin
    · obtain ⟨hp, hfull⟩ := hticks
      have hruns : (emptied s).timeRuns = true := by
        rw [State.timeRuns, show (emptied s).power = s.power from rfl, show (emptied s).rst = s.rst from rfl, h.2]
        simp [hp]
      rw [step_timebase hidle h hsweep hwait, clockTimebase_eq, if_pos hruns]
      refine (congrArg Host.Outcome.next (if_pos hfull)).trans ?_
      refine Eq.trans ?_ (congrArg (fun t : State => Host.Outcome.next t.tick) (settle_openMoment h)).symm
      refine congrArg Host.Outcome.next ?_
      exact (tick_eq (s := { emptied s with tb := { s.tb with prescaleCount := s.tb.prescaleCount + 1 } }) hruns).trans
        (tick_eq (s := emptied s) hruns).symm
  · have hruns : (emptied s).timeRuns = true := by
      rw [State.timeRuns, show (emptied s).power = s.power from rfl, show (emptied s).rst = s.rst from rfl, h.2]
      simp [hp]
    have hkept : (emptied s).clockTimebase =
        { emptied s with tb := { s.tb with prescaleCount := s.tb.prescaleCount + 1 } } := by
      rw [clockTimebase_eq, if_pos hruns]
      exact if_neg (Nat.not_le.mpr hcount)
    refine ⟨_, step_timebase hidle h hsweep hwait, by rw [hkept], by rw [hkept]; rfl, ?_⟩
    rw [hkept]
    intro f hf; cases f <;> first | rfl | exact absurd (by decide) hf

end Sys2Proof.Proofs
end
